-- ==== Sys2Proof/Word.lean ====
section
/-! DEFINITION. The word types the manual uses as bits: bytes of frames, 16-bit checks, the 32-bit station clock. -/

namespace Sys2Proof

/-- A byte of a frame, an answer or a configuration page (10, R177, R194). Hold serials and order numbers are bytes
that wrap (R27, R199). -/
abbrev Byte := BitVec 8

/-- A CRC-16 or a string digest (R22, R194). -/
abbrev Digest := BitVec 16

/-- A station-clock time in milliseconds: 32 bits, wrapping (00_scope, Station clock). -/
abbrev ClockTime := BitVec 32

end Sys2Proof
end

