-- ==== Sys2Proof/Syntax.lean ====
section
/-! DEFINITION. The commands of the KF2410: one constructor of `Instr` for each row of spec/opcode_table.json, and the
plain data their operands are made of. A command is one event that reaches the part: a frame, a timer's expiry, a
completion, a change of feedback, a supply start (00_scope, Ways in and out; Events and operations). -/

namespace Sys2Proof

/-- The station mode (R48). `opened` is the manual's OPEN. -/
inductive Mode where
  | start | join | opened | pledged | closed
  deriving DecidableEq, Repr

/-- A position of the module switch: of its command or its feedback (R131). -/
inductive SwitchPos where
  | opened | closed
  deriving DecidableEq, Repr

/-- The medium as the link controller senses it (R180). -/
inductive Medium where
  | idle | busy
  deriving DecidableEq, Repr

/-- The hold causes (R26). -/
inductive Cause where
  | high | low | tap | hot | cold | sum | link | discord | duplicate | send | config | switch | gateway | lockout
  deriving DecidableEq, Repr

/-- The details of a SWITCH hold (R135). -/
inductive SwitchDetail where
  | noClose | dropped | welded
  deriving DecidableEq, Repr

/-- The monitor kinds (R89). -/
inductive MonitorKind where
  | high | low | tap | hot | cold | sum
  deriving DecidableEq, Repr

/-- The lockout cause codes (R141). -/
inductive LockoutCause where
  | highSevere | lowSevere | hotSevere
  | recurHigh | recurLow | recurTap | recurHot | recurCold | recurSum
  | welded
  deriving DecidableEq, Repr

/-- The detail of a hold: a SWITCH detail or a lockout cause code (R25, R26). -/
inductive Detail where
  | switch (d : SwitchDetail)
  | lockout (c : LockoutCause)
  deriving DecidableEq, Repr

/-- The reasons of a DEMUR (R60). -/
inductive DemurReason where
  | joining | holds | membership | digest
  deriving DecidableEq, Repr

/-- The outcome of a retained-store write (R143). -/
inductive WriteOutcome where
  | ok | fail
  deriving DecidableEq, Repr

/-- A ballot field: an epoch and a proposer (00_scope, Ballots). The pair (0, 0) is the manual's (0, none); a frame may
carry any 32-bit epoch and any proposer byte (R195). -/
structure Ballot where
  epoch : Nat
  proposer : Nat
  deriving DecidableEq, Repr

/-- The ballot field (0, none) (R3, R194). -/
def Ballot.none : Ballot := ⟨0, 0⟩

/-- The content of a TALLY and the summary kept of it (R3). -/
structure Summary where
  mode : Mode
  holdCount : Nat
  lockoutSerial : Nat
  ballot : Ballot
  digest : Digest
  minCell : Option Nat
  maxCell : Option Nat
  moduleSum : Option Nat
  maxTemperature : Option Int
  advertisedDemand : Nat
  bleedingCount : Nat
  presentCount : Nat
  bleedPaused : Bool
  defaultConfiguration : Bool
  deriving DecidableEq, Repr

/-- The content of an ANNOUNCE (R12). -/
structure AnnounceData where
  generation : Nat
  fittedCells : Nat
  digest : Digest
  deriving DecidableEq, Repr

/-- What the front end delivers at a sweep's completion (R78): the 11 open-tap indications, the 10 cell differences in mV,
the module sum in mV, the two thermistors (absent: open or shorted) and the die temperature, in tenths of a degree. -/
structure Readings where
  tapOpen : List Bool
  cells : List Int
  moduleSum : Int
  t1 : Option Int
  t2 : Option Int
  die : Int
  deriving DecidableEq, Repr

/-- The five strap inputs while one supply lasts: their level, and the levels to which they are moved, one for each RESTART start to
come, the next one first; where none is listed the straps stand as they are (R161, log 6). -/
structure Straps where
  level : BitVec 5
  moved : List (BitVec 5)
  deriving DecidableEq, Repr

/-- The commands: one constructor per row of spec/opcode_table.json.

A frame command stands for the end of that frame on the line (R185) and carries its sender and content. An order command is
an ORDER frame from the gateway; it carries the order number, the target and the argument bytes that follow the order
kind in the payload (for a READ: the bytes that follow the record code), so that an order whose length does not fit its kind
can be said as well (R196, R198). -/
inductive Instr where
  /-- SUPPLY_START (R160): the supply comes up; the strap inputs, and the levels of the feedback and link pins at that moment. -/
  | supplyStart (straps : Straps) (feedback : SwitchPos) (medium : Medium)
  /-- STORE_READ_COMPLETION (R156). -/
  | storeReadCompletion
  /-- SWEEP_TIMER_EXPIRY (R77). -/
  | sweepTimerExpiry
  /-- SWEEP_COMPLETION (R83) with the readings of R78. -/
  | sweepCompletion (readings : Readings)
  /-- TALLY_TIMER_EXPIRY (R13). -/
  | tallyTimerExpiry
  /-- SETTLE_TIMER_EXPIRY (R55). -/
  | settleTimerExpiry
  /-- PROPOSAL_TIMER_EXPIRY (R64). -/
  | proposalTimerExpiry
  /-- PLEDGE_TIMER_EXPIRY (R67). -/
  | pledgeTimerExpiry
  /-- CONFIRM_TIMER_EXPIRY (R70). -/
  | confirmTimerExpiry
  /-- SETTLE_CHECK_EXPIRY (R135). -/
  | settleCheckExpiry
  /-- FEEDBACK_CHANGE (R134): the new level of the feedback input. -/
  | feedbackChange (level : SwitchPos)
  /-- ACCESS_WAIT_EXPIRY (R187). -/
  | accessWaitExpiry
  /-- FRAME_START (R186). -/
  | frameStart
  /-- SEND_COMPLETION (R188). -/
  | sendCompletion
  /-- SEND_ABORT (R189). -/
  | sendAbort
  /-- DISCARDED_FRAME (R178). -/
  | discardedFrame
  /-- DUPLICATE_FRAME (R191). -/
  | duplicateFrame
  /-- TALLY (R11). -/
  | tally (sender : Nat) (content : Summary)
  /-- ANNOUNCE (R12). -/
  | announce (sender : Nat) (content : AnnounceData)
  /-- HOLD (R38). -/
  | hold (sender : Nat) (serial : Byte) (cause : Cause) (index : Option Nat) (detail : Option Detail)
  /-- LIFT (R40). -/
  | lift (sender : Nat) (serial : Byte)
  /-- RECALL (R45). -/
  | recall (sender : Nat) (target : Nat)
  /-- PROPOSE (R59). -/
  | propose (sender : Nat) (ballot : Ballot) (size : Nat) (digest : Digest)
  /-- ASSENT (R62). -/
  | assent (sender : Nat) (ballot : Ballot)
  /-- DEMUR (R64). -/
  | demur (sender : Nat) (ballot : Ballot) (reason : DemurReason)
  /-- COMMIT (R66). -/
  | commit (sender : Nat) (ballot : Ballot)
  /-- WITHDRAW (R67). -/
  | withdraw (sender : Nat) (ballot : Ballot)
  /-- ANSWER of another station (R8): its whole payload. -/
  | answer (sender : Nat) (payload : List Byte)
  /-- ACTIVE_WRITE_COMPLETION (R148). -/
  | activeWriteCompletion (outcome : WriteOutcome)
  /-- RELEASE_WRITE_COMPLETION (R152, R153). -/
  | releaseWriteCompletion (outcome : WriteOutcome)
  /-- CONFIG_WRITE_COMPLETION (R155). -/
  | configWriteCompletion (outcome : WriteOutcome)
  /-- Order OPEN (R204). -/
  | orderOpen (number : Byte) (target : Nat) (args : List Byte)
  /-- Order FREE (R204). -/
  | orderFree (number : Byte) (target : Nat) (args : List Byte)
  /-- Order RECLOSE (R58). -/
  | reclose (number : Byte) (target : Nat) (args : List Byte)
  /-- Order RELEASE (R150): two argument bytes, the serial. -/
  | release (number : Byte) (target : Nat) (args : List Byte)
  /-- Order CLEAR-SWITCH (R138). -/
  | clearSwitch (number : Byte) (target : Nat) (args : List Byte)
  /-- Order STORE with commit 0 (R206): page byte, commit byte, page data. A STORE too short to hold a commit byte, or
  with a commit byte that is neither 0 nor 1, is said by this row. -/
  | store (number : Byte) (target : Nat) (args : List Byte)
  /-- Order STORE with commit 1 (R207): the page byte and the page data; the commit byte between them is 1. -/
  | storeCommit (number : Byte) (target : Nat) (page : Byte) (data : List Byte)
  /-- Order PAUSE-BLEED (R126). -/
  | pauseBleed (number : Byte) (target : Nat) (args : List Byte)
  /-- Order RESUME-BLEED (R127). -/
  | resumeBleed (number : Byte) (target : Nat) (args : List Byte)
  /-- Order RESTART (R205). -/
  | restart (number : Byte) (target : Nat) (args : List Byte)
  /-- Order READ IDENTITY (R208): index and page byte. -/
  | readIdentity (number : Byte) (target : Nat) (args : List Byte)
  /-- Order READ SAMPLES (R88). -/
  | readSamples (number : Byte) (target : Nat) (args : List Byte)
  /-- Order READ MONITOR (R111). -/
  | readMonitor (number : Byte) (target : Nat) (args : List Byte)
  /-- Order READ OWN-HOLDS (R208). -/
  | readOwnHolds (number : Byte) (target : Nat) (args : List Byte)
  /-- Order READ REMOTE-HOLDS (R208). -/
  | readRemoteHolds (number : Byte) (target : Nat) (args : List Byte)
  /-- Order READ ROSTER (R209). -/
  | readRoster (number : Byte) (target : Nat) (args : List Byte)
  /-- Order READ BLEED (R130). -/
  | readBleed (number : Byte) (target : Nat) (args : List Byte)
  /-- Order READ BALLOT (R74). -/
  | readBallot (number : Byte) (target : Nat) (args : List Byte)
  /-- Order READ LOCKOUT (R159). -/
  | readLockout (number : Byte) (target : Nat) (args : List Byte)
  /-- Order READ CONFIG (R208). -/
  | readConfig (number : Byte) (target : Nat) (args : List Byte)
  /-- An ORDER whose kind code is none of the ten (R198): the code and the bytes after it. -/
  | orderOfUnknownKind (number : Byte) (target : Nat) (kind : Byte) (args : List Byte)
  /-- A READ whose record code is none of the ten, or missing (R208): all bytes after the order kind. -/
  | readOfUnknownRecord (number : Byte) (target : Nat) (args : List Byte)
  deriving DecidableEq, Repr

end Sys2Proof
end

