-- ==== Sys2Proof/Decode.lean ====
section
/-! DEFINITION. The command that a word of spec/opcode_table.json's bits spells: no row of the table gives bits (log 21). Frames as
bytes are read by `Sys2Proof.Machine.receive`. -/

namespace Sys2Proof

/-- No row gives bits, so no word spells a command (log 21). -/
def decodeTableWord (_nbits _w : Nat) : Option Instr := none

end Sys2Proof
end

