-- ==== Sys2Proof/Config.lean ====
section
/-! DEFINITION. The configuration record's data (R171, R172), laid out in the three pages in which it is written and read
(R196), and the free values: what the manual leaves open, as constants without a body. -/

namespace Sys2Proof

/-- The reclose policy (R171). -/
inductive ReclosePolicy where
  | auto | ordered
  deriving DecidableEq, Repr

/-- Page 0: the string parameters, in digest order (R171, R194). Times in ms, the margin in mV. -/
structure StringParams where
  size : Nat
  gatewayRequired : Bool
  tallyPeriod : Nat
  lostAge : Nat
  budget : Nat
  margin : Nat
  policy : ReclosePolicy
  settleTime : Nat
  proposalTime : Nat
  deriving DecidableEq, Repr

/-- Page 1: the local parameters of cells and sweeps (R172, R196). -/
structure CellParams where
  fitted : Nat
  sweepInterval : Nat
  highLevel : Nat
  highSevere : Nat
  lowLevel : Nat
  lowSevere : Nat
  hysteresis : Nat
  sumTolerance : Nat
  bleedFloor : Nat
  deriving DecidableEq, Repr

/-- Page 2: the local parameters of temperatures, counts and times (R172, R196). Temperatures in tenths of a degree, the
recurrence window in minutes. -/
structure LimitParams where
  hotLevel : Int
  hotSevere : Int
  coldLevel : Int
  hysteresis : Int
  raiseCount : Nat
  easeCount : Nat
  dieLimit : Int
  window : Nat
  switchSettle : Nat
  deriving DecidableEq, Repr

/-- A configuration record: its three pages (R171, R172, R196). -/
structure ConfigRecord where
  shared : StringParams
  cells : CellParams
  limits : LimitParams
  deriving DecidableEq, Repr

/-- FREE VALUE (log 17): the four bytes written in the place of a recurrence time that the READ MONITOR record has room for
but the monitor does not hold. R196 gives the place and no code for it. -/
opaque Config.unusedTime : Nat → BitVec 32

/-- FREE VALUE (log 18): the code by which the READ LOCKOUT record writes the lockout record's state, NONE (false) or
ACTIVE (true). R196 gives it a byte; R197 lists no code for it. -/
opaque Config.recordStateCode : Bool → Byte

end Sys2Proof
end

