-- ==== Sys2Proof/Machine/Parameters.lean ====
section
/-! DEFINITION. The ranges and the defaults of the configuration record (R171 to R173) and the part's fixed numbers. -/

namespace Sys2Proof.Machine

/-- The addresses of the roster, 0 to 24 (R1). -/
def addresses : List Nat :=
  [0, 1, 2, 3, 4, 5, 6, 7, 8, 9, 10, 11, 12, 13, 14, 15, 16, 17, 18, 19, 20, 21, 22, 23, 24]

/-- The cells of a module, 1 to 10 (00_scope, Cells and taps). -/
def cellNumbers : List Nat := [1, 2, 3, 4, 5, 6, 7, 8, 9, 10]

/-- The taps of a module, 0 to 10 (00_scope, Cells and taps). -/
def tapNumbers : List Nat := [0, 1, 2, 3, 4, 5, 6, 7, 8, 9, 10]

/-- The capacity of the notice list (R28). -/
def noticeCapacity : Nat := 64

/-- The capacity of the remote hold table (R37). -/
def remoteCapacity : Nat := 48

/-- The capacity of the transmit queue (R183). -/
def queueCapacity : Nat := 8

/-- The failed attempts after which an item is dropped (R190). -/
def attemptLimit : Nat := 16

/-- The greatest epoch a ballot can have (00_scope, Ballots). -/
def lastEpoch : Nat := 4294967295

/-- The sweep interval before the store read has completed, in ms (R76). -/
def firstSweepInterval : Nat := 250

/-- The switch settle time before the store read has completed, in ms (R133). -/
def firstSettleTime : Nat := 50

/-- The ranges of the string parameters (R171, R173). -/
def stringInRange (p : StringParams) : Bool :=
  decide (2 ≤ p.size ∧ p.size ≤ 24) && decide (100 ≤ p.tallyPeriod ∧ p.tallyPeriod ≤ 2000 ∧ p.tallyPeriod % 50 = 0)
    && decide (3 ≤ p.lostAge ∧ p.lostAge ≤ 15) && decide (p.budget ≤ 120) && decide (5 ≤ p.margin ∧ p.margin ≤ 100)
    && decide (500 ≤ p.settleTime ∧ p.settleTime ≤ 30000) && decide (100 ≤ p.proposalTime ∧ p.proposalTime ≤ 2000)

/-- The ranges of page 1 (R172, R173). -/
def cellsInRange (p : CellParams) : Bool :=
  decide (4 ≤ p.fitted ∧ p.fitted ≤ 10) && decide (100 ≤ p.sweepInterval ∧ p.sweepInterval ≤ 1000)
    && decide (2000 ≤ p.highLevel ∧ p.highLevel ≤ 5000) && decide (2000 ≤ p.highSevere ∧ p.highSevere ≤ 5000)
    && decide (p.lowLevel ≤ 4500) && decide (p.lowSevere ≤ 4500)
    && decide (10 ≤ p.hysteresis ∧ p.hysteresis ≤ 300) && decide (20 ≤ p.sumTolerance ∧ p.sumTolerance ≤ 2000)
    && decide (1000 ≤ p.bleedFloor ∧ p.bleedFloor ≤ 4500)

/-- The ranges of page 2 (R172, R173). -/
def limitsInRange (p : LimitParams) : Bool :=
  decide (0 ≤ p.hotLevel ∧ p.hotLevel ≤ 1250) && decide (0 ≤ p.hotSevere ∧ p.hotSevere ≤ 1250)
    && decide (-400 ≤ p.coldLevel ∧ p.coldLevel ≤ 400) && decide (10 ≤ p.hysteresis ∧ p.hysteresis ≤ 200)
    && decide (1 ≤ p.raiseCount ∧ p.raiseCount ≤ 15) && decide (1 ≤ p.easeCount ∧ p.easeCount ≤ 15)
    && decide (500 ≤ p.dieLimit ∧ p.dieLimit ≤ 1250) && decide (1 ≤ p.window ∧ p.window ≤ 60)
    && decide (10 ≤ p.switchSettle ∧ p.switchSettle ≤ 200)

/-- A configuration record is valid when every field lies in its range; no relation between fields is checked (R173). -/
def configInRange (r : ConfigRecord) : Bool :=
  stringInRange r.shared && cellsInRange r.cells && limitsInRange r.limits

/-- The default configuration (R171, R172, R175). -/
def defaultConfig : ConfigRecord where
  shared :=
    { size := 12, gatewayRequired := false, tallyPeriod := 500, lostAge := 5, budget := 24, margin := 15,
      policy := .ordered, settleTime := 2000, proposalTime := 400 }
  cells :=
    { fitted := 10, sweepInterval := 250, highLevel := 4200, highSevere := 4350, lowLevel := 2800, lowSevere := 2500,
      hysteresis := 50, sumTolerance := 200, bleedFloor := 3300 }
  limits :=
    { hotLevel := 550, hotSevere := 700, coldLevel := -200, hysteresis := 50, raiseCount := 3, easeCount := 3,
      dieLimit := 1000, window := 10, switchSettle := 50 }

end Sys2Proof.Machine
end

