-- ==== Sys2Proof/Machine/Operands.lean ====
section
/-! DEFINITION. Operands as bytes: byte order, the CRC-16, the code tables of R197, the configuration pages of R196 and the
string digest (R22). -/

namespace Sys2Proof.Machine

/-! ## Byte order (R194): the most significant byte first -/

/-- One byte holding n. -/
def byte1 (n : Nat) : List Byte := [BitVec.ofNat 8 n]

/-- Two bytes holding n, most significant first. -/
def byte2 (n : Nat) : List Byte := [BitVec.ofNat 8 (n / 256), BitVec.ofNat 8 n]

/-- Four bytes holding n, most significant first. -/
def byte4 (n : Nat) : List Byte :=
  [BitVec.ofNat 8 (n / 16777216), BitVec.ofNat 8 (n / 65536), BitVec.ofNat 8 (n / 256), BitVec.ofNat 8 n]

/-- The number that bytes spell, the most significant first. -/
def beNat (bytes : List Byte) : Nat := bytes.foldl (fun acc b => acc * 256 + b.toNat) 0

/-- The unsigned field of len bytes at offset off of a payload. -/
def fieldNat (payload : List Byte) (off len : Nat) : Nat := beNat ((payload.drop off).take len)

/-- A 16-bit two's complement value as a signed number (R194). -/
def signed16 (n : Nat) : Int := if n < 32768 then (n : Int) else (n : Int) - 65536

/-- A signed number as two bytes of two's complement (R194). -/
def tempBytes (v : Int) : List Byte := byte2 (v % 65536).toNat

/-- An optional 2-byte unsigned field; absent is 0xFFFF (R194). -/
def optBytes2 : Option Nat → List Byte
  | some n => byte2 n
  | none => byte2 65535

/-- An optional 1-byte field; absent is 0xFF (R194). -/
def optByte1 : Option Nat → List Byte
  | some n => byte1 n
  | none => byte1 255

/-- An optional temperature; absent is 0x8000 (R194). -/
def optTempBytes : Option Int → List Byte
  | some v => tempBytes v
  | none => byte2 32768

/-- A read of an optional 2-byte unsigned field. -/
def readOpt2 (n : Nat) : Option Nat := if n = 65535 then none else some n

/-- A read of an optional temperature. -/
def readOptTemp (n : Nat) : Option Int := if n = 32768 then none else some (signed16 n)

/-- A flag as a byte: no 0, yes 1 (R197). -/
def flagByte (b : Bool) : Byte := if b then 1 else 0

/-! ## CRC-16 (R194): generator x^16 + x^12 + x^5 + 1, initial value 0xFFFF, most significant bit first, no inversion -/

/-- One bit of the CRC-16. -/
def crcBit (crc : Digest) (bit : Bool) : Digest :=
  if crc.msb != bit then (crc <<< 1) ^^^ 0x1021#16 else crc <<< 1

/-- One byte of the CRC-16, bit 7 first. -/
def crcByte (crc : Digest) (b : Byte) : Digest :=
  [7, 6, 5, 4, 3, 2, 1, 0].foldl (fun c i => crcBit c (b.getLsbD i)) crc

/-- The CRC-16 of a sequence of bytes. -/
def crc16 (bytes : List Byte) : Digest := bytes.foldl crcByte 0xFFFF#16

/-! ## Codes (R197) -/

def modeCode : Mode → Nat
  | .start => 0
  | .join => 1
  | .opened => 2
  | .pledged => 3
  | .closed => 4

/-- The mode a TALLY may show: START is a code of answers only. -/
def tallyMode : Nat → Option Mode
  | 1 => some .join
  | 2 => some .opened
  | 3 => some .pledged
  | 4 => some .closed
  | _ => none

def causeCode : Cause → Nat
  | .high => 1
  | .low => 2
  | .tap => 3
  | .hot => 4
  | .cold => 5
  | .sum => 6
  | .link => 7
  | .discord => 8
  | .duplicate => 9
  | .send => 10
  | .config => 11
  | .switch => 12
  | .gateway => 13
  | .lockout => 14

def causeOfCode : Nat → Option Cause
  | 1 => some .high
  | 2 => some .low
  | 3 => some .tap
  | 4 => some .hot
  | 5 => some .cold
  | 6 => some .sum
  | 7 => some .link
  | 8 => some .discord
  | 9 => some .duplicate
  | 10 => some .send
  | 11 => some .config
  | 12 => some .switch
  | 13 => some .gateway
  | 14 => some .lockout
  | _ => none

def switchDetailCode : SwitchDetail → Nat
  | .noClose => 1
  | .dropped => 2
  | .welded => 3

def switchDetailOfCode : Nat → Option SwitchDetail
  | 1 => some .noClose
  | 2 => some .dropped
  | 3 => some .welded
  | _ => none

def lockoutCauseCode : LockoutCause → Nat
  | .highSevere => 1
  | .lowSevere => 2
  | .hotSevere => 3
  | .recurHigh => 4
  | .recurLow => 5
  | .recurTap => 6
  | .recurHot => 7
  | .recurCold => 8
  | .recurSum => 9
  | .welded => 10

def lockoutCauseOfCode : Nat → Option LockoutCause
  | 1 => some .highSevere
  | 2 => some .lowSevere
  | 3 => some .hotSevere
  | 4 => some .recurHigh
  | 5 => some .recurLow
  | 6 => some .recurTap
  | 7 => some .recurHot
  | 8 => some .recurCold
  | 9 => some .recurSum
  | 10 => some .welded
  | _ => none

def detailCode : Detail → Nat
  | .switch d => switchDetailCode d
  | .lockout c => lockoutCauseCode c

/-- The detail a code names for a cause: only SWITCH and LOCKOUT have detail codes (R197). -/
def detailOfCode (cause : Cause) (n : Nat) : Option Detail :=
  match cause with
  | .switch => (switchDetailOfCode n).map .switch
  | .lockout => (lockoutCauseOfCode n).map .lockout
  | _ => none

def demurReasonCode : DemurReason → Nat
  | .joining => 1
  | .holds => 2
  | .membership => 3
  | .digest => 4

def demurReasonOfCode : Nat → Option DemurReason
  | 1 => some .joining
  | 2 => some .holds
  | 3 => some .membership
  | 4 => some .digest
  | _ => none

def monitorKindCode : MonitorKind → Nat
  | .high => 1
  | .low => 2
  | .tap => 3
  | .hot => 4
  | .cold => 5
  | .sum => 6

def policyCode : ReclosePolicy → Nat
  | .auto => 1
  | .ordered => 2

def policyOfCode : Nat → Option ReclosePolicy
  | 1 => some .auto
  | 2 => some .ordered
  | _ => none

/-- A flag byte of a configuration page: no 0, yes 1 (R194). -/
def flagOfCode : Nat → Option Bool
  | 0 => some false
  | 1 => some true
  | _ => none

/-! ## Configuration pages (R196) and the string digest (R22, R194) -/

/-- Page 0: the 12 bytes over which the string digest is computed as well. -/
def page0Bytes (p : StringParams) : List Byte :=
  byte1 p.size ++ [flagByte p.gatewayRequired] ++ byte2 p.tallyPeriod ++ byte1 p.lostAge ++ byte1 p.budget
    ++ byte1 p.margin ++ byte1 (policyCode p.policy) ++ byte2 p.settleTime ++ byte2 p.proposalTime

/-- Page 1: 17 bytes. -/
def page1Bytes (p : CellParams) : List Byte :=
  byte1 p.fitted ++ byte2 p.sweepInterval ++ byte2 p.highLevel ++ byte2 p.highSevere ++ byte2 p.lowLevel
    ++ byte2 p.lowSevere ++ byte2 p.hysteresis ++ byte2 p.sumTolerance ++ byte2 p.bleedFloor

/-- Page 2: 14 bytes. -/
def page2Bytes (p : LimitParams) : List Byte :=
  tempBytes p.hotLevel ++ tempBytes p.hotSevere ++ tempBytes p.coldLevel ++ tempBytes p.hysteresis
    ++ byte1 p.raiseCount ++ byte1 p.easeCount ++ tempBytes p.dieLimit ++ byte1 p.window ++ byte1 p.switchSettle

/-- Page 0 read back: 12 bytes with every field in its range (R206). -/
def page0Of (d : List Byte) : Option StringParams :=
  if d.length = 12 then
    match flagOfCode (fieldNat d 1 1), policyOfCode (fieldNat d 7 1) with
    | some g, some pol =>
      let p : StringParams :=
        { size := fieldNat d 0 1, gatewayRequired := g, tallyPeriod := fieldNat d 2 2, lostAge := fieldNat d 4 1,
          budget := fieldNat d 5 1, margin := fieldNat d 6 1, policy := pol, settleTime := fieldNat d 8 2,
          proposalTime := fieldNat d 10 2 }
      if stringInRange p then some p else none
    | _, _ => none
  else none

/-- Page 1 read back: 17 bytes with every field in its range (R206). -/
def page1Of (d : List Byte) : Option CellParams :=
  if d.length = 17 then
    let p : CellParams :=
      { fitted := fieldNat d 0 1, sweepInterval := fieldNat d 1 2, highLevel := fieldNat d 3 2,
        highSevere := fieldNat d 5 2, lowLevel := fieldNat d 7 2, lowSevere := fieldNat d 9 2,
        hysteresis := fieldNat d 11 2, sumTolerance := fieldNat d 13 2, bleedFloor := fieldNat d 15 2 }
    if cellsInRange p then some p else none
  else none

/-- Page 2 read back: 14 bytes with every field in its range (R206). -/
def page2Of (d : List Byte) : Option LimitParams :=
  if d.length = 14 then
    let p : LimitParams :=
      { hotLevel := signed16 (fieldNat d 0 2), hotSevere := signed16 (fieldNat d 2 2),
        coldLevel := signed16 (fieldNat d 4 2), hysteresis := signed16 (fieldNat d 6 2),
        raiseCount := fieldNat d 8 1, easeCount := fieldNat d 9 1, dieLimit := signed16 (fieldNat d 10 2),
        window := fieldNat d 12 1, switchSettle := fieldNat d 13 1 }
    if limitsInRange p then some p else none
  else none

/-- The string digest of a configuration: the CRC-16 over page 0 (R22, R194). -/
def stringDigest (p : StringParams) : Digest := crc16 (page0Bytes p)

end Sys2Proof.Machine
end

