-- ==== Sys2Proof/Machine/Frames.lean ====
section
/-! DEFINITION. Frames (R177 to R179, R194 to R197): the content a station sends or takes, which frames are valid, the bytes
of a frame, and the command that a received sequence of bytes stands for. -/

namespace Sys2Proof.Machine

/-- The content of a frame a station can send (R179, R195). The content of an ANSWER is its whole payload. -/
inductive Body where
  | tally (content : Summary)
  | announce (content : AnnounceData)
  | hold (serial : Byte) (cause : Cause) (index : Option Nat) (detail : Option Detail)
  | lift (serial : Byte)
  | recall (target : Nat)
  | propose (ballot : Ballot) (size : Nat) (digest : Digest)
  | assent (ballot : Ballot)
  | demur (ballot : Ballot) (reason : DemurReason)
  | commit (ballot : Ballot)
  | withdraw (ballot : Ballot)
  | answer (payload : List Byte)
  deriving DecidableEq, Repr

/-! ## Validity of the fields (R178, R195) -/

/-- An epoch of 4 bytes and a proposer of one byte; every such pair is valid in a frame (R195). -/
def ballotFits (b : Ballot) : Bool := decide (b.epoch < 4294967296) && decide (b.proposer < 256)

/-- An optional 2-byte unsigned value: 0xFFFF is the absence code (R194). -/
def optFits (o : Option Nat) : Bool := o.all (fun n => decide (n < 65535))

/-- An optional temperature of 16 bits: 0x8000 is the absence code (R194). -/
def optTempFits (o : Option Int) : Bool := o.all (fun v => decide (-32767 ≤ v ∧ v ≤ 32767))

/-- The ranges of a TALLY's fields (R195). -/
def summaryFits (t : Summary) : Bool :=
  (tallyMode (modeCode t.mode)).isSome && decide (t.holdCount ≤ 32) && decide (t.lockoutSerial < 65536)
    && ballotFits t.ballot && optFits t.minCell && optFits t.maxCell && optFits t.moduleSum && optTempFits t.maxTemperature
    && decide (t.advertisedDemand ≤ 5) && decide (t.bleedingCount ≤ 5) && decide (t.presentCount ≤ 25)

/-- The ranges of an ANNOUNCE's fields (R195). -/
def announceFits (d : AnnounceData) : Bool :=
  decide (d.generation < 65536) && decide (4 ≤ d.fittedCells ∧ d.fittedCells ≤ 10)

/-- A detail fits its cause when R197 gives it a code there: DEDUCED, log 9. -/
def detailFits (cause : Cause) (detail : Option Detail) : Bool :=
  match cause, detail with
  | _, none => true
  | .switch, some (.switch _) => true
  | .lockout, some (.lockout _) => true
  | _, some _ => false

/-- The result byte of an ANSWER: result in the high four bits, reason in the low four, reason 0 unless REFUSED (R196,
R197): DEDUCED, log 10. -/
def resultFits (b : Byte) : Bool :=
  let result := b.toNat / 16
  let reason := b.toNat % 16
  if result = 2 then decide (1 ≤ reason ∧ reason ≤ 6) else decide (1 ≤ result ∧ result ≤ 4 ∧ reason = 0)

/-- An ANSWER payload: 2 to 32 bytes (R194) with a result byte of R197. -/
def answerFits (payload : List Byte) : Bool :=
  decide (payload.length ≤ 32) &&
    match payload with
    | _ :: r :: _ => resultFits r
    | _ => false

/-- A frame's content is within the ranges and codes of section 10.8 (R178). -/
def Body.fits : Body → Bool
  | .tally t => summaryFits t
  | .announce d => announceFits d
  | .hold _ c i d => i.all (fun n => decide (n ≤ 10)) && detailFits c d
  | .lift _ => true
  | .recall t => decide (t ≤ 31)
  | .propose b n _ => ballotFits b && decide (2 ≤ n ∧ n ≤ 24)
  | .assent b => ballotFits b
  | .demur b _ => ballotFits b
  | .commit b => ballotFits b
  | .withdraw b => ballotFits b
  | .answer p => answerFits p

/-- The kind codes (R194). -/
def Body.kindCode : Body → Nat
  | .tally _ => 1
  | .announce _ => 2
  | .hold .. => 3
  | .lift _ => 4
  | .recall _ => 5
  | .propose .. => 6
  | .assent _ => 7
  | .demur .. => 8
  | .commit _ => 9
  | .withdraw _ => 10
  | .answer _ => 12

/-- The kind code of ORDER (R194). -/
def orderKindCode : Nat := 11

/-- The kinds a sender may use (R179): the gateway sends codes 1 to 5 and ORDER, a station codes 1 to 10 and ANSWER. -/
def kindAllowed (sender kind : Nat) : Bool :=
  if sender = 0 then decide (1 ≤ kind ∧ kind ≤ 5) || decide (kind = orderKindCode)
  else decide (sender ≤ 24) && (decide (1 ≤ kind ∧ kind ≤ 10) || decide (kind = 12))

/-- A frame other than an ORDER is valid (R178, R179). -/
def frameValid (sender : Nat) (b : Body) : Bool := kindAllowed sender b.kindCode && b.fits

/-- An ORDER frame is valid at the link: target 0 to 31 and a payload of at most 32 bytes; its arguments are judged by the
order handler (R194, R196, R198). `extra` is the number of payload bytes after number, target and kind. -/
def orderFrameValid (target extra : Nat) : Bool := decide (target ≤ 31) && decide (3 + extra ≤ 32)

/-! ## Frames as bytes -/

/-- The bytes of a ballot field. -/
def ballotBytes (b : Ballot) : List Byte := byte4 b.epoch ++ byte1 b.proposer

/-- The 23 bytes of a TALLY (R195), also written in READ ROSTER page 1 (R196). -/
def summaryBytes (t : Summary) : List Byte :=
  byte1 (modeCode t.mode) ++ byte1 t.holdCount ++ byte2 t.lockoutSerial ++ ballotBytes t.ballot ++ byte2 t.digest.toNat
    ++ optBytes2 t.minCell ++ optBytes2 t.maxCell ++ optBytes2 t.moduleSum ++ optTempBytes t.maxTemperature
    ++ byte1 t.advertisedDemand ++ byte1 t.bleedingCount ++ byte1 t.presentCount
    ++ byte1 ((if t.bleedPaused then 1 else 0) + (if t.defaultConfiguration then 2 else 0))

/-- The 5 bytes of an ANNOUNCE (R195). -/
def announceBytes (d : AnnounceData) : List Byte := byte2 d.generation ++ byte1 d.fittedCells ++ byte2 d.digest.toNat

/-- The payload of a frame (R195, R196). -/
def Body.payload : Body → List Byte
  | .tally t => summaryBytes t
  | .announce d => announceBytes d
  | .hold n c i d => n :: byte1 (causeCode c) ++ optByte1 i ++ optByte1 (d.map detailCode)
  | .lift n => [n]
  | .recall t => byte1 t
  | .propose b n d => ballotBytes b ++ byte1 n ++ byte2 d.toNat
  | .assent b => ballotBytes b
  | .demur b r => ballotBytes b ++ byte1 (demurReasonCode r)
  | .commit b => ballotBytes b
  | .withdraw b => ballotBytes b
  | .answer p => p

/-- A frame on the line: header, payload and CRC-16, high byte first (R177, R194). -/
def frameBytes (sender kind : Nat) (payload : List Byte) : List Byte :=
  let head := byte1 sender ++ byte1 kind ++ byte1 payload.length
  head ++ payload ++ byte2 (crc16 (head ++ payload)).toNat

/-- The bytes of a frame with a body. -/
def Body.wire (b : Body) (sender : Nat) : List Byte := frameBytes sender b.kindCode b.payload

/-- The time a frame with a payload of p bytes occupies the line, in microseconds (R177). -/
def lineTime (p : Nat) : Nat := (5 + p) * 40

/-! ## Bytes as frames -/

/-- The ballot at an offset of a payload. -/
def ballotAt (p : List Byte) (off : Nat) : Ballot := ⟨fieldNat p off 4, fieldNat p (off + 4) 1⟩

/-- A TALLY payload read (R195). Flag bits not named are ignored. -/
def summaryOf (p : List Byte) : Option Summary :=
  if p.length = 23 then
    (tallyMode (fieldNat p 0 1)).map fun m =>
      { mode := m, holdCount := fieldNat p 1 1, lockoutSerial := fieldNat p 2 2, ballot := ballotAt p 4,
        digest := BitVec.ofNat 16 (fieldNat p 9 2), minCell := readOpt2 (fieldNat p 11 2),
        maxCell := readOpt2 (fieldNat p 13 2), moduleSum := readOpt2 (fieldNat p 15 2),
        maxTemperature := readOptTemp (fieldNat p 17 2), advertisedDemand := fieldNat p 19 1,
        bleedingCount := fieldNat p 20 1, presentCount := fieldNat p 21 1,
        bleedPaused := decide (fieldNat p 22 1 % 2 = 1), defaultConfiguration := decide (fieldNat p 22 1 / 2 % 2 = 1) }
  else none

/-- An optional detail byte read for a cause: none inside for a code R197 does not give. -/
def readDetail (cause : Cause) (n : Nat) : Option (Option Detail) :=
  if n = 255 then some none else (detailOfCode cause n).map some

/-- An optional index byte: 0xFF is absent (R194). -/
def readIndex (n : Nat) : Option Nat := if n = 255 then none else some n

/-- A payload read as the content of its kind; none when its length or one of its codes is not one the kind allows (R178,
R195). Ranges are judged by `Body.fits`. -/
def bodyOf (kind : Nat) (p : List Byte) : Option Body :=
  match kind with
  | 1 => (summaryOf p).map .tally
  | 2 =>
    if p.length = 5 then some (.announce ⟨fieldNat p 0 2, fieldNat p 2 1, BitVec.ofNat 16 (fieldNat p 3 2)⟩) else none
  | 3 =>
    if p.length = 4 then
      match causeOfCode (fieldNat p 1 1) with
      | some c =>
        (readDetail c (fieldNat p 3 1)).map fun d => .hold (BitVec.ofNat 8 (fieldNat p 0 1)) c (readIndex (fieldNat p 2 1)) d
      | none => none
    else none
  | 4 => if p.length = 1 then some (.lift (BitVec.ofNat 8 (fieldNat p 0 1))) else none
  | 5 => if p.length = 1 then some (.recall (fieldNat p 0 1)) else none
  | 6 =>
    if p.length = 8 then some (.propose (ballotAt p 0) (fieldNat p 5 1) (BitVec.ofNat 16 (fieldNat p 6 2))) else none
  | 7 => if p.length = 5 then some (.assent (ballotAt p 0)) else none
  | 8 =>
    if p.length = 6 then (demurReasonOfCode (fieldNat p 5 1)).map fun r => .demur (ballotAt p 0) r else none
  | 9 => if p.length = 5 then some (.commit (ballotAt p 0)) else none
  | 10 => if p.length = 5 then some (.withdraw (ballotAt p 0)) else none
  | 12 => some (.answer p)
  | _ => none

/-- The command a frame with a body is, from its sender. -/
def Body.command (sender : Nat) : Body → Instr
  | .tally t => .tally sender t
  | .announce d => .announce sender d
  | .hold n c i d => .hold sender n c i d
  | .lift n => .lift sender n
  | .recall t => .recall sender t
  | .propose b n d => .propose sender b n d
  | .assent b => .assent sender b
  | .demur b r => .demur sender b r
  | .commit b => .commit sender b
  | .withdraw b => .withdraw sender b
  | .answer p => .answer sender p

/-- The row of a READ order by its record code (R197), with the bytes after it. -/
def readCommand (number : Byte) (target : Nat) (args : List Byte) : Instr :=
  match args with
  | [] => .readOfUnknownRecord number target []
  | code :: rest =>
    match code.toNat with
    | 1 => .readIdentity number target rest
    | 2 => .readSamples number target rest
    | 3 => .readMonitor number target rest
    | 4 => .readOwnHolds number target rest
    | 5 => .readRemoteHolds number target rest
    | 6 => .readRoster number target rest
    | 7 => .readBleed number target rest
    | 8 => .readBallot number target rest
    | 9 => .readLockout number target rest
    | 10 => .readConfig number target rest
    | _ => .readOfUnknownRecord number target args

/-- The row of a STORE order by its commit byte (R206, R207). -/
def storeCommand (number : Byte) (target : Nat) (args : List Byte) : Instr :=
  match args with
  | page :: commit :: data => if commit = 1#8 then .storeCommit number target page data else .store number target args
  | _ => .store number target args

/-- The row an ORDER payload is, by its kind code (R196, R197). -/
def orderCommand (number : Byte) (target : Nat) (kind : Byte) (args : List Byte) : Instr :=
  match kind.toNat with
  | 1 => readCommand number target args
  | 2 => .orderOpen number target args
  | 3 => .orderFree number target args
  | 4 => .reclose number target args
  | 5 => .release number target args
  | 6 => .clearSwitch number target args
  | 7 => storeCommand number target args
  | 8 => .pauseBleed number target args
  | 9 => .resumeBleed number target args
  | 10 => .restart number target args
  | _ => .orderOfUnknownKind number target kind args

/-- The command an ORDER payload of 3 to 32 bytes is; a target above 31 discards the frame (R178, R196). -/
def orderOf (p : List Byte) : Instr :=
  match p with
  | number :: target :: kind :: args =>
    if target.toNat ≤ 31 then orderCommand number target.toNat kind args else .discardedFrame
  | _ => .discardedFrame

/-- The command that the bytes of one received frame stand for: the checks of R178 in full, and DISCARDED_FRAME when one
fails. -/
def receive (frame : List Byte) : Instr :=
  match frame with
  | sender :: kind :: len :: rest =>
    let payload := rest.take len.toNat
    if len.toNat ≤ 32 ∧ rest.length = len.toNat + 2 ∧
        rest.drop len.toNat = byte2 (crc16 (sender :: kind :: len :: payload)).toNat ∧
        sender.toNat ≤ 24 ∧ kindAllowed sender.toNat kind.toNat = true then
      if kind.toNat = orderKindCode then orderOf payload
      else
        match bodyOf kind.toNat payload with
        | some b => if b.fits then b.command sender.toNat else .discardedFrame
        | none => .discardedFrame
    else .discardedFrame
  | _ => .discardedFrame

/-- An ORDER's payload: number, target, order kind code, and the bytes after it (R196, R197). -/
def orderPayload (number : Byte) (target kind : Nat) (args : List Byte) : List Byte :=
  number :: BitVec.ofNat 8 target :: BitVec.ofNat 8 kind :: args

/-- The payload of a READ order (R196, R197). -/
def readPayload (number : Byte) (target code : Nat) (args : List Byte) : List Byte :=
  orderPayload number target 1 (BitVec.ofNat 8 code :: args)

/-- The content of the frame that a frame command is, with its sender. -/
def bodyOfCommand : Instr → Option (Nat × Body)
  | .tally a t => some (a, .tally t)
  | .announce a d => some (a, .announce d)
  | .hold a n c i d => some (a, .hold n c i d)
  | .lift a n => some (a, .lift n)
  | .recall a t => some (a, .recall t)
  | .propose a b n d => some (a, .propose b n d)
  | .assent a b => some (a, .assent b)
  | .demur a b r => some (a, .demur b r)
  | .commit a b => some (a, .commit b)
  | .withdraw a b => some (a, .withdraw b)
  | .answer a p => some (a, .answer p)
  | _ => none

/-- The payload of the ORDER frame that an order command is (R196, R197). -/
def payloadOfOrder : Instr → Option (List Byte)
  | .orderOpen n t a => some (orderPayload n t 2 a)
  | .orderFree n t a => some (orderPayload n t 3 a)
  | .reclose n t a => some (orderPayload n t 4 a)
  | .release n t a => some (orderPayload n t 5 a)
  | .clearSwitch n t a => some (orderPayload n t 6 a)
  | .store n t a => some (orderPayload n t 7 a)
  | .storeCommit n t page data => some (orderPayload n t 7 (page :: 1#8 :: data))
  | .pauseBleed n t a => some (orderPayload n t 8 a)
  | .resumeBleed n t a => some (orderPayload n t 9 a)
  | .restart n t a => some (orderPayload n t 10 a)
  | .readIdentity n t a => some (readPayload n t 1 a)
  | .readSamples n t a => some (readPayload n t 2 a)
  | .readMonitor n t a => some (readPayload n t 3 a)
  | .readOwnHolds n t a => some (readPayload n t 4 a)
  | .readRemoteHolds n t a => some (readPayload n t 5 a)
  | .readRoster n t a => some (readPayload n t 6 a)
  | .readBleed n t a => some (readPayload n t 7 a)
  | .readBallot n t a => some (readPayload n t 8 a)
  | .readLockout n t a => some (readPayload n t 9 a)
  | .readConfig n t a => some (readPayload n t 10 a)
  | .orderOfUnknownKind n t k a => some (orderPayload n t k.toNat a)
  | .readOfUnknownRecord n t a => some (orderPayload n t 1 a)
  | _ => none

/-- The bytes on the line of the frame that a frame or an order command is; none for every other command. -/
def wireOfCommand (i : Instr) : Option (List Byte) :=
  match bodyOfCommand i, payloadOfOrder i with
  | some (a, b), _ => some (b.wire a)
  | none, some p => some (frameBytes 0 orderKindCode p)
  | none, none => none

end Sys2Proof.Machine
end

