-- ==== Sys2Proof/Machine/Blocks.lean ====
section
/-! DEFINITION. The ten blocks of the KF2410 and the start sequence (00_scope, Blocks): what each one owns, as plain data, and
each one's start values (gathered in 09, section 9.7). -/

namespace Sys2Proof.Machine

/-- A timer: stopped, or running with its length and the time left, in microseconds (R49, R76, R133). -/
inductive Timer where
  | stopped
  | running (length left : Nat)
  deriving DecidableEq, Repr

/-- A timer started with a length in milliseconds. -/
def Timer.startMs (ms : Nat) : Timer := .running (ms * 1000) (ms * 1000)

/-- Whether a timer is running. -/
def Timer.isRunning : Timer → Bool
  | .stopped => false
  | .running _ _ => true

/-- One microsecond passes. -/
def Timer.tick : Timer → Timer
  | .stopped => .stopped
  | .running n left => .running n (left - 1)

/-- A running timer has run its length. -/
def Timer.due : Timer → Bool
  | .stopped => false
  | .running _ left => decide (left = 0)

/-- The input pins whose level the part can read at any moment: the five address straps and the switch feedback
(00_scope, Pin summary). -/
structure Pins where
  straps : Straps
  feedback : SwitchPos
  deriving DecidableEq, Repr

/-- The station clock (00_scope, Station clock) and the microseconds within its present millisecond. -/
structure StationClock where
  ms : ClockTime
  us : Nat
  deriving DecidableEq, Repr

/-! ## Start sequence and configuration in use -/

/-- Where the configuration in use came from (R174). -/
inductive ConfigSource where
  | defaults | slotA | slotB
  deriving DecidableEq, Repr

/-- The configuration in use: the record, its generation and its source (R174). -/
structure ConfigInUse where
  record : ConfigRecord
  generation : Nat
  source : ConfigSource
  deriving DecidableEq, Repr

/-- The start sequence (R161, R165) with the configuration in use and the own string digest (R22, R174). -/
structure StartSequence where
  address : Nat
  readComplete : Bool
  firstSweepComplete : Bool
  config : Option ConfigInUse
  digest : Digest
  deriving DecidableEq, Repr

/-- The start sequence at START entry: the straps are read as one number, strap k with weight 2^(k-1) (R161). -/
def StartSequence.atStart (straps : BitVec 5) : StartSequence :=
  { address := straps.toNat, readComplete := false, firstSweepComplete := false, config := none, digest := 0 }

/-- A valid strap address lies from 1 to 24 (R161). -/
def validAddress (a : Nat) : Bool := decide (1 ≤ a ∧ a ≤ 24)

/-! ## Sweep unit -/

/-- A sample set (R79): cells 1 to 10 (absent: invalid), taps 0 to 10, in order. -/
structure SampleSet where
  cells : List (Option Nat)
  tapOpen : List Bool
  moduleSum : Nat
  t1 : Option Int
  t2 : Option Int
  die : Int
  completed : ClockTime
  deriving DecidableEq, Repr

/-- The sweep unit (R75). -/
structure SweepUnit where
  timer : Timer
  inProgress : Bool
  latest : Option SampleSet
  deriving DecidableEq, Repr

/-- The sweep unit at START entry: with a valid strap address the first sweep and its timer begin (R75, R76). -/
def SweepUnit.atStart (valid : Bool) : SweepUnit :=
  { timer := if valid then Timer.startMs firstSweepInterval else .stopped, inProgress := valid, latest := none }

/-! ## Monitor bank -/

/-- The states of a monitor (R89). -/
inductive MonitorState where
  | clear | counting | held | easing
  deriving DecidableEq, Repr

/-- The classes of a reading (R91). -/
inductive MonitorClass where
  | crossing | easing | between | frozen
  deriving DecidableEq, Repr

/-- A monitor record (R89). The recurrence list is newest first. -/
structure Monitor where
  number : Nat
  kind : MonitorKind
  cell : Option Nat
  state : MonitorState
  count : Nat
  severeCount : Nat
  recurrence : List ClockTime
  raisedTap : Option Nat
  lastClass : Option MonitorClass
  deriving DecidableEq, Repr

/-- The monitor bank (R89) and the completion time of the sample set last evaluated (R111). -/
structure MonitorBank where
  records : List Monitor
  lastEvaluated : Option ClockTime
  deriving DecidableEq, Repr

/-- A monitor in its start values (R89). -/
def Monitor.fresh (number : Nat) (kind : MonitorKind) (cell : Option Nat) : Monitor :=
  { number := number, kind := kind, cell := cell, state := .clear, count := 0, severeCount := 0, recurrence := [],
    raisedTap := none, lastClass := none }

/-- Before the store read no monitor is formed (R90). -/
def MonitorBank.atStart : MonitorBank := { records := [], lastEvaluated := none }

/-! ## Hold unit -/

/-- A record of the own hold set (R25). -/
structure OwnHold where
  serial : Byte
  cause : Cause
  index : Option Nat
  detail : Option Detail
  raised : ClockTime
  deriving DecidableEq, Repr

/-- The kinds of a notice (R28). -/
inductive NoticeKind where
  | hold | lift
  deriving DecidableEq, Repr

/-- A notice (R28); `item` is the model's number for it, by which the link controller names it. -/
structure Notice where
  item : Nat
  kind : NoticeKind
  serial : Byte
  replay : Bool
  deriving DecidableEq, Repr

/-- A record of the remote hold table (R37). -/
structure RemoteHold where
  origin : Nat
  serial : Byte
  cause : Cause
  index : Option Nat
  detail : Option Detail
  arrived : ClockTime
  deriving DecidableEq, Repr

/-- The hold unit: own hold set (oldest raise first), serial allocator, notice list (oldest first), remote hold table (first
arrival first) (R25, R27, R28, R37). -/
structure HoldUnit where
  own : List OwnHold
  nextSerial : Byte
  notices : List Notice
  remote : List RemoteHold
  deriving DecidableEq, Repr

/-- The hold unit at start (R25, R27, R28, R37). -/
def HoldUnit.atStart : HoldUnit := { own := [], nextSerial := 0, notices := [], remote := [] }

/-! ## Peer roster -/

/-- The states of a roster entry (R2). -/
inductive EntryState where
  | vacant | present | stale | lost
  deriving DecidableEq, Repr

/-- A roster entry (R1). -/
structure RosterEntry where
  address : Nat
  state : EntryState
  age : Nat
  summary : Option Summary
  announced : Option AnnounceData
  recallPending : Bool
  confirmed : Bool
  deriving DecidableEq, Repr

/-- The peer roster: the 25 entries in address order, the tally timer, its expiries since JOIN entry (counted to three) and
the join-complete flag (R1, R13). -/
structure Roster where
  entries : List RosterEntry
  tallyTimer : Timer
  expiries : Nat
  joinComplete : Bool
  deriving DecidableEq, Repr

/-- An entry at start (R1). -/
def RosterEntry.vacant (a : Nat) : RosterEntry :=
  { address := a, state := .vacant, age := 0, summary := none, announced := none, recallPending := false, confirmed := false }

/-- The roster at start (R1, R13). -/
def Roster.atStart : Roster :=
  { entries := addresses.map RosterEntry.vacant, tallyTimer := .stopped, expiries := 0, joinComplete := false }

/-! ## Ballot unit -/

/-- The role in a ballot (R49). -/
inductive Role where
  | none | proposer | voter
  deriving DecidableEq, Repr

/-- The ballot unit: station mode and ballot record (R48, R49). The vote set is kept in address order. -/
structure BallotUnit where
  mode : Mode
  current : Option Ballot
  role : Role
  votes : List Nat
  commitClaimed : Bool
  highest : Ballot
  settle : Timer
  proposal : Timer
  pledge : Timer
  confirm : Timer
  deriving DecidableEq, Repr

/-- The ballot unit at start (R48, R49). -/
def BallotUnit.atStart : BallotUnit :=
  { mode := .start, current := none, role := .none, votes := [], commitClaimed := false, highest := Ballot.none,
    settle := .stopped, proposal := .stopped, pledge := .stopped, confirm := .stopped }

/-! ## Bleed planner -/

/-- The disallow reasons (R112, R114). -/
inductive DisallowReason where
  | mode | paused | noBudget | die | hot | noFloor
  deriving DecidableEq, Repr

/-- The plan record (R112). `reason` is absent exactly when bleeding is allowed; `total` is D. -/
structure PlanRecord where
  allowed : Bool
  reason : Option DisallowReason
  floor : Option Nat
  target : Option Nat
  total : Nat
  selection : List Nat
  demand : Nat
  advertised : Nat
  grant : Nat
  bleedSet : List Nat
  suspended : Bool
  paused : Bool
  deriving DecidableEq, Repr

/-- The plan record at START entry: R112's start values; a first sweep beginning there suspends the set (R77, R121). -/
def PlanRecord.atStart (sweeping : Bool) : PlanRecord :=
  { allowed := false, reason := some .mode, floor := none, target := none, total := 0, selection := [], demand := 0,
    advertised := 0, grant := 0, bleedSet := [], suspended := sweeping, paused := false }

/-! ## Switch driver -/

/-- What started a settle check (R131, R133). -/
inductive CheckCause where
  | command | feedback
  deriving DecidableEq, Repr

/-- A running settle check: its cause and its timer (R133). -/
structure SettleCheck where
  cause : CheckCause
  timer : Timer
  deriving DecidableEq, Repr

/-- The switch driver (R131); `check` is absent while the settle check is stopped. -/
structure SwitchDriver where
  command : SwitchPos
  feedback : SwitchPos
  check : Option SettleCheck
  deriving DecidableEq, Repr

/-- The switch driver at START entry (R131, R133). -/
def SwitchDriver.atStart (valid : Bool) (feedback : SwitchPos) : SwitchDriver :=
  { command := .opened, feedback := feedback,
    check := if valid then some ⟨.command, Timer.startMs firstSettleTime⟩ else none }

/-! ## Lockout unit and retained store -/

/-- The state of the lockout record (R141). -/
inductive LockoutState where
  | none | active
  deriving DecidableEq, Repr

/-- The lockout record (R141). -/
structure LockoutRecord where
  state : LockoutState
  serial : Nat
  cause : Option LockoutCause
  index : Option Nat
  retained : Bool
  attempt : Nat
  deriving DecidableEq, Repr

/-- The state a lockout slot holds (R142). -/
inductive SlotState where
  | active | released
  deriving DecidableEq, Repr

/-- The content of a lockout slot (R142). -/
structure LockoutSlot where
  serial : Nat
  state : SlotState
  cause : LockoutCause
  index : Option Nat
  deriving DecidableEq, Repr

/-- The content of a configuration slot (R142). -/
structure ConfigSlot where
  generation : Nat
  record : ConfigRecord
  deriving DecidableEq, Repr

/-- A retained slot as it lies in the store: its check fails (`torn`: never written, cut short, or failed), or it holds a
record whose check agrees (R142, R143; log 25). -/
inductive Slot (α : Type) where
  | torn
  | written (content : α)
  deriving DecidableEq, Repr

/-- The retained store: four slots that persist across starts (R142, R160). -/
structure RetainedStore where
  configA : Slot ConfigSlot
  configB : Slot ConfigSlot
  lockoutA : Slot LockoutSlot
  lockoutB : Slot LockoutSlot
  deriving DecidableEq, Repr

/-- The lockout unit's copy of the four slots: the valid content, or absent when invalid (R142). -/
structure SlotCopies where
  configA : Option ConfigSlot
  configB : Option ConfigSlot
  lockoutA : Option LockoutSlot
  lockoutB : Option LockoutSlot
  deriving DecidableEq, Repr

/-- One of the two slots of a kind. -/
inductive SlotName where
  | a | b
  deriving DecidableEq, Repr

/-- A retained-store write: its kind, its target slot and its content (R141, R143). -/
inductive Write where
  | active (target : SlotName) (content : LockoutSlot)
  | release (target : SlotName) (content : LockoutSlot)
  | config (target : SlotName) (content : ConfigSlot)
  deriving DecidableEq, Repr

/-- An escalation: a cause code and an index or its absence (R144). -/
structure Escalation where
  cause : LockoutCause
  index : Option Nat
  deriving DecidableEq, Repr

/-- The lockout unit (R141, R142). A pending write is of kind ACTIVE and takes the record as it stands when it starts
(R147), so only whether there is one is held. -/
structure LockoutUnit where
  record : LockoutRecord
  inFlight : Option Write
  pendingWrite : Bool
  pendingEscalation : Option Escalation
  copies : SlotCopies
  deriving DecidableEq, Repr

/-- The lockout record at start (R141). -/
def LockoutRecord.atStart : LockoutRecord :=
  { state := .none, serial := 0, cause := none, index := none, retained := false, attempt := 0 }

/-- The lockout unit at start (R141); its copy of the slots is taken at the store read. -/
def LockoutUnit.atStart : LockoutUnit :=
  { record := LockoutRecord.atStart, inFlight := none, pendingWrite := false, pendingEscalation := none,
    copies := ⟨none, none, none, none⟩ }

/-- The store of a part new from manufacture: all four slots invalid (R142). -/
def RetainedStore.blank : RetainedStore := ⟨.torn, .torn, .torn, .torn⟩

/-! ## Link controller -/

/-- The access classes (R181). -/
inductive AccessClass where
  | urgent | vote | routine
  deriving DecidableEq, Repr

/-- A frame claimed in the transmit queue (R183): all but a TALLY carry their content. `marked` is the restart mark of an
ANSWER (R205). -/
inductive Claim where
  | tally
  | recall (target : Nat)
  | propose (ballot : Ballot) (size : Nat) (digest : Digest)
  | assent (ballot : Ballot)
  | demur (ballot : Ballot) (reason : DemurReason)
  | commit (ballot : Ballot)
  | withdraw (ballot : Ballot)
  | answer (payload : List Byte) (marked : Bool)
  deriving DecidableEq, Repr

/-- An entry of the transmit queue; `item` is the model's number for it. -/
structure QueueEntry where
  item : Nat
  claim : Claim
  deriving DecidableEq, Repr

/-- An item to be sent: the ANNOUNCE, a notice, or a frame of the transmit queue (R181), by the model's number. -/
inductive Item where
  | announce
  | notice (item : Nat)
  | queued (item : Nat)
  deriving DecidableEq, Repr

/-- The item on the line, with the frame that was built of it at its transmission start: its sender field and its content (R187). -/
structure Sending where
  item : Item
  sender : Nat
  body : Body
  deriving DecidableEq, Repr

/-- A running access wait: its class and the time left to its expiry, in microseconds (R185). -/
structure AccessWait where
  cls : AccessClass
  left : Nat
  deriving DecidableEq, Repr

/-- The link controller (R180). -/
structure LinkController where
  medium : Medium
  wait : Option AccessWait
  lastSender : Nat
  sending : Option Sending
  attempts : Nat
  counted : Option Item
  announceFlag : Bool
  queue : List QueueEntry
  mutePending : Bool
  mute : Bool
  nextItem : Nat
  deriving DecidableEq, Repr

/-- The link controller at start (R180). -/
def LinkController.atStart (medium : Medium) : LinkController :=
  { medium := medium, wait := none, lastSender := 0, sending := none, attempts := 0, counted := none,
    announceFlag := false, queue := [], mutePending := false, mute := false, nextItem := 0 }

/-! ## Order handler -/

/-- The kind of an order, as the order memory keeps it (R197, R199); `unknown` is a code that is none of the ten (R198). -/
inductive OrderKind where
  | read | openOrder | free | reclose | release | clearSwitch | store | pauseBleed | resumeBleed | restart
  | unknown (code : Byte)
  deriving DecidableEq, Repr

/-- The status of the remembered order (R199). -/
inductive OrderStatus where
  | inProgress | done
  deriving DecidableEq, Repr

/-- The order memory while the last number is present (R199). -/
structure OrderMemory where
  number : Byte
  kind : OrderKind
  status : OrderStatus
  answer : Option (List Byte)
  deriving DecidableEq, Repr

/-- The order handler: the order memory (absent while the last number is absent), the awaited number and the STORE
assembly's three pages (R199, R206). -/
structure OrderHandler where
  memory : Option OrderMemory
  awaited : Option Byte
  page0 : Option StringParams
  page1 : Option CellParams
  page2 : Option LimitParams
  deriving DecidableEq, Repr

/-- The order handler at start (R199, R206). -/
def OrderHandler.atStart : OrderHandler := { memory := none, awaited := none, page0 := none, page1 := none, page2 := none }

end Sys2Proof.Machine
end

