-- ==== Sys2Proof/Machine/State.lean ====
section
/-! DEFINITION. The machine's state, the reasons a step can stop, and the state after reset. -/

namespace Sys2Proof.Machine

/-- The faults: none. The manual gives every event that reaches the part an effect, and no event stops it; what it calls a
fault is a hold, an answer or a slot's content, that is, state. Safe: there is nothing to raise. -/
inductive Fault where
  deriving DecidableEq, Repr

/-- The refusals. -/
inductive Refusal where
  /-- Raised by `exec` alone, for a command that has no meaning yet. Safe: nothing is claimed of such a command. No arm of
  this model raises it. -/
  | notModelled (mnemonic : String)
  deriving DecidableEq, Repr

/-- Everything the manual gives the part, by the blocks that own it (00_scope, Blocks), with its pins and clock, the queue of
commands that wait and the counter that picks free values. -/
structure State where
  pending : List Instr
  pins : Pins
  clock : StationClock
  startup : StartSequence
  sweep : SweepUnit
  monitors : MonitorBank
  holds : HoldUnit
  roster : Roster
  ballot : BallotUnit
  plan : PlanRecord
  switch : SwitchDriver
  lockout : LockoutUnit
  store : RetainedStore
  link : LinkController
  orders : OrderHandler
  free : Nat
  deriving DecidableEq, Repr

/-- The state right after reset: START entry of a supply start (R160, R161, R164; values of 09, section 9.7) of a part new
from manufacture (R142). DESIGN CHOICE (log 5): strap pins 1, never moved, feedback OPEN, medium IDLE. -/
def State.reset : State where
  pending := []
  pins := { straps := { level := 1, moved := [] }, feedback := .opened }
  clock := { ms := 0, us := 0 }
  startup := StartSequence.atStart 1
  sweep := SweepUnit.atStart true
  monitors := MonitorBank.atStart
  holds := HoldUnit.atStart
  roster := Roster.atStart
  ballot := BallotUnit.atStart
  plan := PlanRecord.atStart true
  switch := SwitchDriver.atStart true .opened
  lockout := LockoutUnit.atStart
  store := RetainedStore.blank
  link := LinkController.atStart .idle
  orders := OrderHandler.atStart
  free := 0

end Sys2Proof.Machine
end

