-- ==== Sys2Proof/Machine/Flags.lean ====
section
/-! DEFINITION. What blocks read off the state: its accessors, the view quantities (R4, R19 to R24), readiness and the duty
station (R53, R55), the votes complete (R63), the content of the own TALLY (R17), the newest lockout record and the stored serial
(R142). -/

namespace Sys2Proof.Machine

/-! ## Accessors -/

/-- The station's own address: the strap value read at START entry (R161). -/
def State.own (s : State) : Nat := s.startup.address

/-- The strap address is valid (R161). -/
def State.addressed (s : State) : Bool := validAddress s.startup.address

/-- The configuration record in use, or the defaults before the store read has settled it: only the sweep interval and the
switch settle time are read so early (R76, R133, R174). -/
def State.cfg (s : State) : ConfigRecord :=
  match s.startup.config with
  | some c => c.record
  | none => defaultConfig

/-- The station clock (00_scope, Station clock). -/
def State.now (s : State) : ClockTime := s.clock.ms

/-- The roster entry of an address (R1). -/
def State.entry (s : State) (a : Nat) : RosterEntry :=
  (s.roster.entries.find? (fun e => decide (e.address = a))).getD (RosterEntry.vacant a)

/-- The own hold of a key: its cause and its index (R25). -/
def State.ownHold (s : State) (cause : Cause) (index : Option Nat) : Option OwnHold :=
  s.holds.own.find? fun h => decide (h.cause = cause ∧ h.index = index)

/-- The own hold of a serial. -/
def State.ownHoldOfSerial (s : State) (serial : Byte) : Option OwnHold :=
  s.holds.own.find? fun h => decide (h.serial = serial)

/-- A hold of a cause that takes no index stands in the own hold set. -/
def State.stands (s : State) (cause : Cause) : Bool := (s.ownHold cause none).isSome

/-- Bleed output c is on (R113). -/
def State.bleedOutput (s : State) (c : Nat) : Bool := s.plan.bleedSet.contains c && !s.plan.suspended

/-! ## Membership (00_scope, String membership) -/

/-- S, the configured string size. -/
def State.size (s : State) : Nat := s.cfg.shared.size

/-- The members are the stations 1 to S. -/
def State.isMember (s : State) (a : Nat) : Bool := decide (1 ≤ a ∧ a ≤ s.size)

/-- The expected set E: the members, and address 0 when a gateway is required. -/
def State.isExpected (s : State) (a : Nat) : Bool := s.isMember a || (decide (a = 0) && s.cfg.shared.gatewayRequired)

/-- A stranger is a station whose address is greater than S. -/
def State.isStranger (s : State) (a : Nat) : Bool := decide (s.size < a)

/-- The members in address order. -/
def State.members (s : State) : List Nat := addresses.filter s.isMember

/-! ## The view (R4, R19 to R24) -/

/-- The entry is PRESENT or STALE. -/
def RosterEntry.heard (e : RosterEntry) : Bool := decide (e.state = .present) || decide (e.state = .stale)

/-- The digest an entry carries (R4). -/
def RosterEntry.carriedDigest (e : RosterEntry) : Option Digest :=
  match e.summary with
  | some t => some t.digest
  | none => e.announced.map fun d => d.digest

/-- The entry carries a digest different from the given one. -/
def RosterEntry.disagrees (e : RosterEntry) (d : Digest) : Bool :=
  match e.carriedDigest with
  | some x => decide (x ≠ d)
  | none => false

/-- The entry makes its address missing (R19). -/
def State.entryMissing (s : State) (e : RosterEntry) : Bool :=
  s.isExpected e.address && (decide (e.state = .lost) || (s.roster.joinComplete && decide (e.state = .vacant)))

/-- The missing set, in address order (R19). -/
def State.missing (s : State) : List Nat := (s.roster.entries.filter s.entryMissing).map fun e => e.address

/-- The lesser of two values that may be absent. -/
def optMin : Option Nat → Option Nat → Option Nat
  | some a, some b => some (min a b)
  | some a, none => some a
  | none, x => x

/-- The min cell an entry adds to the floor (R20). -/
def State.floorTerm (s : State) (e : RosterEntry) : Option Nat :=
  if s.isMember e.address && e.heard then e.summary.bind fun t => t.minCell else none

/-- The floor (R20). -/
def State.floor (s : State) : Option Nat := s.roster.entries.foldl (fun acc e => optMin acc (s.floorTerm e)) none

/-- What an entry adds to the total demand (R21). -/
def State.demandTerm (s : State) (e : RosterEntry) : Nat :=
  if s.isMember e.address then
    match e.heard, e.summary with
    | true, some t => t.advertisedDemand
    | _, _ => 5
  else 0

/-- The total demand D (R21). -/
def State.totalDemand (s : State) : Nat := s.roster.entries.foldl (fun acc e => acc + s.demandTerm e) 0

/-- An entry other than the own one makes the DISCORD condition true (R24). -/
def State.entryDiscord (s : State) (e : RosterEntry) : Bool :=
  decide (e.address ≠ s.own) && e.heard && (e.disagrees s.startup.digest || s.isStranger e.address)

/-- The DISCORD condition (R24). -/
def State.discord (s : State) : Bool := s.isStranger s.own || s.roster.entries.any s.entryDiscord

/-! ## Readiness and duty (R53, R55) -/

/-- Condition 5: every member of E has its entry PRESENT. -/
def State.allPresent (s : State) : Bool :=
  s.roster.entries.all fun e => !s.isExpected e.address || decide (e.state = .present)

/-- Condition 6: the own summary is present, and every summary of a PRESENT entry shows hold count 0 and lockout serial 0. -/
def State.countsClear (s : State) : Bool :=
  (s.entry s.own).summary.isSome &&
    s.roster.entries.all fun e =>
      !decide (e.state = .present) || e.summary.all fun t => decide (t.holdCount = 0) && decide (t.lockoutSerial = 0)

/-- Condition 7: every PRESENT entry that carries a digest carries the own one. -/
def State.digestsAgree (s : State) : Bool :=
  s.roster.entries.all fun e => !decide (e.state = .present) || !e.disagrees s.startup.digest

/-- Condition 8: every other member's summary is present, with mode OPEN. -/
def State.membersOpen (s : State) : Bool :=
  s.roster.entries.all fun e =>
    !(s.isMember e.address && decide (e.address ≠ s.own)) ||
      match e.summary with
      | some t => decide (t.mode = .opened)
      | none => false

/-- Condition 9: no stranger's entry is PRESENT or STALE. -/
def State.noStranger (s : State) : Bool := s.roster.entries.all fun e => !(s.isStranger e.address && e.heard)

/-- The station is ready: the ten conditions of R53, in order. -/
def State.ready (s : State) : Bool :=
  decide (s.ballot.mode = .opened) && s.holds.own.isEmpty && s.holds.remote.isEmpty && s.missing.isEmpty
    && s.allPresent && s.countsClear && s.digestsAgree && s.membersOpen && s.noStranger
    && decide (s.ballot.highest.epoch < lastEpoch)

/-- The duty station: (h mod S) + 1 (R55). -/
def State.duty (s : State) : Nat := s.ballot.highest.epoch % s.size + 1

/-- The vote set equals the set of members (R63). -/
def State.votesComplete (s : State) : Bool := s.members.all fun a => s.ballot.votes.contains a

/-! ## The latest sample set as other blocks read it (R17, R79) -/

/-- N_fit. -/
def State.fitted (s : State) : Nat := s.cfg.cells.fitted

/-- The fitted cells in number order. -/
def State.fittedCells (s : State) : List Nat := cellNumbers.filter fun c => decide (c ≤ s.fitted)

/-- The fitted taps, 0 to N_fit (R79). -/
def State.fittedTaps (s : State) : List Nat := tapNumbers.filter fun t => decide (t ≤ s.fitted)

/-- The value of cell c of a sample set; absent when invalid (R79). -/
def SampleSet.cell (x : SampleSet) (c : Nat) : Option Nat := (x.cells[c - 1]?).join

/-- Tap t of a sample set was found open (R79). -/
def SampleSet.isOpen (x : SampleSet) (t : Nat) : Bool := (x.tapOpen[t]?).getD false

/-- The greater of two values that may be absent. -/
def optMax : Option Nat → Option Nat → Option Nat
  | some a, some b => some (max a b)
  | some a, none => some a
  | none, x => x

/-- The higher of the two temperatures where valid (R17, R95). -/
def SampleSet.hotter (x : SampleSet) : Option Int :=
  match x.t1, x.t2 with
  | some a, some b => some (max a b)
  | some a, none => some a
  | none, y => y

/-- The lower of the two temperatures where valid (R96). -/
def SampleSet.colder (x : SampleSet) : Option Int :=
  match x.t1, x.t2 with
  | some a, some b => some (min a b)
  | some a, none => some a
  | none, y => y

/-- The lowest value among the fitted valid cells of the latest sample set (R17). -/
def State.minCell (s : State) : Option Nat :=
  s.sweep.latest.bind fun x => s.fittedCells.foldl (fun acc c => optMin acc (x.cell c)) none

/-- The highest value among the fitted valid cells of the latest sample set (R17). -/
def State.maxCell (s : State) : Option Nat :=
  s.sweep.latest.bind fun x => s.fittedCells.foldl (fun acc c => optMax acc (x.cell c)) none

/-! ## The own TALLY (R17) -/

/-- No valid configuration was found at start (R17, R175). -/
def State.onDefaults (s : State) : Bool :=
  match s.startup.config with
  | some c => decide (c.source = .defaults)
  | none => false

/-- The lockout serial a TALLY carries: the record's serial while ACTIVE, else 0 (R17, R159). -/
def LockoutRecord.tallySerial (r : LockoutRecord) : Nat := if r.state = .active then r.serial else 0

/-- The content of the station's TALLY, from the blocks as they stand (R17). -/
def State.ownTally (s : State) : Summary where
  mode := s.ballot.mode
  holdCount := s.holds.own.length
  lockoutSerial := s.lockout.record.tallySerial
  ballot := s.ballot.highest
  digest := s.startup.digest
  minCell := s.minCell
  maxCell := s.maxCell
  moduleSum := s.sweep.latest.map fun x => x.moduleSum
  maxTemperature := s.sweep.latest.bind fun x => x.hotter
  advertisedDemand := s.plan.demand
  bleedingCount := s.plan.bleedSet.length
  presentCount := (s.roster.entries.filter RosterEntry.heard).length
  bleedPaused := s.plan.paused
  defaultConfiguration := s.onDefaults

/-- The own announce data (R16). -/
def State.ownAnnounce (s : State) : AnnounceData where
  generation := match s.startup.config with
    | some c => c.generation
    | none => 0
  fittedCells := s.fitted
  digest := s.startup.digest

/-! ## The lockout slots (R142) -/

/-- Of two valid lockout records, A is the newest: higher serial, else RELEASED, else A (R142). -/
def slotAWins (a b : LockoutSlot) : Bool :=
  decide (b.serial < a.serial) ||
    (decide (a.serial = b.serial) && (decide (a.state = .released) || decide (b.state = .active)))

/-- The slot with the newest valid lockout record, and the record (R142). -/
def SlotCopies.newest (c : SlotCopies) : Option (SlotName × LockoutSlot) :=
  match c.lockoutA, c.lockoutB with
  | some a, some b => if slotAWins a b then some (.a, a) else some (.b, b)
  | some a, none => some (.a, a)
  | none, some b => some (.b, b)
  | none, none => none

/-- The stored serial (R142). -/
def SlotCopies.storedSerial (c : SlotCopies) : Nat :=
  match c.newest with
  | some (_, r) => r.serial
  | none => 0

/-- The target of a lockout write: the slot that does not hold the newest valid record, lockout A when neither is valid
(R147, R151). -/
def SlotCopies.lockoutTarget (c : SlotCopies) : SlotName :=
  match c.newest with
  | some (.a, _) => .b
  | some (.b, _) => .a
  | none => .a

/-! ## Monitors read by others (R109) -/

/-- Every existing monitor is CLEAR (R109, R150). -/
def State.monitorsClear (s : State) : Bool := s.monitors.records.all fun m => decide (m.state = .clear)

/-- The HOT monitor is not CLEAR (R109, R114). -/
def State.hotNotClear (s : State) : Bool :=
  s.monitors.records.any fun m => decide (m.kind = .hot) && decide (m.state ≠ .clear)

end Sys2Proof.Machine
end

