-- ==== Sys2Proof/Machine/Ops.lean ====
section
/-! DEFINITION. The named operations over the state: one update per block, and the operations that blocks ask of each other
(claims, notices, holds, modes, ballots, recalls). Every meaning is written over these. -/

namespace Sys2Proof.Machine

/-! ## One update per block; Laws/State.lean has their laws -/

/-- Update of `pending` alone. -/
def State.setPending (s : State) (x : List Instr) : State := { s with pending := x }

/-- Update of `pins` alone. -/
def State.setPins (s : State) (x : Pins) : State := { s with pins := x }

/-- Update of `clock` alone. -/
def State.setClock (s : State) (x : StationClock) : State := { s with clock := x }

/-- Update of `startup` alone. -/
def State.setStartup (s : State) (x : StartSequence) : State := { s with startup := x }

/-- Update of `sweep` alone. -/
def State.setSweep (s : State) (x : SweepUnit) : State := { s with sweep := x }

/-- Update of `monitors` alone. -/
def State.setMonitors (s : State) (x : MonitorBank) : State := { s with monitors := x }

/-- Update of `holds` alone. -/
def State.setHolds (s : State) (x : HoldUnit) : State := { s with holds := x }

/-- Update of `roster` alone. -/
def State.setRoster (s : State) (x : Roster) : State := { s with roster := x }

/-- Update of `ballot` alone. -/
def State.setBallot (s : State) (x : BallotUnit) : State := { s with ballot := x }

/-- Update of `plan` alone. -/
def State.setPlan (s : State) (x : PlanRecord) : State := { s with plan := x }

/-- Update of `switch` alone. -/
def State.setSwitch (s : State) (x : SwitchDriver) : State := { s with switch := x }

/-- Update of `lockout` alone. -/
def State.setLockout (s : State) (x : LockoutUnit) : State := { s with lockout := x }

/-- Update of `store` alone. -/
def State.setStore (s : State) (x : RetainedStore) : State := { s with store := x }

/-- Update of `link` alone. -/
def State.setLink (s : State) (x : LinkController) : State := { s with link := x }

/-- Update of `orders` alone. -/
def State.setOrders (s : State) (x : OrderHandler) : State := { s with orders := x }

/-- Update of `free` alone. -/
def State.setFree (s : State) (x : Nat) : State := { s with free := x }

/-! ## Changes on which readiness is judged again (R54) -/

/-- Readiness judged against what it was before a change (R54): under AUTO the settle timer starts when the station turns ready;
it is stopped while the station is not ready. -/
def settleReadiness (before s : State) : State :=
  if s.ready then
    if !before.ready && decide (s.cfg.shared.policy = .auto) then
      s.setBallot { s.ballot with settle := Timer.startMs s.cfg.shared.settleTime }
    else s
  else s.setBallot { s.ballot with settle := .stopped }

/-- A change of the own hold set or the remote hold table, whose emptiness readiness reads (R47, R54). -/
def State.changeHolds (s : State) (x : HoldUnit) : State := settleReadiness s (s.setHolds x)

/-- A change of an entry's state, summary or announce data or of the missing set, which readiness reads (R54). -/
def State.changeRoster (s : State) (x : Roster) : State := settleReadiness s (s.setRoster x)

/-- A change of the mode or of the highest ballot seen, which readiness reads (R54). -/
def State.changeBallot (s : State) (x : BallotUnit) : State := settleReadiness s (s.setBallot x)

/-- The entry of one address changed. -/
def State.updateEntry (s : State) (a : Nat) (f : RosterEntry → RosterEntry) : State :=
  s.changeRoster { s.roster with entries := s.roster.entries.map fun e => if e.address = a then f e else e }

/-! ## What is pending (R181) -/

/-- The class of a queued frame (R181). -/
def Claim.cls : Claim → AccessClass
  | .tally => .routine
  | .recall _ => .routine
  | .answer _ _ => .routine
  | .propose .. => .vote
  | .assent _ => .vote
  | .demur .. => .vote
  | .commit _ => .vote
  | .withdraw _ => .vote

/-- The offset of a class, in access slots (R181). -/
def AccessClass.offset : AccessClass → Nat
  | .urgent => 0
  | .vote => 25
  | .routine => 50

/-- An item is the one on the line (R187). -/
def LinkController.onLine (l : LinkController) (i : Item) : Bool :=
  match l.sending with
  | some x => decide (x.item = i)
  | none => false

/-- The oldest notice that is not on the line (R181). -/
def State.nextNotice (s : State) : Option Notice := s.holds.notices.find? fun n => !s.link.onLine (.notice n.item)

/-- The first frame of the transmit queue that is not on the line (R181). -/
def State.nextQueued (s : State) : Option QueueEntry := s.link.queue.find? fun q => !s.link.onLine (.queued q.item)

/-- The ANNOUNCE is pending: its flag is set and it is not on the line (R181). -/
def State.announcePending (s : State) : Bool := s.link.announceFlag && !s.link.onLine .announce

/-- The next item (R181). -/
def State.nextItem (s : State) : Option Item :=
  if s.announcePending then some .announce
  else
    match s.nextNotice with
    | some n => some (.notice n.item)
    | none => s.nextQueued.map fun q => .queued q.item

/-- The pending class: the class of the next item (R181). -/
def State.pendingClass (s : State) : Option AccessClass :=
  if s.announcePending || s.nextNotice.isSome then some .urgent else s.nextQueued.map fun q => q.claim.cls

/-! ## The access wait (R185, R186) -/

/-- The rotation r = (a - s - 1) mod 25 of own address a after last sender s (R185). -/
def rotation (a last : Nat) : Nat := (((a : Int) - last - 1) % 25).toNat

/-- The length of an access wait in microseconds (R185). -/
def waitTime (a last : Nat) (c : AccessClass) : Nat := 96 + (c.offset + rotation a last) * 16

/-- A wait may be started: past START, not MUTE, medium IDLE, nothing on the line (R185). -/
def State.mayWait (s : State) : Bool :=
  decide (s.ballot.mode ≠ .start) && !s.link.mute && decide (s.link.medium = .idle) && s.link.sending.isNone

/-- The wait as it stands once something is or has become pending of class c (R185, R186): started when none runs; a more
urgent class is taken, with the earlier of the two expiries; any other class leaves the wait. -/
def waitFor (a last : Nat) (c : AccessClass) : Option AccessWait → AccessWait
  | none => ⟨c, waitTime a last c⟩
  | some w => if c.offset < w.cls.offset then ⟨c, min w.left (waitTime a last c)⟩ else w

/-- The access wait judged: when something becomes pending, and at the end of every event, a frame end among them (R185, R186;
log 13). -/
def settleWait (s : State) : State :=
  if s.mayWait then
    match s.pendingClass with
    | some c => s.setLink { s.link with wait := some (waitFor s.own s.link.lastSender c s.link.wait) }
    | none => s
  else s

/-! ## Claims (R183, R184) -/

/-- A frame in the place its class gives it: a VOTE frame after every VOTE frame and before every ROUTINE frame, a ROUTINE
frame at the tail (R183). -/
def placed (q : List QueueEntry) (e : QueueEntry) : List QueueEntry :=
  if e.claim.cls = .vote then
    q.takeWhile (fun x => decide (x.claim.cls = .vote)) ++ e :: q.dropWhile (fun x => decide (x.claim.cls = .vote))
  else q ++ [e]

/-- The frame a VOTE claim may push out of a full queue: ROUTINE and not on the line (R184). -/
def LinkController.mayShed (l : LinkController) (q : QueueEntry) : Bool :=
  decide (q.claim.cls = .routine) && !l.onLine (.queued q.item)

/-- The queue less the newest frame that may be shed (R184). -/
def LinkController.shed (l : LinkController) : List QueueEntry := (l.queue.reverse.eraseP l.mayShed).reverse

/-- A claim (R183, R184): discarded while MUTE, coalesced for a TALLY, added when there is room; on a full queue a VOTE claim
sheds the newest ROUTINE frame that is not on the line, and every other claim is discarded. A frame added is pending from that
moment (R185, R186). -/
def claim (c : Claim) (s : State) : State :=
  let l := s.link
  let e : QueueEntry := ⟨l.nextItem, c⟩
  if l.mute then s
  else if c = .tally && l.queue.any (fun q => decide (q.claim = .tally)) then s
  else if l.queue.length < queueCapacity then
    settleWait (s.setLink { l with queue := placed l.queue e, nextItem := l.nextItem + 1 })
  else if c.cls = .vote && l.queue.any l.mayShed then
    settleWait (s.setLink { l with queue := placed l.shed e, nextItem := l.nextItem + 1 })
  else s

/-! ## The counted item (R180) -/

/-- An item is still in its place: the flag, the notice list or the transmit queue. -/
def State.holdsItem (s : State) : Item → Bool
  | .announce => s.link.announceFlag
  | .notice n => s.holds.notices.any fun x => decide (x.item = n)
  | .queued n => s.link.queue.any fun x => decide (x.item = n)

/-- The attempt count is 0 and the counted item absent once the counted item has left (R180, R184). -/
def forgetCounted (s : State) : State :=
  match s.link.counted with
  | some i => if s.holdsItem i then s else s.setLink { s.link with attempts := 0, counted := none }
  | none => s

/-! ## The notice list (R28, R29) -/

/-- Notices are appended neither in START nor while MUTE (R32, R33, R35). -/
def State.takesNotices (s : State) : Bool := decide (s.ballot.mode ≠ .start) && !s.link.mute

/-- The notice list with room for one more: a full list loses its oldest LIFT notice that is not on the line (R29). -/
def State.roomyNotices (s : State) : List Notice :=
  if s.holds.notices.length < noticeCapacity then s.holds.notices
  else s.holds.notices.eraseP fun n => decide (n.kind = .lift) && !s.link.onLine (.notice n.item)

/-- A notice appended at the tail (R29), pending from that moment (R185, R186), or discarded in START and while MUTE. -/
def appendNotice (kind : NoticeKind) (serial : Byte) (replay : Bool) (s : State) : State :=
  if s.takesNotices then
    settleWait ((s.setHolds { s.holds with notices := s.roomyNotices ++ [⟨s.link.nextItem, kind, serial, replay⟩] }).setLink
      { s.link with nextItem := s.link.nextItem + 1 })
  else s

/-- The HOLD notice of an own hold: one that is not on the line before one that is (R34, R35). -/
def State.holdNotice (s : State) (serial : Byte) : Option Notice :=
  match s.holds.notices.find? fun n => decide (n.kind = .hold ∧ n.serial = serial) && !s.link.onLine (.notice n.item) with
  | some n => some n
  | none => s.holds.notices.find? fun n => decide (n.kind = .hold ∧ n.serial = serial)

/-- A notice removed from the list. -/
def removeNotice (item : Nat) (s : State) : State :=
  s.setHolds { s.holds with notices := s.holds.notices.filter fun n => decide (n.item ≠ item) }

/-! ## The switch driver's check and the delivery of a mode (R128, R132, R133) -/

/-- A running check's timer begun again with its own length, or a new check with the switch settle time in use (R133). -/
def State.checkTimer (s : State) : Timer :=
  match s.switch.check with
  | some ⟨_, .running n _⟩ => .running n n
  | _ => Timer.startMs s.cfg.limits.switchSettle

/-- A settle check started or restarted with cause COMMAND (R133). -/
def startCommandCheck (s : State) : State :=
  s.setSwitch { s.switch with check := some ⟨.command, s.checkTimer⟩ }

/-- A settle check started with cause FEEDBACK, or restarted with its cause kept (R133). -/
def startFeedbackCheck (s : State) : State :=
  let cause := match s.switch.check with
    | some c => c.cause
    | none => CheckCause.feedback
  s.setSwitch { s.switch with check := some ⟨cause, s.checkTimer⟩ }

/-- The command for a mode: CLOSED when, and only when, the mode is CLOSED (R48, R132). -/
def commandFor (m : Mode) : SwitchPos := if m = .closed then .closed else .opened

/-- A mode change delivered to the switch driver (R132). -/
def deliverToDriver (m : Mode) (s : State) : State :=
  if commandFor m = s.switch.command then s
  else startCommandCheck (s.setSwitch { s.switch with command := commandFor m })

/-- The plan emptied at once for a reason, by a pause or a disallowing mode (R126, R128). -/
def emptied (r : DisallowReason) (p : PlanRecord) : PlanRecord :=
  { p with allowed := false, reason := some r, selection := [], demand := 0, grant := 0, bleedSet := [] }

/-- A mode change delivered to the bleed planner (R128). -/
def deliverToPlanner (m : Mode) (s : State) : State :=
  if m = .start ∨ m = .join then s.setPlan (emptied .mode s.plan) else s

/-- A change of the station mode, delivered to the switch driver and the bleed planner (R48). -/
def setMode (m : Mode) (s : State) : State :=
  if s.ballot.mode = m then s
  else deliverToPlanner m (deliverToDriver m (s.changeBallot { s.ballot with mode := m }))

/-! ## Ballots: leaving and offering (R50 to R52) -/

/-- A ballot (e1, p1) supersedes (e2, p2) (R50). -/
def supersedes (x y : Ballot) : Bool :=
  decide (y.epoch < x.epoch) || (decide (x.epoch = y.epoch) && decide (x.proposer < y.proposer))

/-- A ballot field names a ballot: epoch from 1, proposer 1 to 24 (R51). -/
def realBallot (b : Ballot) : Bool := decide (1 ≤ b.epoch) && decide (1 ≤ b.proposer ∧ b.proposer ≤ 24)

/-- What leaving does to the ballot record, but for the mode (R52). -/
def leftRecord (b : BallotUnit) : BallotUnit :=
  match b.mode, b.role with
  | .pledged, .proposer =>
    { b with current := none, role := .none, votes := [], commitClaimed := false, proposal := .stopped }
  | .pledged, _ => { b with current := none, role := .none, pledge := .stopped }
  | _, _ => { b with current := none, role := .none, confirm := .stopped }

/-- The WITHDRAW that a proposer claims in leaving its ballot (R52). -/
def withdrawClaim (s : State) : State :=
  match s.ballot.mode, s.ballot.role, s.ballot.current with
  | .pledged, .proposer, some b => claim (.withdraw b) s
  | _, _, _ => s

/-- The station leaves its current ballot, in PLEDGED or CLOSED (R52); from CLOSED this is a break. -/
def leave (s : State) : State :=
  if s.ballot.mode = .pledged ∨ s.ballot.mode = .closed then
    let t := withdrawClaim s
    setMode .opened (t.setBallot (leftRecord t.ballot))
  else s

/-- A ballot offered would replace the highest ballot seen (R51). -/
def State.wouldReplace (s : State) (b : Ballot) : Bool := realBallot b && supersedes b s.ballot.highest

/-- A ballot offered (R51): a superseding one becomes the highest ballot seen, and a station with a current ballot leaves it
(R52). -/
def offer (b : Ballot) (s : State) : State :=
  if s.wouldReplace b then
    let t := s.changeBallot { s.ballot with highest := b }
    if t.ballot.current.isSome then leave t else t
  else s

/-! ## Raising and lifting own holds (R27, R33 to R36, R72) -/

/-- A raise, or a HOLD frame taken, reported to the ballot unit: a PLEDGED or CLOSED station leaves its ballot (R46, R72). -/
def reportHold (s : State) : State := leave s

/-- The first serial from c upward, wrapping, that is not used (R27). -/
def firstFree (used : List Byte) : Nat → Byte → Byte
  | 0, c => c
  | n + 1, c => if used.contains c then firstFree used n (c + 1) else c

/-- The serials the allocator passes over: those of own holds and of LIFT notices (R27). -/
def HoldUnit.usedSerials (h : HoldUnit) : List Byte :=
  h.own.map (fun x => x.serial) ++ (h.notices.filter (fun n => decide (n.kind = .lift))).map (fun n => n.serial)

/-- The serial the allocator gives next (R27). -/
def HoldUnit.allocate (h : HoldUnit) : Byte := firstFree h.usedSerials 256 h.nextSerial

/-- A record added to the own hold set under a fresh serial (R33 steps 1 and 2). -/
def addOwn (cause : Cause) (index : Option Nat) (detail : Option Detail) (s : State) : State :=
  let n := s.holds.allocate
  s.changeHolds { s.holds with own := s.holds.own ++ [⟨n, cause, index, detail, s.now⟩], nextSerial := n + 1 }

/-- The detail of an own hold replaced in place (R34). -/
def changeDetail (cause : Cause) (index : Option Nat) (detail : Option Detail) (s : State) : State :=
  s.setHolds { s.holds with
    own := s.holds.own.map fun h => if h.cause = cause ∧ h.index = index then { h with detail := detail } else h }

/-- A raise request (R33, R34). -/
def raiseHold (cause : Cause) (index : Option Nat) (detail : Option Detail) (s : State) : State :=
  match s.ownHold cause index with
  | none => reportHold (appendNotice .hold s.holds.allocate false (addOwn cause index detail s))
  | some h =>
    if h.detail = detail then s
    else
      let t := changeDetail cause index detail s
      match t.holdNotice h.serial with
      | some _ => t
      | none => appendNotice .hold h.serial true t

/-- What a lift does to the notice list, for the serial of the removed record (R35, R36). -/
def liftNotices (serial : Byte) (s : State) : State :=
  match s.holdNotice serial with
  | none => appendNotice .lift serial false s
  | some n =>
    if s.link.onLine (.notice n.item) then appendNotice .lift serial false s
    else if n.replay then appendNotice .lift serial false (removeNotice n.item s)
    else removeNotice n.item s

/-- A lift request (R35, R36). -/
def liftHold (cause : Cause) (index : Option Nat) (s : State) : State :=
  match s.ownHold cause index with
  | none => s
  | some h =>
    liftNotices h.serial
      (s.changeHolds { s.holds with own := s.holds.own.filter fun x => decide (¬(x.cause = cause ∧ x.index = index)) })

/-! ## Remote holds, recalls (R41, R42) -/

/-- All remote records of an origin removed (R41). -/
def purge (origin : Nat) (s : State) : State :=
  s.changeHolds { s.holds with remote := s.holds.remote.filter fun h => decide (h.origin ≠ origin) }

/-- A RECALL to p requested: carried out for a station other than this one whose recall pending field is no (R42). -/
def requestRecall (p : Nat) (s : State) : State :=
  if 1 ≤ p ∧ p ≤ 24 ∧ p ≠ s.own ∧ (s.entry p).recallPending = false then
    claim (.recall p) ((purge p s).updateEntry p fun e => { e with recallPending := true })
  else s

end Sys2Proof.Machine
end

