-- ==== Sys2Proof/Machine/Clock.lean ====
section
/-! DEFINITION. Time (log 1, log 2): one microsecond passes for the station clock, every running timer, the settle check and the
access wait; and the expiry that has fallen due. -/

namespace Sys2Proof.Machine

/-- One microsecond of the station clock; the millisecond count wraps at 32 bits (00_scope, Station clock). -/
def StationClock.tick (c : StationClock) : StationClock :=
  if c.us + 1 < 1000 then { c with us := c.us + 1 } else { ms := c.ms + 1, us := 0 }

/-- One microsecond of the ballot unit's timers. -/
def BallotUnit.tick (b : BallotUnit) : BallotUnit :=
  { b with settle := b.settle.tick, proposal := b.proposal.tick, pledge := b.pledge.tick, confirm := b.confirm.tick }

/-- One microsecond of the settle check. -/
def SwitchDriver.tick (d : SwitchDriver) : SwitchDriver :=
  { d with check := d.check.map fun c => { c with timer := c.timer.tick } }

/-- One microsecond of the access wait. -/
def LinkController.tick (l : LinkController) : LinkController :=
  { l with wait := l.wait.map fun w => { w with left := w.left - 1 } }

/-- One microsecond passes (log 1). -/
def tick (s : State) : State :=
  let t := (s.setClock s.clock.tick).setSweep { s.sweep with timer := s.sweep.timer.tick }
  let t := (t.setRoster { t.roster with tallyTimer := t.roster.tallyTimer.tick }).setBallot t.ballot.tick
  (t.setSwitch t.switch.tick).setLink t.link.tick

/-- The settle check has run its length. -/
def SwitchDriver.due (d : SwitchDriver) : Bool :=
  match d.check with
  | some c => c.timer.due
  | none => false

/-- The access wait has run its length. -/
def LinkController.due (l : LinkController) : Bool :=
  match l.wait with
  | some w => decide (w.left = 0)
  | none => false

/-- The expiry that has fallen due, the first in a fixed order when several have (log 2). -/
def State.dueExpiry (s : State) : Option Instr :=
  if s.sweep.timer.due then some .sweepTimerExpiry
  else if s.roster.tallyTimer.due then some .tallyTimerExpiry
  else if s.ballot.settle.due then some .settleTimerExpiry
  else if s.ballot.proposal.due then some .proposalTimerExpiry
  else if s.ballot.pledge.due then some .pledgeTimerExpiry
  else if s.ballot.confirm.due then some .confirmTimerExpiry
  else if s.switch.due then some .settleCheckExpiry
  else if s.link.due then some .accessWaitExpiry
  else none

end Sys2Proof.Machine
end

