-- ==== Sys2Proof/Machine/Ballots.lean ====
section
/-! DEFINITION. The ballot unit's shared operations: proposing, voting, committing, closing and confirming (R57 to R70), and the
end of every event. -/

namespace Sys2Proof.Machine

/-! ## Proposing, voting, closing -/

/-- The station proposes (R57). -/
def propose (s : State) : State :=
  let b : Ballot := ⟨s.ballot.highest.epoch + 1, s.own⟩
  let t := offer b s
  let t := t.setBallot { t.ballot with current := some b, role := .proposer, votes := [s.own], commitClaimed := false }
  let t := setMode .pledged (claim (.propose b s.size s.startup.digest) t)
  t.setBallot { t.ballot with proposal := Timer.startMs s.cfg.shared.proposalTime }

/-- The vote ASSENT (R61). -/
def assent (b : Ballot) (s : State) : State :=
  let t := s.setBallot { s.ballot with current := some b, role := .voter }
  let t := setMode .pledged (claim (.assent b) t)
  t.setBallot { t.ballot with pledge := Timer.startMs (2 * s.cfg.shared.proposalTime) }

/-- The reason for a DEMUR, the first that applies (R60). -/
def State.demurReason (s : State) (size : Nat) (digest : Digest) : Option DemurReason :=
  if s.ballot.mode = .join then some .joining
  else if !s.holds.own.isEmpty || !s.holds.remote.isEmpty then some .holds
  else if !s.missing.isEmpty || decide (size ≠ s.size) then some .membership
  else if digest ≠ s.startup.digest then some .digest
  else none

/-- The vote on a proposal that replaced the highest ballot seen (R60, R61). The mode is JOIN or OPEN here, since a current
ballot has just been left (R59). -/
def vote (b : Ballot) (size : Nat) (digest : Digest) (s : State) : State :=
  match s.demurReason size digest with
  | some r => claim (.demur b r) s
  | none => if s.ballot.mode = .opened then assent b s else s

/-- The station is the proposer, or a voter, of ballot b (R62 to R67). -/
def State.isPledged (s : State) (role : Role) (b : Ballot) : Bool :=
  decide (s.ballot.mode = .pledged) && decide (s.ballot.role = role) && decide (s.ballot.current = some b)

/-- The COMMIT claimed once every member has assented (R63). -/
def claimCommit (b : Ballot) (s : State) : State :=
  if s.votesComplete && !s.ballot.commitClaimed then
    let t := claim (.commit b) s
    t.setBallot { t.ballot with commitClaimed := true }
  else s

/-- A member's ASSENT counted (R62). -/
def addVote (a : Nat) (s : State) : State :=
  if s.isMember a then
    s.setBallot { s.ballot with votes := s.members.filter fun m => decide (m = a) || s.ballot.votes.contains m }
  else s

/-- The station enters CLOSED (R68). -/
def enterClosed (s : State) : State :=
  if !s.holds.own.isEmpty || !s.holds.remote.isEmpty then leave s
  else
    let t := s.setBallot { s.ballot with
      proposal := .stopped, pledge := .stopped, role := .none, votes := [], commitClaimed := false,
      confirm := Timer.startMs (3 * s.cfg.shared.tallyPeriod) }
    let t := t.setRoster { t.roster with
      entries := t.roster.entries.map fun e => if s.isMember e.address then { e with confirmed := false } else e }
    setMode .closed t

/-- A member's mode and ballot offered to the close confirmation (R69). -/
def confirmOffer (a : Nat) (m : Mode) (b : Ballot) (s : State) : State :=
  if s.ballot.mode = .closed then
    match m, decide (s.ballot.current = some b) with
    | .closed, true => s.updateEntry a fun e => { e with confirmed := true }
    | .pledged, true => s
    | _, _ => leave s
  else s

/-- Every member entry is confirmed (R70). -/
def State.allConfirmed (s : State) : Bool := s.roster.entries.all fun e => !s.isMember e.address || e.confirmed

/-! ## The end of an event -/

/-- What every event ends with (log 13): the counted item (R180) and the access wait, a frame end's among them (R185). Readiness (R54)
and the wait (R185, R186) have been judged by each operation that changed an input or made something pending; judged again they stay as
those left them. -/
def endEvent (before s : State) : State := settleWait (forgetCounted (settleReadiness before s))

/-- The outcome of a command: the next state of its event. -/
def event (f : State → State) (s : State) : Host.Outcome State Fault Refusal := .next (endEvent s (f s))

end Sys2Proof.Machine
end

