-- ==== Sys2Proof/Machine/Rosters.lean ====
section
/-! DEFINITION. The roster's shared operations: its two holds (R23, R24), a sender heard (R8, R9), the age tick (R14, R15),
TALLY and ANNOUNCE taken (R11, R12), tally reconciliation (R43, R44), remote holds taken (R38 to R40), and the arrival of a
frame at the link controller (R179, R185, R191). -/

namespace Sys2Proof.Machine

/-! ## The two holds of the roster -/

/-- The LINK hold judged (R23). -/
def judgeLink (s : State) : State :=
  if s.roster.joinComplete then
    if s.missing.isEmpty then liftHold .link none s else raiseHold .link none none s
  else s

/-- The DISCORD hold judged, from JOIN entry onward (R24). -/
def judgeDiscord (s : State) : State :=
  if s.ballot.mode = .start then s
  else if s.discord then raiseHold .discord none none s else liftHold .discord none s

/-- The roster's two holds judged again after an arrival (R8; order: log 11). -/
def judgeView (s : State) : State := judgeDiscord (judgeLink s)

/-! ## Hearing and ageing -/

/-- A valid frame from an address: the entry becomes PRESENT with age 0 (R8 step 1); a return asks for a RECALL (R8 step 2,
R9). -/
def hear (a : Nat) (s : State) : State :=
  let t := s.updateEntry a fun e => { e with state := .present, age := 0 }
  match (s.entry a).state with
  | .vacant => if a = 0 then t else requestRecall a t
  | .lost => if a = 0 then t else requestRecall a t
  | .present => t
  | .stale => t

/-- The age tick on one entry, with LOST age L (R14, R15). -/
def RosterEntry.aged (lostAge : Nat) (e : RosterEntry) : RosterEntry :=
  if e.heard then
    if lostAge ≤ e.age + 1 then
      { e with state := .lost, age := lostAge, summary := none, recallPending := false, confirmed := false }
    else { e with state := if e.age + 1 < 2 then .present else .stale, age := e.age + 1 }
  else e

/-- The addresses that the next age tick makes LOST (R14). -/
def State.losing (s : State) : List Nat :=
  (s.roster.entries.filter fun e =>
    decide (e.address ≠ s.own) && e.heard && decide (s.cfg.shared.lostAge ≤ e.age + 1)).map fun e => e.address

/-- The age tick: every entry but the own one ages, and the remote holds of an entry that becomes LOST are purged (R14,
R15). -/
def ageTick (s : State) : State :=
  let t := s.changeRoster { s.roster with
    entries := s.roster.entries.map fun e => if e.address = s.own then e else e.aged s.cfg.shared.lostAge }
  t.changeHolds { t.holds with remote := t.holds.remote.filter fun h => !s.losing.contains h.origin }

/-! ## TALLY and ANNOUNCE -/

/-- Tally reconciliation for origin p with hold count n (R43; R44 for the gateway). `pending` is the recall pending field as
it stood on arrival, after any return. -/
def reconcile (p n : Nat) (pending : Bool) (s : State) : State :=
  let c := (s.holds.remote.filter fun h => decide (h.origin = p)).length
  if n = c then s
  else if n = 0 then purge p s
  else if pending then s
  else requestRecall p s

/-- A TALLY taken (R11). `wasPending` is the recall pending field before the arrival (R5). -/
def takeTally (a : Nat) (t : Summary) (wasPending : Bool) (s : State) : State :=
  let pending := (s.entry a).recallPending
  let u := s.updateEntry a fun e => { e with summary := some t, recallPending := if wasPending then false else e.recallPending }
  let u := offer t.ballot (reconcile a t.holdCount pending u)
  if u.isMember a then confirmOffer a t.mode t.ballot u else u

/-- An ANNOUNCE taken (R12); from a member of E it breaks a CLOSED station (R71). DESIGN CHOICE (log 27): R12 gives its steps no order;
the summary made absent, the confirmation cleared and the announce data replaced are one change, and neither readiness nor DISCORD is
judged amid it. -/
def takeAnnounce (a : Nat) (d : AnnounceData) (s : State) : State :=
  let t := s.updateEntry a fun e => { e with summary := none, confirmed := false, announced := some d }
  let t := claim .tally (purge a t)
  if t.isExpected a && decide (t.ballot.mode = .closed) then leave t else t

/-! ## HOLD, LIFT and RECALL -/

/-- A HOLD frame's content kept: replaced in place, appended, or, on a full table, a RECALL requested (R38, R39). -/
def storeRemote (r : RemoteHold) (s : State) : State :=
  if s.holds.remote.any fun h => decide (h.origin = r.origin ∧ h.serial = r.serial) then
    s.setHolds { s.holds with
      remote := s.holds.remote.map fun h => if h.origin = r.origin ∧ h.serial = r.serial then r else h }
  else if s.holds.remote.length < remoteCapacity then s.changeHolds { s.holds with remote := s.holds.remote ++ [r] }
  else requestRecall r.origin s

/-- A HOLD frame taken, and reported (R38, R46). -/
def takeHold (r : RemoteHold) (s : State) : State := reportHold (storeRemote r s)

/-- A LIFT frame taken (R40). -/
def takeLift (o : Nat) (serial : Byte) (s : State) : State :=
  s.changeHolds { s.holds with remote := s.holds.remote.filter fun h => decide (¬(h.origin = o ∧ h.serial = serial)) }

/-- A replay notice for one own hold that has no HOLD notice pending (R45). -/
def replayNotice (s : State) (h : OwnHold) : State :=
  match s.holdNotice h.serial with
  | some _ => s
  | none => appendNotice .hold h.serial true s

/-- A RECALL frame taken (R45). -/
def takeRecall (target : Nat) (s : State) : State :=
  if target = s.own then s.holds.own.foldl replayNotice s else s

/-! ## Ballot frames -/

/-- A PROPOSE taken (R59). -/
def takePropose (a : Nat) (b : Ballot) (size : Nat) (digest : Digest) (s : State) : State :=
  if b.proposer = a ∧ s.wouldReplace b = true then vote b size digest (offer b s) else s

/-- An ASSENT taken (R62, R63). -/
def takeAssent (a : Nat) (b : Ballot) (s : State) : State :=
  let t := offer b s
  if t.isPledged .proposer b then claimCommit b (addVote a t) else t

/-- A DEMUR taken (R64). -/
def takeDemur (b : Ballot) (s : State) : State :=
  let t := offer b s
  if t.isPledged .proposer b then leave t else t

/-- A COMMIT taken (R66). -/
def takeCommit (b : Ballot) (s : State) : State :=
  let t := offer b s
  if t.isPledged .voter b then enterClosed t else t

/-- A WITHDRAW taken (R67). -/
def takeWithdraw (b : Ballot) (s : State) : State :=
  let t := offer b s
  if t.isPledged .voter b || (decide (t.ballot.mode = .closed) && decide (t.ballot.current = some b)) then leave t else t

/-! ## The arrival of a frame at the link controller -/

/-- MUTE entry (R192, R32). -/
def enterMute (s : State) : State :=
  (s.setHolds { s.holds with notices := [] }).setLink
    { s.link with mute := true, mutePending := false, queue := [], announceFlag := false, wait := none, attempts := 0,
                  counted := none }

/-- The end of a frame that is not the station's own: the medium becomes IDLE; a wait that its start should have stopped is
stopped (R185, R186; log 7). While the station's own frame is on the line the medium stays BUSY. -/
def lineQuiet (s : State) : State :=
  if s.link.sending.isSome then s else s.setLink { s.link with medium := .idle, wait := none }

/-- The last sender becomes an address (R185 step 1). -/
def setLastSender (a : Nat) (s : State) : State := s.setLink { s.link with lastSender := a }

/-- A notice moved to the head of the list: before every notice that is not on the line (R32). -/
def moveToHead (n : Notice) (s : State) : State :=
  let others := s.holds.notices.filter fun x => decide (x.item ≠ n.item)
  let onLine := fun (x : Notice) => s.link.onLine (.notice x.item)
  s.setHolds { s.holds with notices := others.takeWhile onLine ++ n :: others.dropWhile onLine }

/-- The notice of the DUPLICATE hold in the notice list, if it is there. -/
def State.duplicateNotice (s : State) : Option Notice := (s.ownHold .duplicate none).bind fun h => s.holdNotice h.serial

/-- A duplicate frame (R191). -/
def duplicate (s : State) : State :=
  if s.stands .duplicate then s
  else
    let t := raiseHold .duplicate none none s
    match t.duplicateNotice with
    | some n =>
      let u := moveToHead n t
      u.setLink { u.link with mutePending := true }
    | none => enterMute t

/-- A valid frame bearing the own address: the own readback while the station sends, and then judged at the send's end
(R188, R189); otherwise a duplicate frame (R179, R191). -/
def ownAddressHeard (s : State) : State :=
  if s.link.sending.isSome then s else duplicate (setLastSender s.own (lineQuiet s))

/-- The state in which a frame's owner takes it: the frame has ended, its sender is the last sender and has been heard, and
DISCORD has been judged on it (R8 steps 1 and 2, R24, R185; log 11). -/
def heardState (a : Nat) (s : State) : State := judgeDiscord (hear a (setLastSender a (lineQuiet s)))

/-- The arrival of a frame (R8, R178, R179, R185): a frame that is not valid is discarded; one bearing the own address is
delivered to no block; in START a frame only sets the last sender; otherwise the roster hears the sender, the owner of the
frame's kind takes it, and the roster judges its holds again. -/
def arrive (a : Nat) (valid : Bool) (owner : State → State) (s : State) : State :=
  if valid then
    if s.addressed && decide (a = s.own) then ownAddressHeard s
    else if s.ballot.mode = .start then setLastSender a (lineQuiet s)
    else judgeView (owner (heardState a s))
  else lineQuiet s

end Sys2Proof.Machine
end

