-- ==== Sys2Proof/Machine/FrameCommands.lean ====
section
/-! DEFINITION. The commands of the frame family: the frames of other parties, each the end of that frame on the line with its
sender and content (R8, R178, R179, R185). -/

namespace Sys2Proof.Machine

/-- TALLY (R11). -/
def execTally (sender : Nat) (content : Summary) (s : State) : Host.Outcome State Fault Refusal :=
  event (arrive sender (frameValid sender (.tally content)) (takeTally sender content (s.entry sender).recallPending)) s

/-- ANNOUNCE (R12). -/
def execAnnounce (sender : Nat) (content : AnnounceData) (s : State) : Host.Outcome State Fault Refusal :=
  event (arrive sender (frameValid sender (.announce content)) (takeAnnounce sender content)) s

/-- HOLD (R38, R39). -/
def execHold (sender : Nat) (serial : Byte) (cause : Cause) (index : Option Nat) (detail : Option Detail) (s : State) :
    Host.Outcome State Fault Refusal :=
  event (arrive sender (frameValid sender (.hold serial cause index detail))
    (takeHold ⟨sender, serial, cause, index, detail, s.now⟩)) s

/-- LIFT (R40). -/
def execLift (sender : Nat) (serial : Byte) (s : State) : Host.Outcome State Fault Refusal :=
  event (arrive sender (frameValid sender (.lift serial)) (takeLift sender serial)) s

/-- RECALL (R45). -/
def execRecall (sender target : Nat) (s : State) : Host.Outcome State Fault Refusal :=
  event (arrive sender (frameValid sender (.recall target)) (takeRecall target)) s

/-- PROPOSE (R59). -/
def execPropose (sender : Nat) (ballot : Ballot) (size : Nat) (digest : Digest) (s : State) :
    Host.Outcome State Fault Refusal :=
  event (arrive sender (frameValid sender (.propose ballot size digest)) (takePropose sender ballot size digest)) s

/-- ASSENT (R62, R63). -/
def execAssent (sender : Nat) (ballot : Ballot) (s : State) : Host.Outcome State Fault Refusal :=
  event (arrive sender (frameValid sender (.assent ballot)) (takeAssent sender ballot)) s

/-- DEMUR (R64). -/
def execDemur (sender : Nat) (ballot : Ballot) (reason : DemurReason) (s : State) : Host.Outcome State Fault Refusal :=
  event (arrive sender (frameValid sender (.demur ballot reason)) (takeDemur ballot)) s

/-- COMMIT (R66). -/
def execCommit (sender : Nat) (ballot : Ballot) (s : State) : Host.Outcome State Fault Refusal :=
  event (arrive sender (frameValid sender (.commit ballot)) (takeCommit ballot)) s

/-- WITHDRAW (R67). -/
def execWithdraw (sender : Nat) (ballot : Ballot) (s : State) : Host.Outcome State Fault Refusal :=
  event (arrive sender (frameValid sender (.withdraw ballot)) (takeWithdraw ballot)) s

/-- ANSWER of another station: the roster hears its sender, and nothing more (R8 step 3). -/
def execAnswer (sender : Nat) (payload : List Byte) (s : State) : Host.Outcome State Fault Refusal :=
  event (arrive sender (frameValid sender (.answer payload)) (fun t => t)) s

end Sys2Proof.Machine
end

