-- ==== Sys2Proof/Machine/Lockouts.lean ====
section
/-! DEFINITION. The lockout unit's shared operations: retained-store writes (R143, R147, R151), escalation and the beginning of
a lockout (R144, R145), and what the store read settles (R142, R156, R157). -/

namespace Sys2Proof.Machine

/-! ## Writes -/

/-- The unit's copy of one lockout slot set. -/
def SlotCopies.setLockout (c : SlotCopies) (n : SlotName) (x : Option LockoutSlot) : SlotCopies :=
  match n with
  | .a => { c with lockoutA := x }
  | .b => { c with lockoutB := x }

/-- The unit's copy of one configuration slot set. -/
def SlotCopies.setConfig (c : SlotCopies) (n : SlotName) (x : Option ConfigSlot) : SlotCopies :=
  match n with
  | .a => { c with configA := x }
  | .b => { c with configB := x }

/-- One lockout slot of the store set. -/
def RetainedStore.setLockout (r : RetainedStore) (n : SlotName) (x : Slot LockoutSlot) : RetainedStore :=
  match n with
  | .a => { r with lockoutA := x }
  | .b => { r with lockoutB := x }

/-- One configuration slot of the store set. -/
def RetainedStore.setConfig (r : RetainedStore) (n : SlotName) (x : Slot ConfigSlot) : RetainedStore :=
  match n with
  | .a => { r with configA := x }
  | .b => { r with configB := x }

/-- The unit's copy of a write's target set to hold its content, or counted invalid (R143). -/
def Write.copied (w : Write) (landed : Bool) (c : SlotCopies) : SlotCopies :=
  match w with
  | .active n x => c.setLockout n (if landed then some x else none)
  | .release n x => c.setLockout n (if landed then some x else none)
  | .config n x => c.setConfig n (if landed then some x else none)

/-- A write's target in the store set to hold its content, or torn (R143, R158). -/
def Write.stored (w : Write) (landed : Bool) (r : RetainedStore) : RetainedStore :=
  match w with
  | .active n x => r.setLockout n (if landed then .written x else .torn)
  | .release n x => r.setLockout n (if landed then .written x else .torn)
  | .config n x => r.setConfig n (if landed then .written x else .torn)

/-- A write starts: its target counts as invalid, and would be found torn by a start (R143, R158). -/
def startWrite (w : Write) (s : State) : State :=
  (s.setLockout { s.lockout with inFlight := some w, copies := w.copied false s.lockout.copies }).setStore
    (w.stored false s.store)

/-- A write has completed: with OK the slot and the copy hold the record, with FAIL both stay invalid (R143). -/
def endWrite (w : Write) (o : WriteOutcome) (s : State) : State :=
  let landed := decide (o = .ok)
  (s.setLockout { s.lockout with inFlight := none, copies := w.copied landed s.lockout.copies }).setStore
    (w.stored landed s.store)

/-- What an ACTIVE or a release write of the lockout record carries; an ACTIVE record always names a cause (R147, R151). -/
def LockoutRecord.slot (r : LockoutRecord) (st : SlotState) : Option LockoutSlot :=
  r.cause.map fun c => ⟨r.serial, st, c, r.index⟩

/-- An ACTIVE write starts to a slot, with its attempt number (R147). -/
def startActiveTo (n : SlotName) (attempt : Nat) (s : State) : State :=
  match s.lockout.record.slot .active with
  | some x =>
    startWrite (.active n x) (s.setLockout { s.lockout with record := { s.lockout.record with attempt := attempt } })
  | none => s

/-- The first ACTIVE write of the record starts (R147). -/
def startActive (s : State) : State := startActiveTo s.lockout.copies.lockoutTarget 1 s

/-- The pending write starts once no write is in flight (R143). -/
def startPending (s : State) : State :=
  if s.lockout.pendingWrite && s.lockout.inFlight.isNone then
    startActive (s.setLockout { s.lockout with pendingWrite := false })
  else s

/-! ## Escalation -/

/-- The serial the next lockout takes (R145 step 1). -/
def SlotCopies.nextSerial (c : SlotCopies) : Nat := if c.storedSerial < 65535 then c.storedSerial + 1 else 65535

/-- The newest valid record is RELEASED under serial 65535: a lockout can then not be retained (R145). -/
def SlotCopies.exhausted (c : SlotCopies) : Bool :=
  match c.newest with
  | some (_, r) => decide (r.serial = 65535) && decide (r.state = .released)
  | none => false

/-- A lockout begins (R145). -/
def beginLockout (e : Escalation) (s : State) : State :=
  let r : LockoutRecord :=
    { state := .active, serial := s.lockout.copies.nextSerial, cause := some e.cause, index := e.index, retained := false,
      attempt := 0 }
  let t := raiseHold .lockout none (some (.lockout e.cause)) (s.setLockout { s.lockout with record := r })
  if t.lockout.copies.exhausted then t
  else if t.lockout.inFlight.isNone then startActive t
  else t.setLockout { t.lockout with pendingWrite := true }

/-- An escalation request (R144, R146). -/
def escalate (e : Escalation) (s : State) : State :=
  match s.lockout.record.state, s.lockout.inFlight with
  | .none, _ => beginLockout e s
  | .active, some (.release _ _) =>
    if s.lockout.pendingEscalation.isNone then s.setLockout { s.lockout with pendingEscalation := some e } else s
  | .active, _ => s

/-! ## The store read (R142, R156, R157) -/

/-- A configuration slot's content when the slot is valid (R142, R173). -/
def validConfigSlot : Slot ConfigSlot → Option ConfigSlot
  | .torn => none
  | .written x => if 1 ≤ x.generation ∧ x.generation ≤ 65535 ∧ configInRange x.record = true then some x else none

/-- A lockout slot's content when the slot is valid (R142). -/
def validLockoutSlot : Slot LockoutSlot → Option LockoutSlot
  | .torn => none
  | .written x => if 1 ≤ x.serial ∧ x.serial ≤ 65535 then some x else none

/-- The unit's copy of all four slots, judged (R156 step 1). -/
def RetainedStore.judged (r : RetainedStore) : SlotCopies :=
  ⟨validConfigSlot r.configA, validConfigSlot r.configB, validLockoutSlot r.lockoutA, validLockoutSlot r.lockoutB⟩

/-- The configuration in use that the slots give: the higher generation, A on equal ones, the only valid one, or the defaults
(R156 step 2, R175). -/
def SlotCopies.configInUse (c : SlotCopies) : ConfigInUse :=
  match c.configA, c.configB with
  | some a, some b =>
    if b.generation ≤ a.generation then ⟨a.record, a.generation, .slotA⟩ else ⟨b.record, b.generation, .slotB⟩
  | some a, none => ⟨a.record, a.generation, .slotA⟩
  | none, some b => ⟨b.record, b.generation, .slotB⟩
  | none, none => ⟨defaultConfig, 0, .defaults⟩

/-- The lockout record that the slots give (R157). -/
def SlotCopies.lockoutRecord (c : SlotCopies) : LockoutRecord :=
  match c.newest with
  | some (_, x) =>
    match x.state with
    | .active =>
      { state := .active, serial := x.serial, cause := some x.cause, index := x.index, retained := true, attempt := 0 }
    | .released =>
      { state := .none, serial := x.serial, cause := some x.cause, index := x.index, retained := false, attempt := 0 }
  | none => LockoutRecord.atStart

/-- Step 1 of the store read's completion (R156). -/
def copySlots (s : State) : State := s.setLockout { s.lockout with copies := s.store.judged }

/-- Step 2: the configuration in use is settled, with the own digest (R22, R174) and, on the defaults, the CONFIG hold
(R175). -/
def settleConfig (s : State) : State :=
  let c := s.lockout.copies.configInUse
  let t := s.setStartup { s.startup with config := some c, digest := stringDigest c.record.shared }
  if c.source = .defaults then raiseHold .config none none t else t

/-- Step 3: the lockout record is set, and an ACTIVE one raises the LOCKOUT hold (R157). -/
def settleLockout (s : State) : State :=
  let r := s.lockout.copies.lockoutRecord
  let t := s.setLockout { s.lockout with record := r }
  match r.state, r.cause with
  | .active, some c => raiseHold .lockout none (some (.lockout c)) t
  | _, _ => t

end Sys2Proof.Machine
end

