-- ==== Sys2Proof/Machine/Monitors.lean ====
section
/-! DEFINITION. The monitor bank: which monitors exist (R90), classification (R92 to R97), the state machine (R98 to R102),
requests (R103, R104), severe counts (R105, R106) and recurrence (R107), in the order of R91. -/

namespace Sys2Proof.Machine

/-- The monitors of a station with N_fit cells, in their start values and in number order (R89, R90). -/
def formMonitors (fitted : Nat) : List Monitor :=
  let cells := cellNumbers.filter fun c => decide (c ≤ fitted)
  cells.map (fun c => Monitor.fresh c .high (some c)) ++ cells.map (fun c => Monitor.fresh (10 + c) .low (some c))
    ++ [Monitor.fresh 21 .tap none, Monitor.fresh 22 .hot none, Monitor.fresh 23 .cold none, Monitor.fresh 24 .sum none]

/-! ## Classification -/

/-- HIGH for a cell (R92). -/
def classifyHigh (p : CellParams) : Option Nat → MonitorClass
  | none => .frozen
  | some v =>
    if p.highLevel < v then .crossing else if (v : Int) ≤ (p.highLevel : Int) - p.hysteresis then .easing else .between

/-- LOW for a cell (R93). -/
def classifyLow (p : CellParams) : Option Nat → MonitorClass
  | none => .frozen
  | some v => if v < p.lowLevel then .crossing else if p.lowLevel + p.hysteresis ≤ v then .easing else .between

/-- HOT (R95). -/
def classifyHot (p : LimitParams) : Option Int → MonitorClass
  | none => .crossing
  | some m => if p.hotLevel < m then .crossing else if m ≤ p.hotLevel - p.hysteresis then .easing else .between

/-- COLD (R96). -/
def classifyCold (p : LimitParams) : Option Int → MonitorClass
  | none => .frozen
  | some m => if m < p.coldLevel then .crossing else if p.coldLevel + p.hysteresis ≤ m then .easing else .between

/-- The sum of the fitted cells, absent when one is invalid (R97). -/
def fittedSum (x : SampleSet) (cells : List Nat) : Option Nat :=
  cells.foldl (fun acc c => match acc, x.cell c with
    | some a, some v => some (a + v)
    | _, _ => none) (some 0)

/-- SUM (R97). -/
def classifySum (tolerance moduleSum : Nat) : Option Nat → MonitorClass
  | none => .frozen
  | some t =>
    let d := ((moduleSum : Int) - t).natAbs
    if tolerance < d then .crossing else if d ≤ tolerance / 2 then .easing else .between

/-- The value of a HIGH or LOW monitor's cell. -/
def Monitor.reading (m : Monitor) (x : SampleSet) : Option Nat := m.cell.bind x.cell

/-- The lowest fitted tap found open (R94, R103). -/
def State.lowestOpenTap (s : State) (x : SampleSet) : Option Nat := s.fittedTaps.find? x.isOpen

/-- The class of a monitor's input in a sample set (R91 step 1). -/
def State.classify (s : State) (x : SampleSet) (m : Monitor) : MonitorClass :=
  match m.kind with
  | .high => classifyHigh s.cfg.cells (m.reading x)
  | .low => classifyLow s.cfg.cells (m.reading x)
  | .tap => if (s.lowestOpenTap x).isSome then .crossing else .easing
  | .hot => classifyHot s.cfg.limits x.hotter
  | .cold => classifyCold s.cfg.limits x.colder
  | .sum => classifySum s.cfg.cells.sumTolerance x.moduleSum (fittedSum x s.fittedCells)

/-- Whether the reading is severe; absent when it is not judged (R92, R93, R95, R105). -/
def State.severe (s : State) (x : SampleSet) (m : Monitor) : Option Bool :=
  match m.kind with
  | .high => (m.reading x).map fun v => decide (s.cfg.cells.highSevere < v)
  | .low => (m.reading x).map fun v => decide (v < s.cfg.cells.lowSevere)
  | .hot => x.hotter.map fun v => decide (s.cfg.limits.hotSevere < v)
  | .tap => none
  | .cold => none
  | .sum => none

/-! ## The state machine -/

/-- The request a transition sends to the hold unit (R103, R104). -/
inductive MonitorRequest where
  | quiet | raise | lift
  deriving DecidableEq, Repr

/-- A monitor's next state and count and the request it sends, on a class (R98 to R102). -/
def advance (p : LimitParams) (st : MonitorState) (count : Nat) : MonitorClass → MonitorState × Nat × MonitorRequest
  | .frozen => (st, count, .quiet)
  | .crossing =>
    match st with
    | .clear => if p.raiseCount ≤ 1 then (.held, 0, .raise) else (.counting, 1, .quiet)
    | .counting => if p.raiseCount ≤ count + 1 then (.held, 0, .raise) else (.counting, count + 1, .quiet)
    | .held => (.held, 0, .quiet)
    | .easing => (.held, 0, .quiet)
  | .easing =>
    match st with
    | .clear => (.clear, 0, .quiet)
    | .counting => (.clear, 0, .quiet)
    | .held => if p.easeCount ≤ 1 then (.clear, 0, .lift) else (.easing, 1, .quiet)
    | .easing => if p.easeCount ≤ count + 1 then (.clear, 0, .lift) else (.easing, count + 1, .quiet)
  | .between =>
    match st with
    | .clear => (.clear, 0, .quiet)
    | .counting => (.clear, 0, .quiet)
    | .held => (.held, 0, .quiet)
    | .easing => (.held, 0, .quiet)

/-- The hold cause of a monitor kind (R103). -/
def raiseCause : MonitorKind → Cause
  | .high => .high
  | .low => .low
  | .tap => .tap
  | .hot => .hot
  | .cold => .cold
  | .sum => .sum

/-- The recurrence cause code of a monitor kind (R107). -/
def recurCause : MonitorKind → LockoutCause
  | .high => .recurHigh
  | .low => .recurLow
  | .tap => .recurTap
  | .hot => .recurHot
  | .cold => .recurCold
  | .sum => .recurSum

/-- The severe cause code of a monitor kind (R106). -/
def severeCause : MonitorKind → Option LockoutCause
  | .high => some .highSevere
  | .low => some .lowSevere
  | .hot => some .hotSevere
  | .tap => none
  | .cold => none
  | .sum => none

/-- The index of a monitor's hold and of its escalations (R103, R106, R107). -/
def Monitor.index (m : Monitor) : Option Nat :=
  match m.kind with
  | .tap => m.raisedTap
  | _ => m.cell

/-- One monitor's record replaced, by its number. -/
def putMonitor (m : Monitor) (s : State) : State :=
  s.setMonitors { s.monitors with records := s.monitors.records.map fun r => if r.number = m.number then m else r }

/-- The older of two recorded raises lies within the recurrence window before now (R107 step 1). -/
def recurs (window : Nat) (now : ClockTime) : List ClockTime → Bool
  | _ :: older :: _ => decide ((now - older).toNat ≤ window * 60000)
  | _ => false

/-- The requests due at the transition (R91 steps 2 and 3): the raise, then the recurrence check and the list; or the lift,
with the raised tap made absent. -/
def sendRequest (x : SampleSet) (m : Monitor) (s : State) : MonitorRequest → State
  | .quiet => s
  | .raise =>
    let t := raiseHold (raiseCause m.kind) m.index none s
    let t := if recurs s.cfg.limits.window x.completed m.recurrence then escalate ⟨recurCause m.kind, m.index⟩ t else t
    putMonitor { m with recurrence := (x.completed :: m.recurrence).take 2 } t
  | .lift => liftHold (raiseCause m.kind) m.index (putMonitor { m with raisedTap := none } s)

/-- The severe judgement taken (R105, R106). -/
def takeSevere (severe : Option Bool) (number : Nat) (s : State) : State :=
  match s.monitors.records.find? fun r => decide (r.number = number) with
  | none => s
  | some m =>
    match severe, severeCause m.kind with
    | some true, some c =>
      if s.cfg.limits.raiseCount ≤ m.severeCount + 1 then escalate ⟨c, m.index⟩ (putMonitor { m with severeCount := 0 } s)
      else putMonitor { m with severeCount := m.severeCount + 1 } s
    | some false, _ => putMonitor { m with severeCount := 0 } s
    | _, _ => s

/-- One monitor's evaluation (R91): classify, take the class, send what is due, take the severe judgement. -/
def evaluateOne (x : SampleSet) (s : State) (number : Nat) : State :=
  match s.monitors.records.find? fun r => decide (r.number = number) with
  | none => s
  | some m =>
    let cls := s.classify x m
    let (st, count, req) := advance s.cfg.limits m.state m.count cls
    let tap := if m.kind = .tap ∧ req = .raise then s.lowestOpenTap x else m.raisedTap
    let m' := { m with state := st, count := count, raisedTap := tap, lastClass := some cls }
    takeSevere (s.severe x m) number (sendRequest x m' (putMonitor m' s) req)

/-- Every existing monitor is evaluated once, in number order, and the time of the set is noted (R91, R111). -/
def evaluateMonitors (x : SampleSet) (s : State) : State :=
  let t := (s.monitors.records.map fun m => m.number).foldl (evaluateOne x) s
  t.setMonitors { t.monitors with lastEvaluated := some x.completed }

end Sys2Proof.Machine
end

