-- ==== Sys2Proof/Machine/Plans.lean ====
section
/-! DEFINITION. The bleed planner's plan points: when bleeding is allowed (R114), the selection (R115, R116), demand, grant and
bleed set (R117, R119, R120), and the two plan points (R122, R123). -/

namespace Sys2Proof.Machine

/-- The die temperature of the latest sample set is at or above the bleed die limit (R114). -/
def State.dieTooHot (s : State) : Bool :=
  match s.sweep.latest with
  | some x => decide (s.cfg.limits.dieLimit ≤ x.die)
  | none => false

/-- The first disallowing condition, with the floor just taken (R114). -/
def State.disallowed (s : State) (floor : Option Nat) : Option DisallowReason :=
  if s.ballot.mode = .start ∨ s.ballot.mode = .join then some .mode
  else if s.plan.paused then some .paused
  else if s.cfg.shared.budget = 0 then some .noBudget
  else if s.dieTooHot then some .die
  else if s.hotNotClear then some .hot
  else if floor.isNone then some .noFloor
  else none

/-- The cells with their values that may be bled down to a target (R115). -/
def State.candidates (s : State) (target : Nat) : List (Nat × Nat) :=
  match s.sweep.latest with
  | some x =>
    s.fittedCells.filterMap fun c =>
      match x.cell c with
      | some v => if target < v ∧ s.cfg.cells.bleedFloor < v then some (c, v) else none
      | none => none
  | none => []

/-- A candidate put after every one whose value is at least its own: taken in cell order, this places the candidates highest
first and, among equals, the lower number first (R116 step 1). -/
def insertCandidate (x : Nat × Nat) : List (Nat × Nat) → List (Nat × Nat)
  | [] => [x]
  | y :: rest => if x.2 ≤ y.2 then y :: insertCandidate x rest else x :: y :: rest

/-- The candidates in the order of R116 step 1. -/
def orderCandidates (l : List (Nat × Nat)) : List (Nat × Nat) := l.foldl (fun acc x => insertCandidate x acc) []

/-- A candidate added when neither neighbour is in the selection (R116 step 2). -/
def takeCandidate (sel : List Nat) (x : Nat × Nat) : List Nat :=
  if sel.contains (x.1 - 1) || sel.contains (x.1 + 1) then sel else sel ++ [x.1]

/-- The selection of a list of candidates (R116). -/
def selectCells (l : List (Nat × Nat)) : List Nat := (orderCandidates l).foldl takeCandidate []

/-- The grant (R119). -/
def grantFor (allowed : Bool) (advertised total budget : Nat) : Nat :=
  if !allowed then 0
  else if advertised = 0 then 0
  else if total ≤ budget then advertised
  else advertised * budget / total

/-- The plan recomputed at a plan point, from the advertised demand as it stands (R122 steps 1 to 5, R123 steps 2 to 5). -/
def State.planned (s : State) : PlanRecord :=
  let floor := s.floor
  let target := floor.map fun f => f + s.cfg.shared.margin
  let total := s.totalDemand
  let reason := s.disallowed floor
  let selection := match reason, target with
    | none, some t => selectCells (s.candidates t)
    | _, _ => []
  let grant := grantFor reason.isNone s.plan.advertised total s.cfg.shared.budget
  { s.plan with
    allowed := reason.isNone, reason := reason, floor := floor, target := target, total := total,
    selection := selection, demand := selection.length, grant := grant, bleedSet := selection.take grant }

/-- The sweep plan point: the plan recomputed and the suspension ended (R122). -/
def sweepPlanPoint (s : State) : State := s.setPlan { s.planned with suspended := false }

/-- The TALLY plan point, with the advertised demand that the TALLY carried (R123). -/
def tallyPlanPoint (advertised : Nat) (s : State) : State :=
  let t := s.setPlan { s.plan with advertised := advertised }
  t.setPlan t.planned

/-- A sweep start: every bleed output goes off while the bleed set is kept (R77, R121). -/
def suspendBleeding (s : State) : State := s.setPlan { s.plan with suspended := true }

end Sys2Proof.Machine
end

