-- ==== Sys2Proof/Machine/Starts.lean ====
section
/-! DEFINITION. A start and START entry (R160 to R164), the sample set (R79 to R82), the delivery of a sweep (R83, R84), JOIN
entry (R167), a sweep's start (R77). -/

namespace Sys2Proof.Machine

/-- A start, with START entry as one event with it (R160, R161): every block takes its start value, the retained slots persist
(a slot being written is already torn in the store), the straps are read, and with a valid strap address the first sweep, its
timer and a settle check begin (R164). The commands that wait, the pins and the counter of free values are not the part's
blocks. -/
def startRun (straps : Straps) (feedback : SwitchPos) (medium : Medium) (s : State) : State where
  pending := s.pending
  pins := { straps := straps, feedback := feedback }
  clock := { ms := 0, us := 0 }
  startup := StartSequence.atStart straps.level
  sweep := SweepUnit.atStart (validAddress straps.level.toNat)
  monitors := MonitorBank.atStart
  holds := HoldUnit.atStart
  roster := Roster.atStart
  ballot := BallotUnit.atStart
  plan := PlanRecord.atStart (validAddress straps.level.toNat)
  switch := SwitchDriver.atStart (validAddress straps.level.toNat) feedback
  lockout := LockoutUnit.atStart
  store := s.store
  link := LinkController.atStart medium
  orders := OrderHandler.atStart
  free := s.free

/-- The strap inputs as the next RESTART start finds them: a strap changed while the station runs takes effect there (R161, log 6). -/
def strapsAtRestart (p : Straps) : Straps :=
  match p.moved with
  | [] => p
  | x :: rest => { level := x, moved := rest }

/-- The start that a RESTART order delivers (R160, R161, R205): the straps read anew, the feedback input as it stands, the medium as
it is sensed. -/
def restartRun (s : State) : State := startRun (strapsAtRestart s.pins.straps) s.pins.feedback s.link.medium s

/-! ## Sweeps -/

/-- The sweep interval in use: the default of 250 ms before the store read has completed (R76). -/
def State.sweepInterval (s : State) : Nat :=
  match s.startup.config with
  | some c => c.record.cells.sweepInterval
  | none => firstSweepInterval

/-- A sweep starts: the flag becomes yes and the planner suspends the bleed set (R77). -/
def startSweep (s : State) : State := suspendBleeding (s.setSweep { s.sweep with inProgress := true })

/-- A reading limited to a range (R80 to R82). -/
def limited (lo hi v : Int) : Int := if v < lo then lo else if hi < v then hi else v

/-- Tap t was found open. -/
def tapFound (r : Readings) (t : Nat) : Bool := (r.tapOpen[t]?).getD false

/-- Cell c of the sample set: invalid beside an open tap, else limited to 0 to 5000 (R80). -/
def cellOf (r : Readings) (c : Nat) : Option Nat :=
  if tapFound r (c - 1) || tapFound r c then none else some (limited 0 5000 ((r.cells[c - 1]?).getD 0)).toNat

/-- A thermistor: invalid when open, shorted or out of range (R81). -/
def thermistor : Option Int → Option Int
  | some v => if -400 ≤ v ∧ v ≤ 1250 then some v else none
  | none => none

/-- The sample set formed from a sweep's readings, at a station-clock time (R79 to R82). -/
def sampleSetOf (r : Readings) (now : ClockTime) : SampleSet where
  cells := cellNumbers.map (cellOf r)
  tapOpen := tapNumbers.map (tapFound r)
  moduleSum := (limited 0 50000 r.moduleSum).toNat
  t1 := thermistor r.t1
  t2 := thermistor r.t2
  die := limited (-400) 1250 r.die
  completed := now

/-- The latest sample set replaced whole and the flag cleared (R83 steps 1 and 2). -/
def takeReadings (r : Readings) (s : State) : State :=
  s.setSweep { s.sweep with inProgress := false, latest := some (sampleSetOf r s.now) }

/-- The completion delivered to the monitor bank and then to the bleed planner (R83 steps 3 and 4, R84). -/
def deliverSweep (s : State) : State :=
  match s.sweep.latest with
  | some x => sweepPlanPoint (evaluateMonitors x s)
  | none => s

/-! ## JOIN entry (R167) -/

/-- The own entry becomes PRESENT with age 0 and the own announce data (R16, R167 step 2). -/
def enterRoster (s : State) : State :=
  s.updateEntry s.own fun e => { e with state := .present, age := 0, announced := some s.ownAnnounce }

/-- One HOLD notice with replay no for each own hold, in raise order (R32, R167 step 3). -/
def announceHolds (s : State) : State := s.holds.own.foldl (fun t h => appendNotice .hold h.serial false t) s

/-- The ANNOUNCE flag is set, unless the station is MUTE (R167 step 4, R182, R193). -/
def setAnnounce (s : State) : State :=
  if s.link.mute then s else settleWait (s.setLink { s.link with announceFlag := true })

/-- The tally timer is started (R13, R167 step 5). -/
def startTally (s : State) : State :=
  s.setRoster { s.roster with tallyTimer := Timer.startMs s.cfg.shared.tallyPeriod }

/-- JOIN entry (R167). -/
def joinEntry (s : State) : State :=
  judgeDiscord (startTally (setAnnounce (announceHolds (enterRoster (setMode .join s)))))

end Sys2Proof.Machine
end

