-- ==== Sys2Proof/Machine/Sends.lean ====
section
/-! DEFINITION. The sending of frames: the frame built at a transmission start (R17, R30, R187), the end of a notice's send
(R31), the own TALLY's completion (R18), the drop of an item (R190). -/

namespace Sys2Proof.Machine

/-- The content of a claimed frame; a TALLY's is built from the blocks as they stand (R17, R183). -/
def Claim.body (s : State) : Claim → Body
  | .tally => .tally s.ownTally
  | .recall p => .recall p
  | .propose b n d => .propose b n d
  | .assent b => .assent b
  | .demur b r => .demur b r
  | .commit b => .commit b
  | .withdraw b => .withdraw b
  | .answer p _ => .answer p

/-- The content of a notice's frame, from the own hold record as it stands (R30). -/
def State.noticeBody (s : State) (n : Notice) : Option Body :=
  match n.kind with
  | .lift => some (.lift n.serial)
  | .hold => (s.ownHoldOfSerial n.serial).map fun h => .hold h.serial h.cause h.index h.detail

/-- The notice of an item number. -/
def State.noticeOf (s : State) (item : Nat) : Option Notice := s.holds.notices.find? fun n => decide (n.item = item)

/-- The queued frame of an item number. -/
def State.queuedOf (s : State) (item : Nat) : Option QueueEntry := s.link.queue.find? fun q => decide (q.item = item)

/-- The frame built of an item at its transmission start (R182, R187). -/
def State.bodyFor (s : State) : Item → Option Body
  | .announce => (s.entry s.own).announced.map .announce
  | .notice n => (s.noticeOf n).bind s.noticeBody
  | .queued n => (s.queuedOf n).map fun q => q.claim.body s

/-- A transmission start: the item goes on the line, its sender field the own address, and the medium is BUSY (R161, R187). -/
def transmit (s : State) : State :=
  match s.nextItem with
  | none => s
  | some i =>
    match s.bodyFor i with
    | some b => s.setLink { s.link with sending := some ⟨i, s.own, b⟩, medium := .busy }
    | none => s

/-- A frame removed from the transmit queue. -/
def removeQueued (item : Nat) (s : State) : State :=
  s.setLink { s.link with queue := s.link.queue.filter fun q => decide (q.item ≠ item) }

/-- The ANNOUNCE flag cleared (R182). -/
def clearAnnounce (s : State) : State := s.setLink { s.link with announceFlag := false }

/-- The frame on the line as bytes (R177, R194). -/
def Sending.wire (x : Sending) : List Byte := x.body.wire x.sender

/-- The detail a HOLD frame carried. -/
def Body.detail : Body → Option Detail
  | .hold _ _ _ d => d
  | _ => none

/-- A notice kept after its send with replay yes (R31). -/
def keepForReplay (item : Nat) (s : State) : State :=
  s.setHolds { s.holds with notices := s.holds.notices.map fun n => if n.item = item then { n with replay := true } else n }

/-- The successful send of a notice: removed, but kept with replay yes when the record has taken another detail (R31). -/
def noticeSent (item : Nat) (sent : Body) (s : State) : State :=
  match s.noticeOf item with
  | none => s
  | some n =>
    match n.kind, s.ownHoldOfSerial n.serial with
    | .hold, some h => if h.detail = sent.detail then removeNotice item s else keepForReplay item s
    | _, _ => removeNotice item s

/-- The aborted send of a notice: kept in place, but removed when its record has been lifted meanwhile (R31). -/
def noticeAborted (item : Nat) (s : State) : State :=
  match s.noticeOf item with
  | none => s
  | some n =>
    match n.kind, s.ownHoldOfSerial n.serial with
    | .hold, none => removeNotice item s
    | _, _ => s

/-- The own TALLY's successful send (R18): the own summary, the close confirmation for the own entry, the TALLY plan point. -/
def ownTallySent (t : Summary) (s : State) : State :=
  let u := s.updateEntry s.own fun e => { e with summary := some t }
  let u := if u.isMember u.own then confirmOffer u.own t.mode t.ballot u else u
  tallyPlanPoint t.advertisedDemand u

/-- The own COMMIT's successful send: the proposer closes when it is still pledged to that ballot (R63). -/
def ownCommitSent (b : Ballot) (s : State) : State := if s.isPledged .proposer b then enterClosed s else s

/-- What the owner of a queued frame does at its successful send (R188 step 3). -/
def frameSent (b : Body) (s : State) : State :=
  match b with
  | .tally t => ownTallySent t s
  | .commit x => ownCommitSent x s
  | _ => s

/-- The owner of an item takes its successful send (R188 step 3). -/
def itemSent (x : Sending) (s : State) : State :=
  match x.item with
  | .announce => clearAnnounce s
  | .notice n => noticeSent n x.body s
  | .queued n => frameSent x.body (removeQueued n s)

/-- The item is the DUPLICATE hold's notice (R188 step 5, R190). -/
def Sending.isDuplicateNotice (x : Sending) : Bool :=
  match x.item, x.body with
  | .notice _, .hold _ .duplicate _ _ => true
  | _, _ => false

/-- MUTE entered at the end of the DUPLICATE notice's send (R192). -/
def muteAfter (x : Sending) (s : State) : State :=
  if s.link.mutePending && x.isDuplicateNotice then enterMute s else s

/-- The item on the line is an ANSWER with the restart mark (R205). -/
def State.sendsRestart (s : State) (x : Sending) : Bool :=
  match x.item with
  | .queued n =>
    match s.queuedOf n with
    | some ⟨_, .answer _ marked⟩ => marked
    | _ => false
  | _ => false

/-- A successful send completion (R188), and after its other steps the start that a marked ANSWER delivers (R205). -/
def completeSend (s : State) : State :=
  match s.link.sending with
  | none => s
  | some x =>
    let t := s.setLink
      { s.link with lastSender := s.own, medium := .idle, attempts := 0, counted := none, sending := none }
    let t := muteAfter x (liftHold .send none (itemSent x t))
    if s.sendsRestart x then restartRun t else t

/-- An item dropped after its 16th failed attempt (R190). -/
def dropItem (i : Item) (s : State) : State :=
  match i with
  | .announce => clearAnnounce s
  | .notice n => removeNotice n s
  | .queued n => removeQueued n s

/-- The failed attempts of an item once this one is counted (R189). -/
def LinkController.failures (l : LinkController) (i : Item) : Nat := if l.counted = some i then l.attempts + 1 else 1

/-- What an abort does to an item that is still pending: the attempt is counted, and the 16th drops the item and raises the
SEND hold (R189, R190). -/
def countFailure (x : Sending) (s : State) : State :=
  if s.link.failures x.item < attemptLimit then
    s.setLink { s.link with attempts := s.link.failures x.item, counted := some x.item }
  else
    muteAfter x (raiseHold .send none none
      (dropItem x.item (s.setLink { s.link with attempts := 0, counted := none })))

/-- An aborted send (R189); the medium stays BUSY until the frame end (log 14). -/
def abortSend (s : State) : State :=
  match s.link.sending with
  | none => s
  | some x =>
    let t := s.setLink { s.link with sending := none }
    let t := match x.item with
      | .notice n => noticeAborted n t
      | _ => t
    if t.holdsItem x.item then countFailure x t else t.setLink { t.link with attempts := 0, counted := none }

end Sys2Proof.Machine
end

