-- ==== Sys2Proof/Machine/LinkCommands.lean ====
section
/-! DEFINITION. The commands of the link family: ACCESS_WAIT_EXPIRY (R187), FRAME_START (R186), SEND_COMPLETION (R188),
SEND_ABORT (R189, R190), DISCARDED_FRAME (R178, R185), DUPLICATE_FRAME (R191). -/

namespace Sys2Proof.Machine

/-- The access wait's expiry (R187). -/
def expireAccessWait (s : State) : State :=
  match s.link.wait with
  | some _ => transmit (s.setLink { s.link with wait := none })
  | none => s

/-- A frame start heard (R180, R186). -/
def hearFrameStart (s : State) : State := s.setLink { s.link with medium := .busy, wait := none }

/-- A duplicate frame's end (R185, R191); a station with an invalid strap has no own address (log 8). -/
def takeDuplicate (s : State) : State := if s.addressed then ownAddressHeard s else s

/-- ACCESS_WAIT_EXPIRY (R187). -/
def execAccessWaitExpiry (s : State) : Host.Outcome State Fault Refusal := event expireAccessWait s

/-- FRAME_START (R186). -/
def execFrameStart (s : State) : Host.Outcome State Fault Refusal := event hearFrameStart s

/-- SEND_COMPLETION (R188). -/
def execSendCompletion (s : State) : Host.Outcome State Fault Refusal := event completeSend s

/-- SEND_ABORT (R189, R190). -/
def execSendAbort (s : State) : Host.Outcome State Fault Refusal := event abortSend s

/-- DISCARDED_FRAME (R178, R185). -/
def execDiscardedFrame (s : State) : Host.Outcome State Fault Refusal := event lineQuiet s

/-- DUPLICATE_FRAME (R191). -/
def execDuplicateFrame (s : State) : Host.Outcome State Fault Refusal := event takeDuplicate s

end Sys2Proof.Machine
end

