-- ==== Sys2Proof/Machine/Answers.lean ====
section
/-! DEFINITION. Orders and answers: the answer payload and the READ records (R196, R197, R209), the order memory (R199, R200),
answers settled and claimed (R202, R203, R205), the STORE assembly (R206, R207), RELEASE and STORE at the lockout unit (R150,
R151, R154). -/

namespace Sys2Proof.Machine

/-- The refusal reasons (R197). -/
inductive RefusalReason where
  | notReady | storeFault | noLockout | wrongSerial | condition | mode
  deriving DecidableEq, Repr

/-- What the owner of an order's kind returns (R202, R203); `started`: a store write has started and the order is in
progress. -/
inductive OrderResult where
  | done (record : List Byte)
  | refused (reason : RefusalReason)
  | busy
  | bad
  | started
  deriving DecidableEq, Repr

/-- The codes of the refusal reasons (R197). -/
def refusalCode : RefusalReason → Nat
  | .notReady => 1
  | .storeFault => 2
  | .noLockout => 3
  | .wrongSerial => 4
  | .condition => 5
  | .mode => 6

/-- An ANSWER payload: order number, result byte, and for a READ its record (R196). -/
def answerPayload (number : Byte) : OrderResult → List Byte
  | .done record => number :: BitVec.ofNat 8 16 :: record
  | .refused r => [number, BitVec.ofNat 8 (32 + refusalCode r)]
  | .busy => [number, BitVec.ofNat 8 48]
  | .bad => [number, BitVec.ofNat 8 64]
  | .started => []

/-! ## READ records (R196, R209) -/

/-- Three bytes, most significant first. -/
def byte3 (n : Nat) : List Byte := [BitVec.ofNat 8 (n / 65536), BitVec.ofNat 8 (n / 256), BitVec.ofNat 8 n]

/-- Bits set for members of a list: bit (a - low) for each a. -/
def bitsOf (low : Nat) (l : List Nat) : Nat := l.foldl (fun acc a => acc + 2 ^ (a - low)) 0

/-- A station-clock time as 4 bytes (R194). -/
def timeBytes (t : ClockTime) : List Byte := byte4 t.toNat

/-- An elapsed time in units of 100 ms, 0xFFFF at or above 65535 (R196). -/
def elapsedBytes (now t : ClockTime) : List Byte := byte2 (min ((now - t).toNat / 100) 65535)

/-- A cause and an index in one byte, 15 for an absent index (R196). -/
def packedCause (c : Cause) (i : Option Nat) : Byte := BitVec.ofNat 8 (causeCode c * 16 + i.getD 15)

/-- The source code (R197). -/
def sourceCode : ConfigSource → Nat
  | .defaults => 0
  | .slotA => 1
  | .slotB => 2

/-- The generation in use; 0 before the store read. -/
def State.generation (s : State) : Nat := s.ownAnnounce.generation

/-- The source code of the configuration in use. -/
def State.source (s : State) : Nat :=
  match s.startup.config with
  | some c => sourceCode c.source
  | none => 0

/-- READ IDENTITY (R208). -/
def State.identityRecord (s : State) : List Byte :=
  byte1 s.own ++ byte1 (modeCode s.ballot.mode) ++ byte2 s.generation ++ byte1 s.source ++ byte1 s.fitted
    ++ byte2 s.startup.digest.toNat ++ [flagByte s.roster.joinComplete] ++ timeBytes s.now

/-- READ SAMPLES, page 0 or 1 (R88, R208). A sample set is present whenever an order is taken (R85). -/
def State.samplesRecord (s : State) (page : Nat) : Option (List Byte) :=
  s.sweep.latest.bind fun x =>
    let head := timeBytes x.completed ++ [flagByte s.sweep.inProgress]
    match page with
    | 0 => some (head ++ cellNumbers.flatMap fun c => optBytes2 (x.cell c))
    | 1 =>
      some (head ++ byte2 (bitsOf 0 (tapNumbers.filter x.isOpen)) ++ byte2 x.moduleSum ++ optTempBytes x.t1
        ++ optTempBytes x.t2 ++ tempBytes x.die)
    | _ => none

/-- The code of a monitor state (R197). -/
def monitorStateCode : MonitorState → Nat
  | .clear => 0
  | .counting => 1
  | .held => 2
  | .easing => 3

/-- The code of a class (R197). -/
def classCode : MonitorClass → Nat
  | .crossing => 1
  | .easing => 2
  | .between => 3
  | .frozen => 4

/-- The two times of a monitor's recurrence list, newest first; a place it does not fill holds a free value (log 17). -/
def recurrenceBytes (free : Nat) : List ClockTime → List Byte
  | a :: b :: _ => timeBytes a ++ timeBytes b
  | [a] => timeBytes a ++ timeBytes (Config.unusedTime free)
  | [] => timeBytes (Config.unusedTime free) ++ timeBytes (Config.unusedTime (free + 1))

/-- READ MONITOR of one record (R111). -/
def State.monitorRecord (s : State) (m : Monitor) : List Byte :=
  byte1 m.number ++ byte1 (monitorKindCode m.kind) ++ optByte1 m.cell ++ byte1 (monitorStateCode m.state)
    ++ byte1 m.count ++ byte1 m.severeCount ++ byte1 m.recurrence.length ++ recurrenceBytes s.free m.recurrence
    ++ optByte1 m.raisedTap ++ optByte1 (m.lastClass.map classCode)
    ++ timeBytes (s.monitors.lastEvaluated.getD (Config.unusedTime (s.free + 2)))

/-- One own hold in a READ OWN-HOLDS page (R196). -/
def OwnHold.bytes (now : ClockTime) (h : OwnHold) : List Byte :=
  [h.serial, packedCause h.cause h.index] ++ optByte1 (h.detail.map detailCode) ++ elapsedBytes now h.raised

/-- READ OWN-HOLDS page p: records 5p+1 to 5p+5 (R208). -/
def State.ownHoldsRecord (s : State) (page : Nat) : List Byte :=
  timeBytes s.now ++ byte1 s.holds.own.length
    ++ ((s.holds.own.drop (5 * page)).take 5).flatMap fun h => h.bytes s.now

/-- One remote hold in a READ REMOTE-HOLDS page (R196). -/
def RemoteHold.bytes (now : ClockTime) (h : RemoteHold) : List Byte :=
  byte1 h.origin ++ [h.serial, packedCause h.cause h.index] ++ optByte1 (h.detail.map detailCode)
    ++ elapsedBytes now h.arrived

/-- READ REMOTE-HOLDS page p: records 4p+1 to 4p+4 (R208). -/
def State.remoteHoldsRecord (s : State) (page : Nat) : List Byte :=
  timeBytes s.now ++ byte1 s.holds.remote.length
    ++ ((s.holds.remote.drop (4 * page)).take 4).flatMap fun h => h.bytes s.now

/-- The code of an entry state (R197). -/
def entryStateCode : EntryState → Nat
  | .vacant => 0
  | .present => 1
  | .stale => 2
  | .lost => 3

/-- Flags as a number, bit k for the k-th. -/
def flagBits (l : List Bool) : Nat := l.reverse.foldl (fun acc b => acc * 2 + if b then 1 else 0) 0

/-- READ ROSTER, page 0 or 1, of an entry (R208, R209); absent announce data is written in absence codes (log 19). -/
def rosterRecord (e : RosterEntry) (page : Nat) : List Byte :=
  if page = 0 then
    byte1 e.address ++ byte1 (entryStateCode e.state) ++ byte1 e.age
      ++ byte1 (flagBits [e.recallPending, e.confirmed, e.summary.isSome, e.announced.isSome])
      ++ match e.announced with
        | some d => announceBytes d
        | none => List.replicate 5 255#8
  else
    byte1 e.address ++ match e.summary with
      | some t => summaryBytes t
      | none => List.replicate 23 255#8

/-- The code of a disallow reason; allowed is 0 (R197). -/
def disallowCode : Option DisallowReason → Nat
  | none => 0
  | some .mode => 1
  | some .paused => 2
  | some .noBudget => 3
  | some .die => 4
  | some .hot => 5
  | some .noFloor => 6

/-- READ BLEED (R130). -/
def bleedRecord (p : PlanRecord) : List Byte :=
  byte1 (disallowCode p.reason) ++ optBytes2 p.floor ++ optBytes2 p.target ++ byte1 p.total ++ byte1 p.selection.length
    ++ ((p.selection.flatMap byte1) ++ List.replicate 5 255#8).take 5
    ++ byte1 p.demand ++ byte1 p.advertised ++ byte1 p.grant ++ byte2 (bitsOf 1 p.bleedSet)
    ++ byte1 (flagBits [p.suspended, p.paused])

/-- The code of a role (R197). -/
def roleCode : Role → Nat
  | .none => 0
  | .proposer => 1
  | .voter => 2

/-- READ BALLOT (R74). -/
def State.ballotRecord (s : State) : List Byte :=
  byte1 (modeCode s.ballot.mode) ++ ballotBytes s.ballot.highest ++ ballotBytes (s.ballot.current.getD Ballot.none)
    ++ byte1 (roleCode s.ballot.role) ++ byte3 (bitsOf 1 s.ballot.votes)
    ++ byte1 (flagBits [s.ballot.commitClaimed, s.ready, s.ballot.settle.isRunning, s.ballot.proposal.isRunning,
        s.ballot.pledge.isRunning, s.ballot.confirm.isRunning])
    ++ byte1 s.duty

/-- A slot as READ LOCKOUT shows the unit's copy of it; the fields of an invalid slot are absent (R159, R196, log 19). -/
def slotBytes : Option LockoutSlot → List Byte
  | some x =>
    byte1 (if x.state = .active then 1 else 2) ++ byte2 x.serial ++ byte1 (lockoutCauseCode x.cause) ++ optByte1 x.index
  | none => byte1 0 ++ byte2 65535 ++ byte1 255 ++ byte1 255

/-- The write in flight: kind in the high four bits, target in the low four (R196, R197). -/
def writeCode : Option Write → Nat
  | none => 0
  | some (.active n _) => 16 + if n = .a then 3 else 4
  | some (.release n _) => 32 + if n = .a then 3 else 4
  | some (.config n _) => 48 + if n = .a then 1 else 2

/-- READ LOCKOUT (R159). The code of the record's state is a free constant (log 18). -/
def lockoutRecordBytes (u : LockoutUnit) : List Byte :=
  [Config.recordStateCode (decide (u.record.state = .active))] ++ byte2 u.record.serial
    ++ optByte1 (u.record.cause.map lockoutCauseCode) ++ optByte1 u.record.index ++ [flagByte u.record.retained]
    ++ byte1 u.record.attempt ++ slotBytes u.copies.lockoutA ++ slotBytes u.copies.lockoutB ++ byte1 (writeCode u.inFlight)
    ++ [flagByte u.pendingWrite] ++ optByte1 (u.pendingEscalation.map fun e => lockoutCauseCode e.cause)
    ++ optByte1 (u.pendingEscalation.bind fun e => e.index)

/-- READ CONFIG page n (R208). -/
def State.configRecord (s : State) (page : Nat) : Option (List Byte) :=
  let head := byte2 s.generation ++ byte1 s.source ++ byte1 page
  match page with
  | 0 => some (head ++ page0Bytes s.cfg.shared)
  | 1 => some (head ++ page1Bytes s.cfg.cells)
  | 2 => some (head ++ page2Bytes s.cfg.limits)
  | _ => none

/-- A record answered DONE, or BAD where the index or the page names none (R208). -/
def recordResult : Option (List Byte) → OrderResult
  | some r => .done r
  | none => .bad

/-- The ten READ records by index and page (R208). A byte the table marks "not used" is not judged. -/
def readIdentity (_ _ : Nat) (s : State) : OrderResult := .done s.identityRecord
/-- READ SAMPLES. -/
def readSamples (_ page : Nat) (s : State) : OrderResult := recordResult (s.samplesRecord page)
/-- READ MONITOR: a number that names no existing monitor is BAD. -/
def readMonitor (index _ : Nat) (s : State) : OrderResult :=
  recordResult ((s.monitors.records.find? fun m => decide (m.number = index)).map s.monitorRecord)
/-- READ OWN-HOLDS: page 0 to 6. -/
def readOwnHolds (_ page : Nat) (s : State) : OrderResult :=
  recordResult (if page ≤ 6 then some (s.ownHoldsRecord page) else none)
/-- READ REMOTE-HOLDS: page 0 to 11. -/
def readRemoteHolds (_ page : Nat) (s : State) : OrderResult :=
  recordResult (if page ≤ 11 then some (s.remoteHoldsRecord page) else none)
/-- READ ROSTER: address 0 to 24, page 0 or 1. -/
def readRoster (index page : Nat) (s : State) : OrderResult :=
  recordResult (if index ≤ 24 ∧ page ≤ 1 then some (rosterRecord (s.entry index) page) else none)
/-- READ BLEED. -/
def readBleed (_ _ : Nat) (s : State) : OrderResult := .done (bleedRecord s.plan)
/-- READ BALLOT. -/
def readBallot (_ _ : Nat) (s : State) : OrderResult := .done s.ballotRecord
/-- READ LOCKOUT. -/
def readLockout (_ _ : Nat) (s : State) : OrderResult := .done (lockoutRecordBytes s.lockout)
/-- READ CONFIG: page 0, 1 or 2. -/
def readConfig (_ page : Nat) (s : State) : OrderResult := recordResult (s.configRecord page)

/-! ## The order memory and its answers -/

/-- An answer settled in the event that takes the order: stored, and claimed with the restart mark of a RESTART answered DONE;
on MUTE, where no answer can complete, such a RESTART starts the station at once (R202, R205). -/
def settleAnswer (number : Byte) (kind : OrderKind) (r : OrderResult) (s : State) : State :=
  let payload := answerPayload number r
  let restarts := decide (kind = .restart) && decide (r = .done [])
  let t := s.setOrders { s.orders with memory := some ⟨number, kind, .done, some payload⟩ }
  if restarts && t.link.mute then restartRun t else claim (.answer payload restarts) t

/-- An order whose store write has started: in progress, its number awaited, no ANSWER claimed (R203). -/
def settleStarted (number : Byte) (kind : OrderKind) (s : State) : State :=
  s.setOrders { s.orders with memory := some ⟨number, kind, .inProgress, none⟩, awaited := some number }

/-- An executed order remembered (R200, R202, R203). -/
def settleOrder (number : Byte) (kind : OrderKind) (r : OrderResult) (s : State) : State :=
  match r with
  | .started => settleStarted number kind s
  | _ => settleAnswer number kind r s

/-- The stored answer claimed again for a repeated number; the mark follows the memory's kind, and on MUTE a stored RESTART
answer starts the station at once (R200, R205; log 16). -/
def repeatAnswer (m : OrderMemory) (s : State) : State :=
  if m.kind = .restart ∧ s.link.mute = true then restartRun s
  else
    match m.answer with
    | some p => claim (.answer p (decide (m.kind = .restart))) s
    | none => s

/-- A targeted order (R198, R200): a repeated number is answered from the memory or ignored; any other is executed, or answered
BAD where it does not fit its kind, and remembered. -/
def takeTargeted (number : Byte) (kind : OrderKind) (fits : Bool) (run : State → State × OrderResult) (s : State) : State :=
  match s.orders.memory.filter fun m => decide (m.number = number) with
  | some m => if m.status = .done then repeatAnswer m s else s
  | none => if fits then settleOrder number kind (run s).2 (run s).1 else settleOrder number kind .bad s

/-- An order taken by its target (R198): targeted, broadcast (where the kind may be: R201), or ignored. -/
def takeOrder (number : Byte) (target : Nat) (kind : OrderKind) (fits : Bool) (run : State → State × OrderResult)
    (broadcast : State → State) (s : State) : State :=
  if target = s.own then takeTargeted number kind fits run s
  else if target = 31 then if fits then broadcast s else s
  else s

/-- An ORDER frame: it comes from the gateway and reaches the order handler after the roster has heard address 0 (R8, R198).
`extra` is the number of payload bytes after number, target and kind. -/
def orderArrives (number : Byte) (target extra : Nat) (kind : OrderKind) (fits : Bool) (run : State → State × OrderResult)
    (broadcast : State → State) (s : State) : State :=
  arrive 0 (orderFrameValid target extra) (takeOrder number target kind fits run broadcast) s

/-- A kind whose broadcast is ignored (R201). -/
def noBroadcast (s : State) : State := s

/-- A READ order: two argument bytes after the record code, index and page (R198, R208). It changes no block but the counter
of free values. -/
def readArrives (number : Byte) (target : Nat) (args : List Byte) (read : Nat → Nat → State → OrderResult) (s : State) :
    State :=
  orderArrives number target (1 + args.length) .read (decide (args.length = 2))
    (fun t => (t.setFree (t.free + 3), read (fieldNat args 0 1) (fieldNat args 1 1) t)) noBroadcast s

/-! ## Awaited answers (R203) -/

/-- The result of a write delivered to the order handler: the awaited answer is built, stored when the memory's last number equals the
awaited one, and claimed (R203). DESIGN CHOICE (log 28): the number alone tells whether the memory is still the order's; a new order
that has come to bear the awaited number again has the delivered answer stored over its own. -/
def answerAwaited (r : OrderResult) (s : State) : State :=
  match s.orders.awaited with
  | none => s
  | some n =>
    let payload := answerPayload n r
    let memory := s.orders.memory.map fun m =>
      if m.number = n then { m with status := .done, answer := some payload } else m
    let t := claim (.answer payload false) (s.setOrders { s.orders with memory := memory })
    t.setOrders { t.orders with awaited := none }

/-! ## RELEASE (R150, R151) -/

/-- A write is in flight or pending (R150, R154). -/
def LockoutUnit.isWriting (u : LockoutUnit) : Bool := u.inFlight.isSome || u.pendingWrite

/-- The release write starts (R151). -/
def startRelease (s : State) : State :=
  match s.lockout.record.slot .released with
  | some x => startWrite (.release s.lockout.copies.lockoutTarget x) s
  | none => s

/-- RELEASE with a serial (R150). -/
def runRelease (serial : Nat) (s : State) : State × OrderResult :=
  if s.lockout.record.state = .none then (s, .refused .noLockout)
  else if serial ≠ s.lockout.record.serial then (s, .refused .wrongSerial)
  else if s.lockout.isWriting then (s, .busy)
  else if !s.monitorsClear || s.stands .switch then (s, .refused .condition)
  else (startRelease s, .started)

/-! ## STORE (R206, R207, R154) -/

/-- A page stored in the assembly when it passes the checks of R206. -/
def storePage (page : Nat) (data : List Byte) (s : State) : Option State :=
  match page with
  | 0 => (page0Of data).map fun p => s.setOrders { s.orders with page0 := some p }
  | 1 => (page1Of data).map fun p => s.setOrders { s.orders with page1 := some p }
  | 2 => (page2Of data).map fun p => s.setOrders { s.orders with page2 := some p }
  | _ => none

/-- The assembled record, when all three pages are present (R207). -/
def OrderHandler.assembled (o : OrderHandler) : Option ConfigRecord :=
  match o.page0, o.page1, o.page2 with
  | some p, some c, some l => some ⟨p, c, l⟩
  | _, _, _ => none

/-- The generation a configuration write carries (R154). -/
def State.nextGeneration (s : State) : Nat := if s.generation < 65535 then s.generation + 1 else 65535

/-- The target of a configuration write: the slot the configuration in use was not read from; configuration A on the defaults
(R154). -/
def State.configTarget (s : State) : SlotName :=
  match s.startup.config with
  | some ⟨_, _, .slotA⟩ => .b
  | _ => .a

/-- A commit at the lockout unit (R154, R207). -/
def runCommit (s : State) : State × OrderResult :=
  match s.orders.assembled with
  | none => (s, .bad)
  | some r =>
    if s.ballot.mode ≠ .opened then (s, .refused .mode)
    else if s.lockout.isWriting then (s, .busy)
    else
      (startWrite (.config s.configTarget ⟨s.nextGeneration, r⟩)
        (s.setOrders { s.orders with page0 := none, page1 := none, page2 := none }), .started)

/-- STORE with its page, commit byte and page data (R206, R207). -/
def runStore (page commit : Byte) (data : List Byte) (s : State) : State × OrderResult :=
  if 1 < commit.toNat then (s, .bad)
  else
    match storePage page.toNat data s with
    | none => (s, .bad)
    | some t => if commit = 1#8 then runCommit t else (t, .done [])

end Sys2Proof.Machine
end

