-- ==== Sys2Proof/Machine/OrderCommands.lean ====
section
/-! DEFINITION. The commands of the order family (R198, R204): OPEN, FREE, RECLOSE, RELEASE, CLEAR-SWITCH, STORE, PAUSE-BLEED,
RESUME-BLEED, RESTART, and an order of an unknown kind. -/

namespace Sys2Proof.Machine

/-- The GATEWAY hold raised (R204, OPEN). -/
def raiseGateway (s : State) : State := raiseHold .gateway none none s

/-- The GATEWAY hold lifted (R204, FREE). -/
def liftGateway (s : State) : State := liftHold .gateway none s

/-- RECLOSE targeted at the station (R58). -/
def runReclose (s : State) : State × OrderResult := if s.ready then (propose s, .done []) else (s, .refused .notReady)

/-- RECLOSE sent to all stations (R58). -/
def broadcastReclose (s : State) : State := if s.ready && decide (s.duty = s.own) then propose s else s

/-- CLEAR-SWITCH (R138). -/
def runClearSwitch (s : State) : State × OrderResult :=
  if !s.stands .switch then (s, .done [])
  else if s.switch.command = .closed ∨ s.switch.feedback = .closed then (s, .refused .condition)
  else (liftHold .switch none s, .done [])

/-- PAUSE-BLEED (R126). -/
def pausePlan (s : State) : State :=
  if s.plan.paused then s else s.setPlan { emptied .paused s.plan with paused := true }

/-- RESUME-BLEED (R127). -/
def resumePlan (s : State) : State := s.setPlan { s.plan with paused := false }

/-- An order that does its work and is answered DONE. -/
def doneAfter (f : State → State) (s : State) : State × OrderResult := (f s, .done [])

/-- STORE with its bytes after the order kind (R206); one too short to hold page and commit byte does not fit. -/
def runStoreArgs (args : List Byte) (s : State) : State × OrderResult :=
  match args with
  | page :: commit :: data => runStore page commit data s
  | _ => (s, .bad)

/-- Order OPEN (R204). -/
def execOrderOpen (number : Byte) (target : Nat) (args : List Byte) (s : State) : Host.Outcome State Fault Refusal :=
  event (orderArrives number target args.length .openOrder args.isEmpty (doneAfter raiseGateway) raiseGateway) s

/-- Order FREE (R204). -/
def execOrderFree (number : Byte) (target : Nat) (args : List Byte) (s : State) : Host.Outcome State Fault Refusal :=
  event (orderArrives number target args.length .free args.isEmpty (doneAfter liftGateway) liftGateway) s

/-- Order RECLOSE (R58). -/
def execReclose (number : Byte) (target : Nat) (args : List Byte) (s : State) : Host.Outcome State Fault Refusal :=
  event (orderArrives number target args.length .reclose args.isEmpty runReclose broadcastReclose) s

/-- Order RELEASE (R150). -/
def execRelease (number : Byte) (target : Nat) (args : List Byte) (s : State) : Host.Outcome State Fault Refusal :=
  event (orderArrives number target args.length .release (decide (args.length = 2)) (runRelease (fieldNat args 0 2))
    noBroadcast) s

/-- Order CLEAR-SWITCH (R138). -/
def execClearSwitch (number : Byte) (target : Nat) (args : List Byte) (s : State) : Host.Outcome State Fault Refusal :=
  event (orderArrives number target args.length .clearSwitch args.isEmpty runClearSwitch noBroadcast) s

/-- Order STORE (R206). -/
def execStore (number : Byte) (target : Nat) (args : List Byte) (s : State) : Host.Outcome State Fault Refusal :=
  event (orderArrives number target args.length .store (decide (2 ≤ args.length)) (runStoreArgs args) noBroadcast) s

/-- Order STORE with commit 1 (R207). -/
def execStoreCommit (number : Byte) (target : Nat) (page : Byte) (data : List Byte) (s : State) :
    Host.Outcome State Fault Refusal :=
  event (orderArrives number target (2 + data.length) .store true (runStore page 1 data) noBroadcast) s

/-- Order PAUSE-BLEED (R126). -/
def execPauseBleed (number : Byte) (target : Nat) (args : List Byte) (s : State) : Host.Outcome State Fault Refusal :=
  event (orderArrives number target args.length .pauseBleed args.isEmpty (doneAfter pausePlan) pausePlan) s

/-- Order RESUME-BLEED (R127). -/
def execResumeBleed (number : Byte) (target : Nat) (args : List Byte) (s : State) : Host.Outcome State Fault Refusal :=
  event (orderArrives number target args.length .resumeBleed args.isEmpty (doneAfter resumePlan) resumePlan) s

/-- Order RESTART (R205). -/
def execRestart (number : Byte) (target : Nat) (args : List Byte) (s : State) : Host.Outcome State Fault Refusal :=
  event (orderArrives number target args.length .restart args.isEmpty (doneAfter fun t => t) noBroadcast) s

/-- An order whose kind code is none of the ten: BAD when targeted, ignored when sent to all (R198). -/
def execOrderOfUnknownKind (number : Byte) (target : Nat) (kind : Byte) (args : List Byte) (s : State) :
    Host.Outcome State Fault Refusal :=
  event (orderArrives number target args.length (.unknown kind) false (doneAfter fun t => t) noBroadcast) s

end Sys2Proof.Machine
end

