-- ==== Sys2Proof/Machine/ReadCommands.lean ====
section
/-! DEFINITION. The commands of the read family: the ten READ orders (R208, R209) and a READ of an unknown record. -/

namespace Sys2Proof.Machine

/-- Order READ IDENTITY (R176, R208). -/
def execReadIdentity (number : Byte) (target : Nat) (args : List Byte) (s : State) : Host.Outcome State Fault Refusal :=
  event (readArrives number target args readIdentity) s

/-- Order READ SAMPLES (R88, R208). -/
def execReadSamples (number : Byte) (target : Nat) (args : List Byte) (s : State) : Host.Outcome State Fault Refusal :=
  event (readArrives number target args readSamples) s

/-- Order READ MONITOR (R111, R208). -/
def execReadMonitor (number : Byte) (target : Nat) (args : List Byte) (s : State) : Host.Outcome State Fault Refusal :=
  event (readArrives number target args readMonitor) s

/-- Order READ OWN-HOLDS (R208). -/
def execReadOwnHolds (number : Byte) (target : Nat) (args : List Byte) (s : State) : Host.Outcome State Fault Refusal :=
  event (readArrives number target args readOwnHolds) s

/-- Order READ REMOTE-HOLDS (R208). -/
def execReadRemoteHolds (number : Byte) (target : Nat) (args : List Byte) (s : State) : Host.Outcome State Fault Refusal :=
  event (readArrives number target args readRemoteHolds) s

/-- Order READ ROSTER (R208, R209). -/
def execReadRoster (number : Byte) (target : Nat) (args : List Byte) (s : State) : Host.Outcome State Fault Refusal :=
  event (readArrives number target args readRoster) s

/-- Order READ BLEED (R130, R208). -/
def execReadBleed (number : Byte) (target : Nat) (args : List Byte) (s : State) : Host.Outcome State Fault Refusal :=
  event (readArrives number target args readBleed) s

/-- Order READ BALLOT (R74, R208). -/
def execReadBallot (number : Byte) (target : Nat) (args : List Byte) (s : State) : Host.Outcome State Fault Refusal :=
  event (readArrives number target args readBallot) s

/-- Order READ LOCKOUT (R159, R208). -/
def execReadLockout (number : Byte) (target : Nat) (args : List Byte) (s : State) : Host.Outcome State Fault Refusal :=
  event (readArrives number target args readLockout) s

/-- Order READ CONFIG (R208). -/
def execReadConfig (number : Byte) (target : Nat) (args : List Byte) (s : State) : Host.Outcome State Fault Refusal :=
  event (readArrives number target args readConfig) s

/-- A READ whose record code is none of the ten, or missing: BAD when targeted, ignored when sent to all (R198, R208). -/
def execReadOfUnknownRecord (number : Byte) (target : Nat) (args : List Byte) (s : State) :
    Host.Outcome State Fault Refusal :=
  event (orderArrives number target args.length .read false (fun t => (t, .bad)) noBroadcast) s

end Sys2Proof.Machine
end

