-- ==== Sys2Proof/Machine/StartCommands.lean ====
section
/-! DEFINITION. The commands of the start family: SUPPLY_START (R160, R161) and STORE_READ_COMPLETION (R156, R165). -/

namespace Sys2Proof.Machine

/-- The monitors formed and the read-complete flag set (R90, R165). -/
def finishRead (s : State) : State :=
  let t := s.setMonitors { s.monitors with records := formMonitors s.fitted }
  t.setStartup { t.startup with readComplete := true }

/-- The store read's completion (R156), with what waits for it when the first sweep has completed (R84, R165). -/
def completeRead (s : State) : State :=
  if s.addressed && decide (s.ballot.mode = .start) && !s.startup.readComplete then
    let t := finishRead (settleLockout (settleConfig (copySlots s)))
    if t.startup.firstSweepComplete then joinEntry (deliverSweep t) else t
  else s

/-- SUPPLY_START: a start and START entry, one event (R160, R161, R162, R164). -/
def execSupplyStart (straps : Straps) (feedback : SwitchPos) (medium : Medium) (s : State) :
    Host.Outcome State Fault Refusal := event (startRun straps feedback medium) s

/-- STORE_READ_COMPLETION (R156, R165); no read is under way once it has completed, outside START or with an invalid strap (log 3). -/
def execStoreReadCompletion (s : State) : Host.Outcome State Fault Refusal := event completeRead s

end Sys2Proof.Machine
end

