-- ==== Sys2Proof/Machine/StoreCommands.lean ====
section
/-! DEFINITION. The commands of the store family: the completions of an ACTIVE write (R148), of a release write (R152, R153) and
of a configuration write (R155). -/

namespace Sys2Proof.Machine

/-- An ACTIVE write's completion (R148). -/
def completeActive (o : WriteOutcome) (s : State) : State :=
  match s.lockout.inFlight with
  | some (.active n x) =>
    let t := endWrite (.active n x) o s
    let t := match o with
      | .ok => t.setLockout { t.lockout with record := { t.lockout.record with retained := true } }
      | .fail => if t.lockout.record.attempt = 1 then startActiveTo n 2 t else t
    startPending t
  | _ => s

/-- The pending escalation applied (R152 step 4). -/
def applyPendingEscalation (s : State) : State :=
  match s.lockout.pendingEscalation with
  | some e => beginLockout e (s.setLockout { s.lockout with pendingEscalation := none })
  | none => s

/-- The record released (R152 step 1). -/
def releaseRecord (s : State) : State :=
  s.setLockout { s.lockout with record := { s.lockout.record with state := .none, retained := false, attempt := 0 } }

/-- A release write's completion (R152, R153). -/
def completeRelease (o : WriteOutcome) (s : State) : State :=
  match s.lockout.inFlight with
  | some (.release n x) =>
    let t := endWrite (.release n x) o s
    let t := match o with
      | .ok => applyPendingEscalation (answerAwaited (.done []) (liftHold .lockout none (releaseRecord t)))
      | .fail =>
        let u := answerAwaited (.refused .storeFault) t
        u.setLockout { u.lockout with pendingEscalation := none }
    startPending t
  | _ => s

/-- The answer to a STORE by the outcome of its write (R155). -/
def storeResult : WriteOutcome → OrderResult
  | .ok => .done []
  | .fail => .refused .storeFault

/-- A configuration write's completion (R155). -/
def completeConfig (o : WriteOutcome) (s : State) : State :=
  match s.lockout.inFlight with
  | some (.config n x) => startPending (answerAwaited (storeResult o) (endWrite (.config n x) o s))
  | _ => s

/-- ACTIVE_WRITE_COMPLETION (R148). -/
def execActiveWriteCompletion (outcome : WriteOutcome) (s : State) : Host.Outcome State Fault Refusal :=
  event (completeActive outcome) s

/-- RELEASE_WRITE_COMPLETION (R152, R153). -/
def execReleaseWriteCompletion (outcome : WriteOutcome) (s : State) : Host.Outcome State Fault Refusal :=
  event (completeRelease outcome) s

/-- CONFIG_WRITE_COMPLETION (R155). -/
def execConfigWriteCompletion (outcome : WriteOutcome) (s : State) : Host.Outcome State Fault Refusal :=
  event (completeConfig outcome) s

end Sys2Proof.Machine
end

