-- ==== Sys2Proof/Machine/SweepCommands.lean ====
section
/-! DEFINITION. The commands of the sweep family: SWEEP_TIMER_EXPIRY (R76, R77) and SWEEP_COMPLETION (R83, R84). -/

namespace Sys2Proof.Machine

/-- The sweep timer's expiry: started again with the interval in use, and a sweep begins (R76, R77). -/
def expireSweepTimer (s : State) : State :=
  if s.sweep.timer.isRunning then
    startSweep (s.setSweep { s.sweep with timer := Timer.startMs s.sweepInterval })
  else s

/-- The first sweep's completion in START (R84, R165). -/
def completeFirstSweep (s : State) : State :=
  let t := s.setStartup { s.startup with firstSweepComplete := true }
  if t.startup.readComplete then joinEntry (deliverSweep t) else t

/-- A sweep's completion (R83, R84). -/
def completeSweep (r : Readings) (s : State) : State :=
  if s.sweep.inProgress then
    let t := takeReadings r s
    if t.ballot.mode = .start then completeFirstSweep t else deliverSweep t
  else s

/-- SWEEP_TIMER_EXPIRY (R76, R77). -/
def execSweepTimerExpiry (s : State) : Host.Outcome State Fault Refusal := event expireSweepTimer s

/-- SWEEP_COMPLETION with the readings of R78 (R83, R84). -/
def execSweepCompletion (readings : Readings) (s : State) : Host.Outcome State Fault Refusal :=
  event (completeSweep readings) s

end Sys2Proof.Machine
end

