-- ==== Sys2Proof/Machine/SwitchCommands.lean ====
section
/-! DEFINITION. The commands of the switch family: SETTLE_CHECK_EXPIRY (R135 to R137) and FEEDBACK_CHANGE (R134). -/

namespace Sys2Proof.Machine

/-- The judgement of the switch (R135), with the escalation of a weld (R137). -/
def judgeSwitch (cause : CheckCause) (s : State) : State :=
  match s.switch.command, s.switch.feedback with
  | .closed, .closed => s
  | .opened, .opened => s
  | .closed, .opened =>
    match cause with
    | .command => raiseHold .switch none (some (.switch .noClose)) s
    | .feedback => raiseHold .switch none (some (.switch .dropped)) s
  | .opened, .closed => escalate ⟨.welded, none⟩ (raiseHold .switch none (some (.switch .welded)) s)

/-- The settle check's expiry: the check becomes stopped and the switch is judged (R135). -/
def expireCheck (s : State) : State :=
  match s.switch.check with
  | some c => judgeSwitch c.cause (s.setSwitch { s.switch with check := none })
  | none => s

/-- A new level on the feedback input (R134); with an invalid strap address it is not taken (R139). -/
def changeFeedback (level : SwitchPos) (s : State) : State :=
  let t := s.setPins { s.pins with feedback := level }
  if t.addressed && decide (level ≠ t.switch.feedback) then
    startFeedbackCheck (t.setSwitch { t.switch with feedback := level })
  else t

/-- SETTLE_CHECK_EXPIRY (R135). -/
def execSettleCheckExpiry (s : State) : Host.Outcome State Fault Refusal := event expireCheck s

/-- FEEDBACK_CHANGE (R134). -/
def execFeedbackChange (level : SwitchPos) (s : State) : Host.Outcome State Fault Refusal := event (changeFeedback level) s

end Sys2Proof.Machine
end

