-- ==== Sys2Proof/Machine/TimerCommands.lean ====
section
/-! DEFINITION. The commands of the timer family: the expiries of the tally timer (R13) and of the ballot unit's settle,
proposal, pledge and confirm timers (R55, R64, R67, R70). -/

namespace Sys2Proof.Machine

/-- Join complete delivered to the ballot unit (R73). -/
def deliverJoinComplete (s : State) : State := if s.ballot.mode = .join then setMode .opened s else s

/-- An expiry counted; the third since JOIN entry sets the join-complete flag and delivers join complete (R13 step 2). -/
def countExpiry (s : State) : State :=
  if s.roster.expiries = 2 then
    deliverJoinComplete (s.changeRoster { s.roster with expiries := 3, joinComplete := true })
  else s.setRoster { s.roster with expiries := min 3 (s.roster.expiries + 1) }

/-- The tally timer's expiry (R13); it is at once running again. DISCORD is judged on the aged entries (R15, log 12). -/
def expireTallyTimer (s : State) : State :=
  if s.roster.tallyTimer.isRunning then
    claim .tally (judgeLink (countExpiry (judgeDiscord (ageTick (startTally s)))))
  else s

/-- The settle timer's expiry: under AUTO the duty station proposes while ready (R55, R56). -/
def expireSettleTimer (s : State) : State :=
  if s.ballot.settle.isRunning then
    let t := s.setBallot { s.ballot with settle := .stopped }
    if t.cfg.shared.policy = .auto ∧ t.ready = true ∧ t.duty = t.own then propose t else t
  else s

/-- The proposal timer's expiry: the proposer leaves its ballot (R64). -/
def expireProposalTimer (s : State) : State :=
  if s.ballot.proposal.isRunning then
    let t := s.setBallot { s.ballot with proposal := .stopped }
    if t.ballot.mode = .pledged ∧ t.ballot.role = .proposer then leave t else t
  else s

/-- The pledge timer's expiry: the voter leaves its ballot (R67). -/
def expirePledgeTimer (s : State) : State :=
  if s.ballot.pledge.isRunning then
    let t := s.setBallot { s.ballot with pledge := .stopped }
    if t.ballot.mode = .pledged ∧ t.ballot.role = .voter then leave t else t
  else s

/-- The confirm timer's expiry: a closed station with a member unconfirmed breaks (R70). -/
def expireConfirmTimer (s : State) : State :=
  if s.ballot.confirm.isRunning then
    let t := s.setBallot { s.ballot with confirm := .stopped }
    if t.ballot.mode = .closed ∧ t.allConfirmed = false then leave t else t
  else s

/-- TALLY_TIMER_EXPIRY (R13). -/
def execTallyTimerExpiry (s : State) : Host.Outcome State Fault Refusal := event expireTallyTimer s

/-- SETTLE_TIMER_EXPIRY (R55). -/
def execSettleTimerExpiry (s : State) : Host.Outcome State Fault Refusal := event expireSettleTimer s

/-- PROPOSAL_TIMER_EXPIRY (R64). -/
def execProposalTimerExpiry (s : State) : Host.Outcome State Fault Refusal := event expireProposalTimer s

/-- PLEDGE_TIMER_EXPIRY (R67). -/
def execPledgeTimerExpiry (s : State) : Host.Outcome State Fault Refusal := event expirePledgeTimer s

/-- CONFIRM_TIMER_EXPIRY (R70). -/
def execConfirmTimerExpiry (s : State) : Host.Outcome State Fault Refusal := event expireConfirmTimer s

end Sys2Proof.Machine
end

