-- ==== Sys2Proof/Machine/Dispatch.lean ====
section
/-! DEFINITION. The dispatch: one arm per command, each one direct call of its meaning. -/

namespace Sys2Proof.Machine

/-- The effect of a command on everything but the queue. -/
def exec (i : Instr) (s : State) : Host.Outcome State Fault Refusal :=
  match i with
  | .supplyStart straps feedback medium => Sys2Proof.Machine.execSupplyStart straps feedback medium s
  | .storeReadCompletion => Sys2Proof.Machine.execStoreReadCompletion s
  | .sweepTimerExpiry => Sys2Proof.Machine.execSweepTimerExpiry s
  | .sweepCompletion readings => Sys2Proof.Machine.execSweepCompletion readings s
  | .tallyTimerExpiry => Sys2Proof.Machine.execTallyTimerExpiry s
  | .settleTimerExpiry => Sys2Proof.Machine.execSettleTimerExpiry s
  | .proposalTimerExpiry => Sys2Proof.Machine.execProposalTimerExpiry s
  | .pledgeTimerExpiry => Sys2Proof.Machine.execPledgeTimerExpiry s
  | .confirmTimerExpiry => Sys2Proof.Machine.execConfirmTimerExpiry s
  | .settleCheckExpiry => Sys2Proof.Machine.execSettleCheckExpiry s
  | .feedbackChange level => Sys2Proof.Machine.execFeedbackChange level s
  | .accessWaitExpiry => Sys2Proof.Machine.execAccessWaitExpiry s
  | .frameStart => Sys2Proof.Machine.execFrameStart s
  | .sendCompletion => Sys2Proof.Machine.execSendCompletion s
  | .sendAbort => Sys2Proof.Machine.execSendAbort s
  | .discardedFrame => Sys2Proof.Machine.execDiscardedFrame s
  | .duplicateFrame => Sys2Proof.Machine.execDuplicateFrame s
  | .tally sender content => Sys2Proof.Machine.execTally sender content s
  | .announce sender content => Sys2Proof.Machine.execAnnounce sender content s
  | .hold sender serial cause index detail => Sys2Proof.Machine.execHold sender serial cause index detail s
  | .lift sender serial => Sys2Proof.Machine.execLift sender serial s
  | .recall sender target => Sys2Proof.Machine.execRecall sender target s
  | .propose sender ballot size digest => Sys2Proof.Machine.execPropose sender ballot size digest s
  | .assent sender ballot => Sys2Proof.Machine.execAssent sender ballot s
  | .demur sender ballot reason => Sys2Proof.Machine.execDemur sender ballot reason s
  | .commit sender ballot => Sys2Proof.Machine.execCommit sender ballot s
  | .withdraw sender ballot => Sys2Proof.Machine.execWithdraw sender ballot s
  | .answer sender payload => Sys2Proof.Machine.execAnswer sender payload s
  | .activeWriteCompletion outcome => Sys2Proof.Machine.execActiveWriteCompletion outcome s
  | .releaseWriteCompletion outcome => Sys2Proof.Machine.execReleaseWriteCompletion outcome s
  | .configWriteCompletion outcome => Sys2Proof.Machine.execConfigWriteCompletion outcome s
  | .orderOpen number target args => Sys2Proof.Machine.execOrderOpen number target args s
  | .orderFree number target args => Sys2Proof.Machine.execOrderFree number target args s
  | .reclose number target args => Sys2Proof.Machine.execReclose number target args s
  | .release number target args => Sys2Proof.Machine.execRelease number target args s
  | .clearSwitch number target args => Sys2Proof.Machine.execClearSwitch number target args s
  | .store number target args => Sys2Proof.Machine.execStore number target args s
  | .storeCommit number target page data => Sys2Proof.Machine.execStoreCommit number target page data s
  | .pauseBleed number target args => Sys2Proof.Machine.execPauseBleed number target args s
  | .resumeBleed number target args => Sys2Proof.Machine.execResumeBleed number target args s
  | .restart number target args => Sys2Proof.Machine.execRestart number target args s
  | .readIdentity number target args => Sys2Proof.Machine.execReadIdentity number target args s
  | .readSamples number target args => Sys2Proof.Machine.execReadSamples number target args s
  | .readMonitor number target args => Sys2Proof.Machine.execReadMonitor number target args s
  | .readOwnHolds number target args => Sys2Proof.Machine.execReadOwnHolds number target args s
  | .readRemoteHolds number target args => Sys2Proof.Machine.execReadRemoteHolds number target args s
  | .readRoster number target args => Sys2Proof.Machine.execReadRoster number target args s
  | .readBleed number target args => Sys2Proof.Machine.execReadBleed number target args s
  | .readBallot number target args => Sys2Proof.Machine.execReadBallot number target args s
  | .readLockout number target args => Sys2Proof.Machine.execReadLockout number target args s
  | .readConfig number target args => Sys2Proof.Machine.execReadConfig number target args s
  | .orderOfUnknownKind number target kind args => Sys2Proof.Machine.execOrderOfUnknownKind number target kind args s
  | .readOfUnknownRecord number target args => Sys2Proof.Machine.execReadOfUnknownRecord number target args s

end Sys2Proof.Machine
end

