-- ==== Sys2Proof/Machine/Step.lean ====
section
/-! DEFINITION. One step: the command at the front of the queue, or, on an empty queue, the expiry that is due or one
microsecond of time (log 1). -/

namespace Sys2Proof.Machine

/-- A step on an empty queue: an expiry that has fallen due is taken; else one microsecond passes (log 1, log 2). -/
def idle (s : State) : Host.Outcome State Fault Refusal :=
  match s.dueExpiry with
  | some c => exec c s
  | none => .next (tick s)

/-- One step: the front command is executed on the state with the queue's rest. -/
def step (s : State) : Host.Outcome State Fault Refusal :=
  match s.pending with
  | c :: rest => exec c { s with pending := rest }
  | [] => idle s

/-- The command that a table word spells put at the front of the queue; no word spells one (log 21). -/
def State.withFetchWord (s : State) (nbits w : Nat) : State :=
  match decodeTableWord nbits w with
  | some c => { s with pending := c :: s.pending }
  | none => s

end Sys2Proof.Machine
end

