-- ==== Sys2Proof/Safety.lean ====
section
/-! DEFINITION. What a legal state is, in the terms the claims use: one predicate for each law the manual states about a block.
Nothing here is checked by a step; each is a claim that steps keep it. -/

namespace Sys2Proof.Machine

/-! ## The switch, the ballot record, a closed station -/

/-- The switch is commanded CLOSED when, and only when, the mode is CLOSED (R48). -/
def SwitchFollowsMode (s : State) : Prop := s.switch.command = .closed ↔ s.ballot.mode = .closed

/-- The fields of the ballot record are as R49 gives them for the mode. -/
def BallotRecordLegal (s : State) : Prop :=
  (s.ballot.current.isSome = true ↔ s.ballot.mode = .pledged ∨ s.ballot.mode = .closed) ∧
    (s.ballot.role ≠ .none ↔ s.ballot.mode = .pledged) ∧
    (s.ballot.role ≠ .proposer → s.ballot.votes = [] ∧ s.ballot.commitClaimed = false) ∧
    (s.ballot.proposal.isRunning = true → s.ballot.role = .proposer) ∧
    (s.ballot.pledge.isRunning = true → s.ballot.role = .voter) ∧
    (s.ballot.confirm.isRunning = true → s.ballot.mode = .closed)

/-- No station is CLOSED with an own hold or a remote record (R46). -/
def ClosedHoldsNothing (s : State) : Prop := s.ballot.mode = .closed → s.holds.own = [] ∧ s.holds.remote = []

/-! ## The link -/

/-- The frames of the queue that are of VOTE class. -/
def isVote (q : QueueEntry) : Bool := decide (q.claim.cls = .vote)

/-- At most 8 frames, at most one TALLY, VOTE frames before ROUTINE frames (R183). -/
def QueueLegal (s : State) : Prop :=
  s.link.queue.length ≤ queueCapacity ∧
    (s.link.queue.filter fun q => decide (q.claim = .tally)).length ≤ 1 ∧
    s.link.queue = s.link.queue.filter isVote ++ s.link.queue.filter (fun q => !isVote q)

/-- A MUTE station has nothing to send and waits for nothing (R192, R193). -/
def MuteIsSilent (s : State) : Prop :=
  s.link.mute = true →
    s.link.queue = [] ∧ s.holds.notices = [] ∧ s.link.announceFlag = false ∧ s.link.wait = none ∧
      s.link.sending = none ∧ s.link.attempts = 0 ∧ s.link.counted = none ∧ s.link.mutePending = false

/-- In START the station neither waits for access nor sends; a wait runs only on an IDLE medium with nothing on the line; the
own frame keeps the medium BUSY and bears the own address; the attempt count stays below 16 and counts nothing without a counted
item (R161, R180, R185, R187, R190). -/
def LinkLegal (s : State) : Prop :=
  (s.ballot.mode = .start → s.link.wait = none ∧ s.link.sending = none) ∧
    (s.link.sending.isSome = true → s.link.medium = .busy) ∧
    (∀ x, s.link.sending = some x → x.sender = s.own) ∧
    (s.link.wait.isSome = true → s.link.medium = .idle ∧ s.link.sending = none) ∧
    s.link.attempts < attemptLimit ∧
    (s.link.counted = none → s.link.attempts = 0)

/-! ## Holds -/

/-- The key of an own hold: its cause with its index (R25). -/
def OwnHold.key (h : OwnHold) : Cause × Option Nat := (h.cause, h.index)

/-- No two own holds have the same key (R25). -/
def OwnKeysDistinct (s : State) : Prop := (s.holds.own.map OwnHold.key).Nodup

/-- An invalid strap leaves a station in START for good (R162); then it also has no sweep, no timer and no frame to take. -/
def UnaddressedIdle (s : State) : Prop :=
  s.addressed = false →
    s.ballot.mode = .start ∧ s.startup.config = none ∧ s.startup.readComplete = false ∧
      s.sweep.inProgress = false ∧ s.sweep.timer = .stopped ∧ s.roster.tallyTimer = .stopped ∧
      s.switch.check = none ∧ s.link.wait = none ∧ s.link.sending = none ∧ s.lockout.inFlight = none ∧
      s.ballot.settle = .stopped ∧ s.ballot.proposal = .stopped ∧ s.ballot.pledge = .stopped ∧
      s.ballot.confirm = .stopped ∧ s.switch.command = .opened ∧ s.holds.own = [] ∧ s.plan.bleedSet = []

/-- The entries are those of the addresses 0 to 24, in order (R1). -/
def RosterShaped (s : State) : Prop := s.roster.entries.map (fun e => e.address) = addresses

/-- The remote hold table: at most 48 records, never two of one origin and serial, none of the own address, none of an origin
that is VACANT or LOST (R37). -/
def RemoteTableLegal (s : State) : Prop :=
  s.holds.remote.length ≤ remoteCapacity ∧
    (s.holds.remote.map fun r => (r.origin, r.serial)).Nodup ∧
    ∀ r ∈ s.holds.remote, r.origin ≠ s.own ∧ (s.entry r.origin).heard = true

/-! ## Roster -/

/-- The own entry is PRESENT with age 0 from JOIN entry onward (R2, R16). -/
def OwnEntryPresent (s : State) : Prop :=
  s.ballot.mode ≠ .start → ∀ e ∈ s.roster.entries, e.address = s.own → e.state = .present ∧ e.age = 0

/-- Join complete comes after START, and from it on the LINK hold stands exactly while a member of E is missing (R13, R19, R23). -/
def LinkInStep (s : State) : Prop :=
  (s.ballot.mode = .start → s.roster.joinComplete = false) ∧
    (s.roster.joinComplete = true → (s.stands .link = true ↔ s.missing ≠ []))

/-- The configuration in use, when there is one, has every field in its range (R173, R174). -/
def ConfigLegal (s : State) : Prop := configInRange s.cfg = true

/-- The age an entry may have in its state (R2), with LOST age L. -/
def RosterEntry.ageLegal (lostAge : Nat) (e : RosterEntry) : Prop :=
  match e.state with
  | .vacant => e.age = 0
  | .present => e.age ≤ 1
  | .stale => 2 ≤ e.age ∧ e.age < lostAge
  | .lost => e.age = lostAge

/-- Every entry's age is legal for its state, no LOST entry keeps a summary, a recall pending or a confirmation, and in START
every entry is VACANT (R1, R2, R7, R15). -/
def RosterLegal (s : State) : Prop :=
  ConfigLegal s ∧
    (s.ballot.mode = .start → ∀ e ∈ s.roster.entries, e.state = .vacant ∧ e.age = 0) ∧
    ∀ e ∈ s.roster.entries,
      e.ageLegal s.cfg.shared.lostAge ∧
        (e.state = .lost → e.summary = none ∧ e.recallPending = false ∧ e.confirmed = false)

/-! ## Bleeding -/

/-- The plan record: the demand is the size of the selection, the bleed set its first cells up to the grant, a disallowed plan
is empty; the selection's cells are cells 1 to 10, each once and no two adjacent, so at most 5; the grant is at most the advertised
demand (R112, R113, R116, R117, R119, R120). -/
def PlanLegal (s : State) : Prop :=
  s.plan.demand = s.plan.selection.length ∧
    s.plan.bleedSet = s.plan.selection.take s.plan.grant ∧
    (s.plan.allowed = true ↔ s.plan.reason = none) ∧
    (s.plan.allowed = false → s.plan.selection = [] ∧ s.plan.grant = 0) ∧
    s.plan.demand ≤ 5 ∧
    s.plan.grant ≤ s.plan.advertised ∧
    s.plan.selection.Nodup ∧
    ∀ c ∈ s.plan.selection, 1 ≤ c ∧ c ≤ 10 ∧ c + 1 ∉ s.plan.selection

/-! ## Monitors -/

/-- Which monitor a record is: its number, kind and cell (R89). -/
def Monitor.ident (m : Monitor) : Nat × MonitorKind × Option Nat := (m.number, m.kind, m.cell)

/-- The monitors are those of N_fit in number order, or none before the store read has formed them (R90). -/
def MonitorsShaped (s : State) : Prop :=
  s.monitors.records = [] ∨ s.monitors.records.map Monitor.ident = (formMonitors s.fitted).map Monitor.ident

/-! ## Lockout and store -/

/-- The slot of the store that a write is going to is torn. -/
def Write.targetTorn (w : Write) (r : RetainedStore) : Prop :=
  match w with
  | .active .a _ => r.lockoutA = .torn
  | .active .b _ => r.lockoutB = .torn
  | .release .a _ => r.lockoutA = .torn
  | .release .b _ => r.lockoutB = .torn
  | .config .a _ => r.configA = .torn
  | .config .b _ => r.configB = .torn

/-- The unit's copy of the slot that a write is going to is invalid. -/
def Write.targetInvalid (w : Write) (c : SlotCopies) : Prop :=
  match w with
  | .active .a _ => c.lockoutA = none
  | .active .b _ => c.lockoutB = none
  | .release .a _ => c.lockoutA = none
  | .release .b _ => c.lockoutB = none
  | .config .a _ => c.configA = none
  | .config .b _ => c.configB = none

/-- A write of kind CONFIG. -/
def Write.isConfig : Write → Bool
  | .config _ _ => true
  | .active _ _ => false
  | .release _ _ => false

/-- Once the store read has completed: the slot being written counts as invalid and is torn in the store; a write waits only
behind a configuration write and for an ACTIVE record; an ACTIVE or a release write is in flight only while the record is
ACTIVE (R143, R144, R145). -/
def StoreLegal (s : State) : Prop :=
  s.startup.readComplete = true ∧
    (∀ w, s.lockout.inFlight = some w →
      w.targetTorn s.store ∧ w.targetInvalid s.lockout.copies ∧
        (w.isConfig = false → s.lockout.record.state = .active)) ∧
    (s.lockout.pendingWrite = true →
      s.lockout.record.state = .active ∧ s.lockout.inFlight.any (fun w => w.isConfig) = true)

/-- Once the store read has completed: the LOCKOUT hold is in the own hold set exactly when the record is ACTIVE (R149), and an
ACTIVE record names its cause (R141). -/
def LockoutInStep (s : State) : Prop :=
  s.startup.readComplete = true ∧
    (s.stands .lockout = true ↔ s.lockout.record.state = .active) ∧
    (s.lockout.record.state = .active → s.lockout.record.cause.isSome = true)

/-- Before the store read's completion: the station is in START, no lockout has begun, its hold does not stand and no write is in
flight or pending (R141, R144, R149). -/
def NoLockoutYet (s : State) : Prop :=
  s.startup.readComplete = false ∧ s.ballot.mode = .start ∧ s.lockout.record.state = .none ∧
    s.stands .lockout = false ∧ s.lockout.inFlight = none ∧ s.lockout.pendingWrite = false

/-- The configuration in use that the store read settles from the slots of the store: that of the higher generation, of configuration A
on equal ones, of the only valid slot, or the defaults (R156, R175). -/
def ConfigSettled (r : RetainedStore) (c : ConfigInUse) : Prop :=
  (∀ a, validConfigSlot r.configA = some a →
    (∀ b, validConfigSlot r.configB = some b → b.generation ≤ a.generation) → c = ⟨a.record, a.generation, .slotA⟩) ∧
    (∀ b, validConfigSlot r.configB = some b →
      (∀ a, validConfigSlot r.configA = some a → a.generation < b.generation) → c = ⟨b.record, b.generation, .slotB⟩) ∧
    (validConfigSlot r.configA = none → validConfigSlot r.configB = none → c = ⟨defaultConfig, 0, .defaults⟩)

/-- The lockout record that the store read sets from the newest valid lockout slot (R157). -/
def LockoutSettled (c : SlotCopies) (l : LockoutRecord) : Prop :=
  (c.newest = none → l = ⟨.none, 0, none, none, false, 0⟩) ∧
    ∀ n x, c.newest = some (n, x) →
      (x.state = .released → l = ⟨.none, x.serial, some x.cause, x.index, false, 0⟩) ∧
        (x.state = .active → l = ⟨.active, x.serial, some x.cause, x.index, true, 0⟩)

/-! ## Which blocks a command can change -/

/-- The parts of the state that a claim about what a command leaves alone names. -/
inductive Block where
  | pins | clock | startup | sweep | monitors | holds | roster | ballot | plan | switch | lockout | store | link | orders
  deriving DecidableEq, Repr

/-- A block is the same in two states. -/
def sameBlock (s t : State) : Block → Prop
  | .pins => t.pins = s.pins
  | .clock => t.clock = s.clock
  | .startup => t.startup = s.startup
  | .sweep => t.sweep = s.sweep
  | .monitors => t.monitors = s.monitors
  | .holds => t.holds = s.holds
  | .roster => t.roster = s.roster
  | .ballot => t.ballot = s.ballot
  | .plan => t.plan = s.plan
  | .switch => t.switch = s.switch
  | .lockout => t.lockout = s.lockout
  | .store => t.store = s.store
  | .link => t.link = s.link
  | .orders => t.orders = s.orders

/-- The blocks that every event may change at its end: the ballot unit's settle timer (R54), the link controller's access wait and
counted item (R185, R189). -/
def atEventEnd : List Block := [.ballot, .link]

/-- The blocks that a frame, or an order in being heard, may change. -/
def byHearing : List Block := [.holds, .roster, .ballot, .switch, .link]

/-- The blocks that a command may change when it starts no station; every other block stays as it is. -/
def touches : Instr → List Block
  | .supplyStart _ _ _ => []
  | .storeReadCompletion => [.startup, .monitors, .holds, .roster, .ballot, .plan, .switch, .lockout, .store, .link]
  | .sweepTimerExpiry => .sweep :: .plan :: atEventEnd
  | .sweepCompletion _ =>
    [.startup, .sweep, .monitors, .holds, .roster, .ballot, .plan, .switch, .lockout, .store, .link]
  | .tallyTimerExpiry => byHearing
  | .settleTimerExpiry => .switch :: atEventEnd
  | .proposalTimerExpiry => .switch :: atEventEnd
  | .pledgeTimerExpiry => .switch :: atEventEnd
  | .confirmTimerExpiry => .switch :: atEventEnd
  | .settleCheckExpiry => [.holds, .switch, .lockout, .store, .ballot, .link]
  | .feedbackChange _ => .pins :: .switch :: atEventEnd
  | .accessWaitExpiry => atEventEnd
  | .frameStart => atEventEnd
  | .discardedFrame => atEventEnd
  | .sendCompletion => .plan :: byHearing
  | .sendAbort => [.holds, .ballot, .switch, .link]
  | .duplicateFrame => [.holds, .ballot, .switch, .link]
  | .activeWriteCompletion _ => .lockout :: .store :: atEventEnd
  | .releaseWriteCompletion _ => [.lockout, .store, .holds, .orders, .ballot, .switch, .link]
  | .configWriteCompletion _ => .lockout :: .store :: .orders :: atEventEnd
  | .release _ _ _ => .lockout :: .store :: .orders :: byHearing
  | .storeCommit _ _ _ _ => .lockout :: .store :: .orders :: byHearing
  | .pauseBleed _ _ _ => .plan :: .orders :: byHearing
  | .resumeBleed _ _ _ => .plan :: .orders :: byHearing
  | i => if (payloadOfOrder i).isSome then .orders :: byHearing else byHearing

/-- The command starts the station: a supply start; the send of a marked ANSWER; on a MUTE station a RESTART, or the repeat of an
order whose memory is of one (R160, R205). -/
def startsStation (c : Instr) (s : State) : Prop :=
  (∃ straps feedback medium, c = .supplyStart straps feedback medium) ∨
    (c = .sendCompletion ∧ ∃ x, s.link.sending = some x ∧ s.sendsRestart x = true) ∨
    (s.link.mute = true ∧ (payloadOfOrder c).isSome = true ∧
      ((∃ number target args, c = .restart number target args) ∨ ∃ m, s.orders.memory = some m ∧ m.kind = .restart))

/-! ## Hypotheses of the claims about frames and orders -/

/-- The station takes frames from address a: it is past START, and a is not its own address (R7, R8, R10). -/
def TakesFrom (s : State) (a : Nat) : Prop := s.ballot.mode ≠ .start ∧ ¬(s.addressed = true ∧ a = s.own)

/-- An order of this number to this target is a new targeted order: the gateway is heard, the target is the own address and
the order memory does not hold the number (R198, R200). -/
def TakesNewOrder (s : State) (number : Byte) (target : Nat) : Prop :=
  TakesFrom s 0 ∧ target = s.own ∧ target ≤ 31 ∧ ∀ m, s.orders.memory = some m → m.number ≠ number

/-- The roster has nothing to raise: no member missing, no DISCORD (R23, R24). -/
def ClearView (s : State) : Prop := s.missing = [] ∧ s.discord = false

/-- The order memory holds this order as done, with this answer payload (R199, R202). -/
def AnsweredWith (s : State) (number : Byte) (kind : OrderKind) (payload : List Byte) : Prop :=
  s.orders.memory = some ⟨number, kind, .done, some payload⟩

/-- A frame of this claim is in the transmit queue. -/
def Queued (s : State) (c : Claim) : Prop := ∃ q ∈ s.link.queue, q.claim = c

/-- A frame claimed now would find room for three more (R183). -/
def HasRoom (s : State) : Prop := s.link.mute = false ∧ s.link.queue.length + 3 ≤ queueCapacity

/-- What the offer of a superseding ballot x makes of state s (R51, R52): x is the highest ballot seen; a PLEDGED or CLOSED station has
left its own ballot and is OPEN, its switch commanded open, a proposer without votes and with its WITHDRAW claimed, the timer of its
role or of the closure stopped; an OPEN or JOIN station stays in its mode. -/
def LeftFor (s t : State) (x : Ballot) : Prop :=
  t.ballot.highest = x ∧
    (s.ballot.mode = .pledged ∨ s.ballot.mode = .closed →
      t.ballot.mode = .opened ∧ t.ballot.current = none ∧ t.ballot.role = .none ∧
        (SwitchFollowsMode s → t.switch.command = .opened)) ∧
    (s.ballot.mode = .pledged → s.ballot.role = .proposer →
      t.ballot.votes = [] ∧ t.ballot.commitClaimed = false ∧ t.ballot.proposal = .stopped ∧
        ∀ b, s.ballot.current = some b → HasRoom s → Queued t (.withdraw b)) ∧
    (s.ballot.mode = .pledged → s.ballot.role = .voter → t.ballot.pledge = .stopped) ∧
    (s.ballot.mode = .closed → t.ballot.confirm = .stopped) ∧
    (s.ballot.mode = .opened ∨ s.ballot.mode = .join → t.ballot.mode = s.ballot.mode ∧ t.ballot.current = s.ballot.current)

/-- The order, taken in state s, is remembered as done with this answer, and its ANSWER has been claimed: it is queued where s has room
(R202). -/
def AnsweredBy (s t : State) (number : Byte) (kind : OrderKind) (payload : List Byte) : Prop :=
  AnsweredWith t number kind payload ∧ (HasRoom s → Queued t (.answer payload false))

end Sys2Proof.Machine
end

