-- ==== Sys2Proof/WellFormed.lean ====
section
/-! DEFINITION. Which commands are well formed: the frames and orders that can arrive as such (R178, R179, R195, R196), the
readings that a sweep delivers (R78). A command that is not well formed is still taken by the machine: such a frame as a
discarded one (log 8). -/

namespace Sys2Proof

/-- The readings cover 11 taps and 10 cells (R78). -/
def readingsWellFormed (r : Readings) : Bool := decide (r.tapOpen.length = 11) && decide (r.cells.length = 10)

/-- An ORDER whose bytes after the order kind are args. -/
def orderWellFormed (target : Nat) (args : List Byte) : Bool := Machine.orderFrameValid target args.length

/-- A READ of a known record whose bytes after the record code are args. -/
def readWellFormed (target : Nat) (args : List Byte) : Bool := Machine.orderFrameValid target (1 + args.length)

/-- A code is one of the ten of its table (R197). -/
def isOneOfTen (code : Byte) : Bool := decide (1 ≤ code.toNat ∧ code.toNat ≤ 10)

/-- The well-formed commands. -/
def Instr.wellFormed : Instr → Bool
  | .supplyStart _ _ _ => true
  | .storeReadCompletion => true
  | .sweepTimerExpiry => true
  | .sweepCompletion r => readingsWellFormed r
  | .tallyTimerExpiry => true
  | .settleTimerExpiry => true
  | .proposalTimerExpiry => true
  | .pledgeTimerExpiry => true
  | .confirmTimerExpiry => true
  | .settleCheckExpiry => true
  | .feedbackChange _ => true
  | .accessWaitExpiry => true
  | .frameStart => true
  | .sendCompletion => true
  | .sendAbort => true
  | .discardedFrame => true
  | .duplicateFrame => true
  | .tally a t => Machine.frameValid a (.tally t)
  | .announce a d => Machine.frameValid a (.announce d)
  | .hold a n c i d => Machine.frameValid a (.hold n c i d)
  | .lift a n => Machine.frameValid a (.lift n)
  | .recall a t => Machine.frameValid a (.recall t)
  | .propose a b n d => Machine.frameValid a (.propose b n d)
  | .assent a b => Machine.frameValid a (.assent b)
  | .demur a b r => Machine.frameValid a (.demur b r)
  | .commit a b => Machine.frameValid a (.commit b)
  | .withdraw a b => Machine.frameValid a (.withdraw b)
  | .answer a p => Machine.frameValid a (.answer p)
  | .activeWriteCompletion _ => true
  | .releaseWriteCompletion _ => true
  | .configWriteCompletion _ => true
  | .orderOpen _ t args => orderWellFormed t args
  | .orderFree _ t args => orderWellFormed t args
  | .reclose _ t args => orderWellFormed t args
  | .release _ t args => orderWellFormed t args
  | .clearSwitch _ t args => orderWellFormed t args
  | .store _ t args => orderWellFormed t args && decide (args[1]? ≠ some 1#8)
  | .storeCommit _ t page data => orderWellFormed t (page :: 1#8 :: data)
  | .pauseBleed _ t args => orderWellFormed t args
  | .resumeBleed _ t args => orderWellFormed t args
  | .restart _ t args => orderWellFormed t args
  | .readIdentity _ t args => readWellFormed t args
  | .readSamples _ t args => readWellFormed t args
  | .readMonitor _ t args => readWellFormed t args
  | .readOwnHolds _ t args => readWellFormed t args
  | .readRemoteHolds _ t args => readWellFormed t args
  | .readRoster _ t args => readWellFormed t args
  | .readBleed _ t args => readWellFormed t args
  | .readBallot _ t args => readWellFormed t args
  | .readLockout _ t args => readWellFormed t args
  | .readConfig _ t args => readWellFormed t args
  | .orderOfUnknownKind _ t kind args => orderWellFormed t args && !isOneOfTen kind
  | .readOfUnknownRecord _ t args => orderWellFormed t args && !args.head?.any isOneOfTen

end Sys2Proof
end

