-- ==== Sys2Proof/Certificates/Slice0/Obligations.lean ====
section
/-! DEFINITION. The claims about the KF2410, for the provers. Every command of the table is in at least one claim whose conclusion is
the state it answers; the invariants of Safety.lean are claimed at starts and through every step. -/

open Sys2Proof Sys2Proof.Machine

/-! ## Steps and starts -/

/-- A step with a command at the front of the queue executes it on the state with the queue's rest. -/
def Obligations.StepRunsFrontCommand : Prop :=
  ∀ (c : Instr) (rest : List Instr) (s : State),
    step { s with pending := c :: rest } = exec c { s with pending := rest }

/-- MODEL'S CHOICE (log 1, log 2): on an empty queue a due expiry is executed, one of a timer, settle check or access wait that runs and
has nothing left (of several the first of a fixed order); when none is due one microsecond passes: the station clock goes on by it, and
the sweep, tally, settle, proposal, pledge and confirm timers, the settle check and the access wait, each where it runs, have one
microsecond less left; what is stopped stays stopped, and nothing else changes. -/
def Obligations.EmptyQueueTakesDueExpiryOrTime : Prop :=
  ∀ s : State, s.pending = [] →
    (∀ c, s.dueExpiry = some c → step s = exec c s) ∧
      (let out := fun (x : Timer) => ∃ n, x = .running n 0
       let checkOut := ∃ k n, s.switch.check = some ⟨k, .running n 0⟩
       let waitOut := ∃ k, s.link.wait = some ⟨k, 0⟩
       (s.dueExpiry = none ↔ ¬out s.sweep.timer ∧ ¬out s.roster.tallyTimer ∧ ¬out s.ballot.settle ∧ ¬out s.ballot.proposal ∧
          ¬out s.ballot.pledge ∧ ¬out s.ballot.confirm ∧ ¬checkOut ∧ ¬waitOut) ∧
         ∀ c, s.dueExpiry = some c →
           c = .sweepTimerExpiry ∧ out s.sweep.timer ∨ c = .tallyTimerExpiry ∧ out s.roster.tallyTimer ∨
             c = .settleTimerExpiry ∧ out s.ballot.settle ∨ c = .proposalTimerExpiry ∧ out s.ballot.proposal ∨
             c = .pledgeTimerExpiry ∧ out s.ballot.pledge ∨ c = .confirmTimerExpiry ∧ out s.ballot.confirm ∨
             c = .settleCheckExpiry ∧ checkOut ∨ c = .accessWaitExpiry ∧ waitOut) ∧
      (s.dueExpiry = none →
        let ticks := fun (x y : Timer) =>
          (x = .stopped → y = .stopped) ∧ ∀ n left, x = .running n left → y = .running n (left - 1)
        ∃ t, step s = .next t ∧
          t.clock.ms.toNat * 1000 + t.clock.us =
            (if s.clock.us + 1 < 1000 then s.clock.ms.toNat * 1000 + s.clock.us + 1
              else ((s.clock.ms.toNat + 1) % 4294967296) * 1000) ∧
          ticks s.sweep.timer t.sweep.timer ∧ ticks s.roster.tallyTimer t.roster.tallyTimer ∧
          ticks s.ballot.settle t.ballot.settle ∧ ticks s.ballot.proposal t.ballot.proposal ∧
          ticks s.ballot.pledge t.ballot.pledge ∧ ticks s.ballot.confirm t.ballot.confirm ∧
          (s.switch.check = none → t.switch.check = none) ∧
          (∀ k n left, s.switch.check = some ⟨k, .running n left⟩ → t.switch.check = some ⟨k, .running n (left - 1)⟩) ∧
          (s.link.wait = none → t.link.wait = none) ∧
          (∀ k left, s.link.wait = some ⟨k, left⟩ → t.link.wait = some ⟨k, left - 1⟩) ∧
          t = { s with
            clock := t.clock
            sweep := { s.sweep with timer := t.sweep.timer }
            roster := { s.roster with tallyTimer := t.roster.tallyTimer }
            ballot := { s.ballot with
              settle := t.ballot.settle, proposal := t.ballot.proposal, pledge := t.ballot.pledge, confirm := t.ballot.confirm }
            switch := { s.switch with check := t.switch.check }
            link := { s.link with wait := t.link.wait } })

/-- Every command answers a next state: the machine never stops. MODEL'S CHOICE: so does a command whose event does not arise in the
state (log 3), and every command, a start included, leaves the queue of waiting commands as it is (log 26). Unless it starts the
station, a well-formed command leaves every block that it does not touch. -/
def Obligations.EveryCommandAnswersNext : Prop :=
  ∀ (c : Instr) (s : State), ∃ t, exec c s = .next t ∧ t.pending = s.pending ∧
    (c.wellFormed = true → ¬startsStation c s → ∀ b, b ∉ touches c → sameBlock s t b)

/-- SUPPLY_START gives every block its start value and keeps the retained slots; with a valid strap address the first sweep, which
suspends the empty bleed set, its 250 ms timer and a 50 ms settle check begin, with an invalid one none of them does. MODEL'S CHOICE:
microsecond 0 of the clock (log 1); the levels that the straps are moved to later come with the command (log 6). -/
def Obligations.SupplyStartGivesStartValues : Prop :=
  ∀ (straps : Straps) (feedback : SwitchPos) (medium : Medium) (s : State),
    ∃ t, exec (.supplyStart straps feedback medium) s = .next t ∧ t.pins = ⟨straps, feedback⟩ ∧
      t.store = s.store ∧ t.startup.address = straps.level.toNat ∧ t.startup.readComplete = false ∧
      t.startup.firstSweepComplete = false ∧ t.startup.config = none ∧ t.clock = ⟨0, 0⟩ ∧ t.sweep.latest = none ∧
      t.monitors.records = [] ∧ t.holds = ⟨[], 0, [], []⟩ ∧
      (∀ a, a ≤ 24 → t.entry a = ⟨a, .vacant, 0, none, none, false, false⟩) ∧ t.roster.tallyTimer = .stopped ∧
      t.roster.joinComplete = false ∧ t.roster.expiries = 0 ∧
      t.ballot = ⟨.start, none, .none, [], false, ⟨0, 0⟩, .stopped, .stopped, .stopped, .stopped⟩ ∧
      t.plan = ⟨false, some .mode, none, none, 0, [], 0, 0, 0, [], t.plan.suspended, false⟩ ∧
      t.switch.command = .opened ∧ t.switch.feedback = feedback ∧
      t.lockout.record = ⟨.none, 0, none, none, false, 0⟩ ∧ t.lockout.inFlight = none ∧ t.lockout.pendingWrite = false ∧
      t.lockout.pendingEscalation = none ∧ t.link.medium = medium ∧ t.link.wait = none ∧ t.link.lastSender = 0 ∧
      t.link.sending = none ∧ t.link.attempts = 0 ∧ t.link.counted = none ∧
      t.link.mutePending = false ∧ t.link.announceFlag = false ∧ t.link.queue = [] ∧
      t.link.mute = false ∧ t.orders = ⟨none, none, none, none, none⟩ ∧
      (1 ≤ straps.level.toNat ∧ straps.level.toNat ≤ 24 →
        t.sweep.inProgress = true ∧ t.plan.suspended = true ∧ t.sweep.timer = Timer.startMs 250 ∧
          t.switch.check = some ⟨.command, Timer.startMs 50⟩) ∧
      (¬(1 ≤ straps.level.toNat ∧ straps.level.toNat ≤ 24) →
        t.sweep.inProgress = false ∧ t.plan.suspended = false ∧ t.sweep.timer = .stopped ∧ t.switch.check = none)

/-- The store read's completion before the first sweep's: the configuration in use is settled from the valid slots (the higher
generation, A on equal ones, the defaults when none is valid, and then CONFIG is raised), the lockout record from the newest
lockout slot, the monitors are formed; the mode stays START and the slots stay as they are. (The read that completes after the first
sweep settles the same: JoinEntryFollowsSecondCompletion.) Which slots are valid, the ranges of the configuration's fields, the
defaults, and which of two valid lockout records is the newest are written out. -/
def Obligations.StoreReadSettlesConfiguration : Prop :=
  (∀ s : State, s.addressed = true → s.ballot.mode = .start → s.startup.readComplete = false →
    s.startup.firstSweepComplete = false →
      ∃ t, exec .storeReadCompletion s = .next t ∧ t.startup.readComplete = true ∧ ∃ c, t.startup.config = some c ∧
        t.startup.digest = stringDigest c.record.shared ∧ t.ballot.mode = .start ∧ t.store = s.store ∧
        t.lockout.copies = ⟨validConfigSlot s.store.configA, validConfigSlot s.store.configB,
          validLockoutSlot s.store.lockoutA, validLockoutSlot s.store.lockoutB⟩ ∧
        ConfigSettled s.store c ∧ (c.source = .defaults → t.stands .config = true) ∧
        LockoutSettled t.lockout.copies t.lockout.record ∧ (t.lockout.record.state = .active → t.stands .lockout = true) ∧
        t.monitors.records = formMonitors c.record.cells.fitted ∧ t.holds.notices = s.holds.notices) ∧
    (∀ (x : Slot ConfigSlot) (c : ConfigSlot), validConfigSlot x = some c ↔
      x = .written c ∧ (1 ≤ c.generation ∧ c.generation ≤ 65535) ∧
        (let p := c.record.shared
         (2 ≤ p.size ∧ p.size ≤ 24) ∧ (100 ≤ p.tallyPeriod ∧ p.tallyPeriod ≤ 2000 ∧ p.tallyPeriod % 50 = 0) ∧
           (3 ≤ p.lostAge ∧ p.lostAge ≤ 15) ∧ p.budget ≤ 120 ∧ (5 ≤ p.margin ∧ p.margin ≤ 100) ∧
           (500 ≤ p.settleTime ∧ p.settleTime ≤ 30000) ∧ (100 ≤ p.proposalTime ∧ p.proposalTime ≤ 2000)) ∧
        (let p := c.record.cells
         (4 ≤ p.fitted ∧ p.fitted ≤ 10) ∧ (100 ≤ p.sweepInterval ∧ p.sweepInterval ≤ 1000) ∧
           (2000 ≤ p.highLevel ∧ p.highLevel ≤ 5000) ∧ (2000 ≤ p.highSevere ∧ p.highSevere ≤ 5000) ∧ p.lowLevel ≤ 4500 ∧
           p.lowSevere ≤ 4500 ∧ (10 ≤ p.hysteresis ∧ p.hysteresis ≤ 300) ∧ (20 ≤ p.sumTolerance ∧ p.sumTolerance ≤ 2000) ∧
           (1000 ≤ p.bleedFloor ∧ p.bleedFloor ≤ 4500)) ∧
        (let p := c.record.limits
         (0 ≤ p.hotLevel ∧ p.hotLevel ≤ 1250) ∧ (0 ≤ p.hotSevere ∧ p.hotSevere ≤ 1250) ∧
           (-400 ≤ p.coldLevel ∧ p.coldLevel ≤ 400) ∧ (10 ≤ p.hysteresis ∧ p.hysteresis ≤ 200) ∧
           (1 ≤ p.raiseCount ∧ p.raiseCount ≤ 15) ∧ (1 ≤ p.easeCount ∧ p.easeCount ≤ 15) ∧
           (500 ≤ p.dieLimit ∧ p.dieLimit ≤ 1250) ∧ (1 ≤ p.window ∧ p.window ≤ 60) ∧
           (10 ≤ p.switchSettle ∧ p.switchSettle ≤ 200))) ∧
    defaultConfig = ⟨⟨12, false, 500, 5, 24, 15, .ordered, 2000, 400⟩, ⟨10, 250, 4200, 4350, 2800, 2500, 50, 200, 3300⟩,
      ⟨550, 700, -200, 50, 3, 3, 1000, 10, 50⟩⟩ ∧
    (∀ (x : Slot LockoutSlot) (c : LockoutSlot), validLockoutSlot x = some c ↔
      x = .written c ∧ 1 ≤ c.serial ∧ c.serial ≤ 65535) ∧
    ∀ c : SlotCopies,
      (c.lockoutA = none → c.lockoutB = none → c.newest = none) ∧
        (∀ a, c.lockoutA = some a → c.lockoutB = none → c.newest = some (.a, a)) ∧
        (∀ b, c.lockoutB = some b → c.lockoutA = none → c.newest = some (.b, b)) ∧
        ∀ a, c.lockoutA = some a → ∀ b, c.lockoutB = some b →
          (b.serial < a.serial → c.newest = some (.a, a)) ∧ (a.serial < b.serial → c.newest = some (.b, b)) ∧
            (a.serial = b.serial →
              (a.state = .released → b.state = .active → c.newest = some (.a, a)) ∧
                (a.state = .active → b.state = .released → c.newest = some (.b, b)) ∧
                (a.state = b.state → c.newest = some (.a, a)))

/-- JOIN entry comes in the event that makes the second of the two flags yes, whichever completes last: the mode is JOIN, the own
entry is PRESENT with age 0 and the own announce data, the ANNOUNCE flag is set unless MUTE, the tally timer runs T_tally, and
the switch stays commanded as it was. Unless MUTE, one HOLD notice with replay no stands for each own hold, in raise order, a DISCORD
hold raised last among them; DISCORD stands exactly when its condition is true, which with every entry VACANT before is that the
own address lies above S. The configuration in use is what the store read settles it to, or has settled before; a read that completes
last also sets the lockout record, which an escalation of the first sweep's monitors can only begin from NONE, and forms the monitors. -/
def Obligations.JoinEntryFollowsSecondCompletion : Prop :=
  ∀ (c : Instr) (s : State), s.addressed = true → s.ballot.mode = .start → RosterShaped s →
    (c = .storeReadCompletion ∧ s.startup.readComplete = false ∧ s.startup.firstSweepComplete = true) ∨
        ((∃ r, c = .sweepCompletion r) ∧ s.sweep.inProgress = true ∧ s.startup.readComplete = true) →
      ∃ t, exec c s = .next t ∧ t.ballot.mode = .join ∧ t.startup.readComplete = true ∧
        t.startup.firstSweepComplete = true ∧ (t.entry s.own).state = .present ∧ (t.entry s.own).age = 0 ∧
        (t.entry s.own).announced = some t.ownAnnounce ∧ t.link.announceFlag = (!s.link.mute || s.link.announceFlag) ∧
        t.roster.tallyTimer = Timer.startMs t.cfg.shared.tallyPeriod ∧ t.plan.bleedSet = [] ∧
        (s.switch.command = .opened → t.switch.command = .opened) ∧
        (s.startup.readComplete = true → t.startup.config = s.startup.config ∧ t.startup.digest = s.startup.digest) ∧
        (s.startup.readComplete = false → ∃ c, t.startup.config = some c ∧ ConfigSettled s.store c ∧
          t.startup.digest = stringDigest c.record.shared ∧ (c.source = .defaults → t.stands .config = true) ∧
          (t.lockout.record.state = .none → LockoutSettled s.store.judged t.lockout.record) ∧
          (∀ n x, s.store.judged.newest = some (n, x) → x.state = .active → LockoutSettled s.store.judged t.lockout.record) ∧
          t.monitors.records.map Monitor.ident = (formMonitors c.record.cells.fitted).map Monitor.ident) ∧
        (s.holds.notices = [] → s.link.mute = false → s.stands .discord = false →
          t.holds.notices.map (fun n => (n.kind, n.serial, n.replay)) =
            t.holds.own.map (fun h => (NoticeKind.hold, h.serial, false))) ∧
        (s.holds.notices = [] → s.link.mute = true → t.holds.notices = []) ∧
        (t.stands .discord = true ↔ t.discord = true) ∧
        ((∀ e ∈ s.roster.entries, e.state = .vacant) → (t.discord = true ↔ t.size < s.own))

/-! ## Sweeps, monitors, bleeding -/

/-- The sweep timer's expiry starts the timer again with the interval in use and begins a sweep: the flag is yes, the bleed set is
kept but suspended, so that every bleed output is off; no other block but the ballot unit's settle timer and the access wait can
change. -/
def Obligations.SweepTimerExpiryBeginsSweep : Prop :=
  ∀ s : State, s.sweep.timer.isRunning = true →
    ∃ t, exec .sweepTimerExpiry s = .next t ∧
      t.sweep = ⟨Timer.startMs (match s.startup.config with
        | some c => c.record.cells.sweepInterval
        | none => 250), true, s.sweep.latest⟩ ∧
      t.plan = { s.plan with suspended := true } ∧ (∀ c, t.bleedOutput c = false) ∧ t.holds = s.holds ∧
      t.roster = s.roster ∧ t.monitors = s.monitors ∧ t.switch = s.switch ∧ t.lockout = s.lockout ∧
      t.store = s.store ∧ t.orders = s.orders ∧ t.startup = s.startup ∧ t.ballot.mode = s.ballot.mode ∧
      t.link.queue = s.link.queue

/-- A sweep's completion past START replaces the sample set whole by the one formed of its readings, clears the flag, has the
monitors evaluate it and ends the suspension. The set: a cell beside an open tap is invalid, others are limited to 0..5000; a
thermistor out of range or failed is invalid; sum and die temperature are limited. -/
def Obligations.SweepCompletionFormsSampleSet : Prop :=
  ∀ (r : Readings) (s : State), s.sweep.inProgress = true → s.ballot.mode ≠ .start →
    ∃ t, exec (.sweepCompletion r) s = .next t ∧ t.sweep.timer = s.sweep.timer ∧ t.sweep.inProgress = false ∧
      ∃ x, t.sweep.latest = some x ∧
      t.plan.suspended = false ∧ t.monitors.lastEvaluated = some s.now ∧ x.completed = s.now ∧
      (∀ c, 1 ≤ c → c ≤ 10 →
        x.cell c = if (r.tapOpen[c - 1]?).getD false = true ∨ (r.tapOpen[c]?).getD false = true then none
          else some (max 0 (min 5000 ((r.cells[c - 1]?).getD 0))).toNat) ∧
      (∀ k, k ≤ 10 → x.isOpen k = (r.tapOpen[k]?).getD false) ∧
      x.moduleSum = (max 0 (min 50000 r.moduleSum)).toNat ∧
      (x.t1 = r.t1.bind fun v => if -400 ≤ v ∧ v ≤ 1250 then some v else none) ∧
      (x.t2 = r.t2.bind fun v => if -400 ≤ v ∧ v ≤ 1250 then some v else none) ∧
      x.die = max (-400) (min 1250 r.die) ∧ t.roster.entries = s.roster.entries ∧ t.startup = s.startup ∧
      t.orders = s.orders ∧ t.plan.advertised = s.plan.advertised

/-- The class of each monitor kind's reading, and its severity, by the tables of section 5.3: of two valid thermistors HOT takes the
higher and COLD the lower, of one valid one both take that; TAP, COLD and SUM have no severe judgement. -/
def Obligations.MonitorClassesByTable : Prop :=
  ∀ (s : State) (x : SampleSet) (m : Monitor),
    let ofThermistors := fun (pick : Int → Int → Int) (v : Int) =>
      (∃ a b, x.t1 = some a ∧ x.t2 = some b ∧ v = pick a b) ∨ (x.t1 = some v ∧ x.t2 = none) ∨ (x.t1 = none ∧ x.t2 = some v)
    (∀ c, m.cell = some c →
      (m.kind = .high →
        (x.cell c = none → s.classify x m = .frozen ∧ s.severe x m = none) ∧
          ∀ v, x.cell c = some v →
            s.severe x m = some (decide (s.cfg.cells.highSevere < v)) ∧
              (s.cfg.cells.highLevel < v → s.classify x m = .crossing) ∧
              (v ≤ s.cfg.cells.highLevel → (v : Int) ≤ (s.cfg.cells.highLevel : Int) - s.cfg.cells.hysteresis →
                s.classify x m = .easing) ∧
              (v ≤ s.cfg.cells.highLevel → (s.cfg.cells.highLevel : Int) - s.cfg.cells.hysteresis < v →
                s.classify x m = .between)) ∧
        (m.kind = .low →
          (x.cell c = none → s.classify x m = .frozen ∧ s.severe x m = none) ∧
            ∀ v, x.cell c = some v →
              s.severe x m = some (decide (v < s.cfg.cells.lowSevere)) ∧
                (v < s.cfg.cells.lowLevel → s.classify x m = .crossing) ∧
                (s.cfg.cells.lowLevel ≤ v → s.cfg.cells.lowLevel + s.cfg.cells.hysteresis ≤ v →
                  s.classify x m = .easing) ∧
                (s.cfg.cells.lowLevel ≤ v → v < s.cfg.cells.lowLevel + s.cfg.cells.hysteresis →
                  s.classify x m = .between))) ∧
      (m.kind = .tap →
        ((∃ k ∈ s.fittedTaps, x.isOpen k = true) → s.classify x m = .crossing) ∧
          ((∀ k ∈ s.fittedTaps, x.isOpen k = false) → s.classify x m = .easing)) ∧
      (m.kind = .hot →
        (x.t1 = none → x.t2 = none → s.classify x m = .crossing ∧ s.severe x m = none) ∧
          ∀ v, ofThermistors max v →
            s.severe x m = some (decide (s.cfg.limits.hotSevere < v)) ∧
              (s.cfg.limits.hotLevel < v → s.classify x m = .crossing) ∧
              (v ≤ s.cfg.limits.hotLevel → v ≤ s.cfg.limits.hotLevel - s.cfg.limits.hysteresis →
                s.classify x m = .easing) ∧
              (v ≤ s.cfg.limits.hotLevel → s.cfg.limits.hotLevel - s.cfg.limits.hysteresis < v →
                s.classify x m = .between)) ∧
      (m.kind = .cold →
        (x.t1 = none → x.t2 = none → s.classify x m = .frozen) ∧
          ∀ v, ofThermistors min v →
            (v < s.cfg.limits.coldLevel → s.classify x m = .crossing) ∧
              (s.cfg.limits.coldLevel ≤ v → s.cfg.limits.coldLevel + s.cfg.limits.hysteresis ≤ v →
                s.classify x m = .easing) ∧
              (s.cfg.limits.coldLevel ≤ v → v < s.cfg.limits.coldLevel + s.cfg.limits.hysteresis →
                s.classify x m = .between)) ∧
      (m.kind = .sum →
        ((∃ c ∈ s.fittedCells, x.cell c = none) → s.classify x m = .frozen) ∧
          ∀ vs : List Nat, s.fittedCells.map x.cell = vs.map some →
            let d := ((x.moduleSum : Int) - vs.sum).natAbs
            (s.cfg.cells.sumTolerance < d → s.classify x m = .crossing) ∧
              (d ≤ s.cfg.cells.sumTolerance → d ≤ s.cfg.cells.sumTolerance / 2 → s.classify x m = .easing) ∧
              (d ≤ s.cfg.cells.sumTolerance → s.cfg.cells.sumTolerance / 2 < d → s.classify x m = .between)) ∧
      (m.kind = .tap ∨ m.kind = .cold ∨ m.kind = .sum → s.severe x m = none)

/-- The monitor state machine, class by class and state by state, with the requests that its transitions send. -/
def Obligations.MonitorStateMachineByTable : Prop :=
  ∀ (p : LimitParams) (st : MonitorState) (n : Nat),
    advance p st n .frozen = (st, n, .quiet) ∧
      advance p .clear n .crossing = (if p.raiseCount ≤ 1 then (.held, 0, .raise) else (.counting, 1, .quiet)) ∧
      advance p .clear n .easing = (.clear, 0, .quiet) ∧ advance p .clear n .between = (.clear, 0, .quiet) ∧
      advance p .counting n .crossing =
        (if p.raiseCount ≤ n + 1 then (.held, 0, .raise) else (.counting, n + 1, .quiet)) ∧
      advance p .counting n .easing = (.clear, 0, .quiet) ∧ advance p .counting n .between = (.clear, 0, .quiet) ∧
      advance p .held n .crossing = (.held, 0, .quiet) ∧ advance p .held n .between = (.held, 0, .quiet) ∧
      advance p .held n .easing = (if p.easeCount ≤ 1 then (.clear, 0, .lift) else (.easing, 1, .quiet)) ∧
      advance p .easing n .crossing = (.held, 0, .quiet) ∧ advance p .easing n .between = (.held, 0, .quiet) ∧
      advance p .easing n .easing =
        (if p.easeCount ≤ n + 1 then (.clear, 0, .lift) else (.easing, n + 1, .quiet))

/-- What monitors ask for, and what a sweep's completion makes of each. A raise: its hold stands, the completion time heads the
recurrence list of at most two, and a lockout with the RECUR cause begins, where none is active, exactly when two raises are
recorded and the older lies within the window. A lift removes the hold of the key it was raised under. A severe reading begins a
lockout with the SEVERE cause when the count reaches the raise count, and none before. At a completion every record takes its class,
state, count, raised tap, recurrence list and severe count by these rules, its request reaches the hold set, a severe run leaves a
lockout active, and where no monitor asks for a lockout the lockout unit stays as it was. -/
def Obligations.MonitorRequestsReachHoldsAndLockout : Prop :=
  (∀ (s : State) (x : SampleSet) (m : Monitor),
    ((sendRequest x m s .raise).ownHold (raiseCause m.kind) m.index).isSome = true ∧
      ((∃ r ∈ s.monitors.records, r.number = m.number) →
        ∃ r ∈ (sendRequest x m s .raise).monitors.records, r.number = m.number ∧
          r.recurrence = (x.completed :: m.recurrence).take 2) ∧
      (∀ newer older, m.recurrence = [newer, older] → s.lockout.record.state = .none →
        (x.completed - older).toNat ≤ s.cfg.limits.window * 60000 →
          (sendRequest x m s .raise).lockout.record.state = .active ∧
            (sendRequest x m s .raise).lockout.record.cause = some (recurCause m.kind) ∧
            (sendRequest x m s .raise).lockout.record.index = m.index) ∧
      (∀ newer older, m.recurrence = [newer, older] →
        s.cfg.limits.window * 60000 < (x.completed - older).toNat → (sendRequest x m s .raise).lockout = s.lockout) ∧
      (m.recurrence.length < 2 → (sendRequest x m s .raise).lockout = s.lockout) ∧
      ((sendRequest x m s .lift).ownHold (raiseCause m.kind) m.index).isSome = false ∧
      (s.monitors.records.find? (fun r => decide (r.number = m.number)) = some m →
        (∀ k, severeCause m.kind = some k →
          (s.cfg.limits.raiseCount ≤ m.severeCount + 1 → s.lockout.record.state = .none →
            (takeSevere (some true) m.number s).lockout.record.state = .active ∧
              (takeSevere (some true) m.number s).lockout.record.cause = some k ∧
              (takeSevere (some true) m.number s).lockout.record.index = m.index) ∧
            (m.severeCount + 1 < s.cfg.limits.raiseCount → (takeSevere (some true) m.number s).lockout = s.lockout)) ∧
          (takeSevere (some false) m.number s).lockout = s.lockout ∧ takeSevere none m.number s = s)) ∧
    [MonitorKind.high, .low, .tap, .hot, .cold, .sum].map severeCause =
      [some .highSevere, some .lowSevere, none, some .hotSevere, none, none] ∧
    [MonitorKind.high, .low, .tap, .hot, .cold, .sum].map recurCause =
      [.recurHigh, .recurLow, .recurTap, .recurHot, .recurCold, .recurSum] ∧
    ∀ (r : Readings) (s : State), s.sweep.inProgress = true → s.ballot.mode ≠ .start ∨ s.startup.readComplete = true →
      MonitorsShaped s →
        let x := sampleSetOf r s.now
        let taken := fun (m : Monitor) => advance s.cfg.limits m.state m.count (s.classify x m)
        ∃ t, exec (.sweepCompletion r) s = .next t ∧
          t.monitors.records.map Monitor.ident = s.monitors.records.map Monitor.ident ∧
          (∀ m ∈ s.monitors.records, ∃ n ∈ t.monitors.records, n.number = m.number ∧
            n.lastClass = some (s.classify x m) ∧ n.state = (taken m).1 ∧ n.count = (taken m).2.1 ∧
            n.recurrence = (if (taken m).2.2 = .raise then (s.now :: m.recurrence).take 2 else m.recurrence) ∧
            (m.kind = .tap → n.raisedTap =
              if (taken m).2.2 = .raise then s.fittedTaps.find? x.isOpen
              else if (taken m).2.2 = .lift then none else m.raisedTap) ∧
            (s.severe x m = none → n.severeCount = m.severeCount) ∧ (s.severe x m = some false → n.severeCount = 0) ∧
            (s.severe x m = some true → n.severeCount =
              if s.cfg.limits.raiseCount ≤ m.severeCount + 1 then 0 else m.severeCount + 1) ∧
            ((taken m).2.2 = .raise → (t.ownHold (raiseCause m.kind)
              (if m.kind = .tap then s.fittedTaps.find? x.isOpen else m.cell)).isSome = true) ∧
            ((taken m).2.2 = .lift → (t.ownHold (raiseCause m.kind) m.index).isSome = false) ∧
            (s.severe x m = some true → s.cfg.limits.raiseCount ≤ m.severeCount + 1 → t.lockout.record.state = .active)) ∧
          ((∀ m ∈ s.monitors.records, ((taken m).2.2 = .raise → m.recurrence.length < 2) ∧
              (s.severe x m = some true → m.severeCount + 1 < s.cfg.limits.raiseCount)) → t.lockout = s.lockout)

/-- A plan point: the reason is the first condition that applies; a disallowed plan is empty; the grant is the advertised demand
scaled by the budget; the bleed set is the first cells of the selection up to the grant; where bleeding is allowed the selection is
that of the candidates, the fitted valid cells above both target and bleed floor with their values. A sweep's completion past START
leaves the plan that this plan point gives on the state it leaves. The floor is the least min cell of the members' summaries whose entry
is PRESENT or STALE; the total demand adds the advertised demand of each such summary, and 5 for a member without one. A HOT monitor
that is not CLEAR disallows; a bleed output is on for a cell of the bleed set while not suspended. -/
def Obligations.PlanPointRecomputes : Prop :=
  (∀ (r : Readings) (s : State), s.sweep.inProgress = true → s.ballot.mode ≠ .start →
    ∃ t, exec (.sweepCompletion r) s = .next t ∧ t.plan = (sweepPlanPoint (t.setPlan s.plan)).plan) ∧
  (∀ s : State,
    let member := fun (e : RosterEntry) => 1 ≤ e.address ∧ e.address ≤ s.cfg.shared.size
    let adds := fun (e : RosterEntry) (v : Nat) => member e ∧ (e.state = .present ∨ e.state = .stale) ∧
      ∃ t, e.summary = some t ∧ t.minCell = some v
    (∀ f, s.floor = some f ↔
      (∃ e ∈ s.roster.entries, adds e f) ∧ ∀ e ∈ s.roster.entries, ∀ v, adds e v → f ≤ v) ∧
      (s.floor = none ↔ ∀ e ∈ s.roster.entries, ∀ v, ¬adds e v) ∧
      s.totalDemand = ((s.roster.entries.filter fun e => decide (1 ≤ e.address ∧ e.address ≤ s.cfg.shared.size)).map fun e =>
        if e.state = .present ∨ e.state = .stale then (e.summary.map fun t => t.advertisedDemand).getD 5 else 5).sum ∧
      (s.hotNotClear = true ↔ ∃ m ∈ s.monitors.records, m.kind = .hot ∧ m.state ≠ .clear) ∧
      ∀ c, s.bleedOutput c = true ↔ c ∈ s.plan.bleedSet ∧ s.plan.suspended = false) ∧
  ∀ s : State,
    let p := (sweepPlanPoint s).plan
    p.floor = s.floor ∧ p.target = s.floor.map (fun f => f + s.cfg.shared.margin) ∧ p.total = s.totalDemand ∧
      p.suspended = false ∧ p.paused = s.plan.paused ∧ p.advertised = s.plan.advertised ∧
      (p.allowed = true ↔ p.reason = none) ∧
      (s.ballot.mode = .start ∨ s.ballot.mode = .join → p.reason = some .mode) ∧
      (s.ballot.mode ≠ .start → s.ballot.mode ≠ .join →
        (s.plan.paused = true → p.reason = some .paused) ∧
          (s.plan.paused = false →
            (s.cfg.shared.budget = 0 → p.reason = some .noBudget) ∧
              (s.cfg.shared.budget ≠ 0 → ∀ x, s.sweep.latest = some x →
                (s.cfg.limits.dieLimit ≤ x.die → p.reason = some .die) ∧
                  (x.die < s.cfg.limits.dieLimit → s.hotNotClear = true → p.reason = some .hot) ∧
                  (x.die < s.cfg.limits.dieLimit → s.hotNotClear = false → s.floor = none → p.reason = some .noFloor) ∧
                  (x.die < s.cfg.limits.dieLimit → s.hotNotClear = false → s.floor ≠ none → p.reason = none)))) ∧
      (p.allowed = false → p.selection = [] ∧ p.grant = 0 ∧ p.bleedSet = []) ∧ p.demand = p.selection.length ∧
      p.bleedSet = p.selection.take p.grant ∧
      (p.allowed = true → p.total ≤ s.cfg.shared.budget → p.grant = s.plan.advertised) ∧
      (p.allowed = true → s.cfg.shared.budget < p.total →
        p.grant = s.plan.advertised * s.cfg.shared.budget / p.total) ∧
      p.grant ≤ s.plan.advertised ∧
      (∀ x f, p.allowed = true → s.sweep.latest = some x → s.floor = some f →
        p.selection = selectCells (s.fittedCells.filterMap fun c => (x.cell c).bind fun v =>
          if f + s.cfg.shared.margin < v ∧ s.cfg.cells.bleedFloor < v then some (c, v) else none))

/-- The selection of any list of candidates in cell order holds only candidates and no two adjacent cells, and leaves out a
candidate only beside a selected neighbour; the candidate of the highest value, and among equals of the lowest cell number, is
taken first. -/
def Obligations.SelectionTakesNoNeighbours : Prop :=
  ∀ l : List (Nat × Nat), l.Pairwise (fun x y => x.1 < y.1) → (∀ x ∈ l, 1 ≤ x.1) →
    (∀ c ∈ selectCells l, c ∈ l.map Prod.fst) ∧ (selectCells l).Nodup ∧
      (∀ c ∈ selectCells l, c + 1 ∉ selectCells l) ∧
      (∀ x ∈ l, x.1 ∉ selectCells l → x.1 - 1 ∈ selectCells l ∨ x.1 + 1 ∈ selectCells l) ∧
      (∀ x ∈ l, (∀ y ∈ l, y.2 < x.2 ∨ y.2 = x.2 ∧ x.1 ≤ y.1) → (selectCells l).head? = some x.1)

/-! ## Roster and view -/

/-- The tally timer's expiry: the timer runs T_tally again; every entry but the own one ages by one where it was PRESENT or STALE,
becoming STALE from age 2 and LOST at age L with its summary and marks cleared and its remote holds purged; the expiries are counted up
to three, from the 0 of a start (SupplyStartGivesStartValues), and the third sets the join-complete flag and opens a JOIN station; from
join complete on the LINK hold stands exactly while a member of E is missing; a TALLY is queued when there is room. (Where in the event
the roster's holds are judged: log 12.) -/
def Obligations.TallyTimerExpiryAgesRoster : Prop :=
  ∀ s : State, s.roster.tallyTimer.isRunning = true →
    ∃ t, exec .tallyTimerExpiry s = .next t ∧ t.roster.tallyTimer = Timer.startMs s.cfg.shared.tallyPeriod ∧
      t.roster.entries = s.roster.entries.map (fun e =>
        if e.address = s.own ∨ e.state = .vacant ∨ e.state = .lost then e
        else if s.cfg.shared.lostAge ≤ e.age + 1 then
          { e with state := .lost, age := s.cfg.shared.lostAge, summary := none, recallPending := false, confirmed := false }
        else if e.age + 1 < 2 then { e with state := .present, age := e.age + 1 }
        else { e with state := .stale, age := e.age + 1 }) ∧
      (∀ e ∈ t.roster.entries, e.address ≠ s.own → e.state = .lost →
        (∀ d ∈ s.roster.entries, d.address = e.address → d.state = .present ∨ d.state = .stale) →
          ∀ r ∈ t.holds.remote, r.origin ≠ e.address) ∧
      t.roster.expiries = min 3 (s.roster.expiries + 1) ∧
      t.roster.joinComplete = (s.roster.joinComplete || decide (s.roster.expiries = 2)) ∧
      (s.roster.expiries = 2 → s.ballot.mode = .join → t.ballot.mode = .opened) ∧
      (t.roster.joinComplete = true → (t.stands .link = true ↔ t.missing ≠ [])) ∧
      (s.link.mute = false → s.link.queue.length + 2 ≤ queueCapacity → Queued t .tally) ∧
      t.plan.advertised = s.plan.advertised ∧ t.sweep = s.sweep ∧ t.lockout = s.lockout ∧ t.orders = s.orders

/-- Every valid frame from another address, whatever its kind, makes the sender's entry PRESENT with age 0 and makes the sender the last
sender; the line falls quiet when nothing of the station's own is on it. For an ANSWER that is all but the roster's two holds and a
return. On the return of a station the remote holds of its address are purged before the owner acts, its recall pending is yes and a
RECALL to it is queued when there is room, unless its recall pending was yes before. After the arrival DISCORD stands exactly when its
condition is true, and from join complete on LINK exactly while a member of E is missing; who is missing, and what the DISCORD condition
is, are written out. A frame that is not valid changes neither
roster nor holds nor last sender; one taken in START only makes its sender the last sender. MODEL'S CHOICE: the medium stays BUSY while
the station's own frame is on the line (log 7); a frame command that no valid frame can be is discarded (log 8), a HOLD's detail and an
ANSWER's result byte being judged by R197's codes (log 9, log 10); DISCORD is judged after hearing and again at the end (`heardState`,
`judgeView`: log 11). -/
def Obligations.EveryFrameIsHeard : Prop :=
  (∀ s : State,
    let size := s.cfg.shared.size
    let differs := fun (e : RosterEntry) => (∃ t, e.summary = some t ∧ t.digest ≠ s.startup.digest) ∨
      e.summary = none ∧ ∃ x, e.announced = some x ∧ x.digest ≠ s.startup.digest
    (∀ m, m ∈ s.missing ↔ ∃ e ∈ s.roster.entries, e.address = m ∧
      ((1 ≤ m ∧ m ≤ size) ∨ (m = 0 ∧ s.cfg.shared.gatewayRequired = true)) ∧
        (e.state = .lost ∨ s.roster.joinComplete = true ∧ e.state = .vacant)) ∧
      (s.discord = true ↔ size < s.own ∨ ∃ e ∈ s.roster.entries, e.address ≠ s.own ∧
        (e.state = .present ∨ e.state = .stale) ∧ (differs e ∨ size < e.address))) ∧
  ∀ (a : Nat) (b : Body) (s : State),
    (frameValid a b = true → TakesFrom s a → RosterShaped s →
      ∃ t, exec (b.command a) s = .next t ∧ (t.entry a).state = .present ∧ (t.entry a).age = 0 ∧
        t.link.lastSender = a ∧ (s.link.sending = none → t.link.medium = .idle) ∧
        (∀ p, b = .answer p → t.holds = (judgeView (heardState a s)).holds ∧
          t.roster = (heardState a s).roster ∧ t.ballot.highest = s.ballot.highest) ∧
        (t.stands .discord = true ↔ t.discord = true) ∧
        (t.roster.joinComplete = true → (t.stands .link = true ↔ t.missing ≠ [])) ∧
        ((s.entry a).state = .vacant ∨ (s.entry a).state = .lost → 1 ≤ a → a ≠ s.own → (s.entry a).recallPending = false →
          (t.entry a).recallPending = true ∧ (HasRoom s → Queued t (.recall a)) ∧
            (∀ r ∈ (heardState a s).holds.remote, r.origin ≠ a) ∧
            ∀ r ∈ t.holds.remote, r.origin = a → b = .hold r.serial r.cause r.index r.detail)) ∧
      (frameValid a b = false ∨ s.ballot.mode = .start ∧ ¬(s.addressed = true ∧ a = s.own) →
        ∃ t, exec (b.command a) s = .next t ∧ t.roster = s.roster ∧ t.holds = s.holds ∧ t.ballot.mode = s.ballot.mode ∧
          t.switch = s.switch ∧ t.link.queue = s.link.queue ∧
          t.link.lastSender = (if frameValid a b = true then a else s.link.lastSender))

/-- A TALLY taken: the summary becomes its content; a recall pending before the arrival is cleared; tally reconciliation runs on the
state after hearing with the field as it stood then (`heardState`: log 11), and a RECALL that it asks for is queued when there is room;
its ballot becomes the highest ballot seen when it supersedes that, and a PLEDGED or CLOSED station then leaves its own (`LeftFor`); in
CLOSED a member's TALLY showing another mode or ballot (a PLEDGED showing the closed ballot apart) breaks the closure. With the roster
having nothing to raise, a CLOSED TALLY of the closed ballot, not superseded, confirms the member, a PLEDGED one showing the closed
ballot leaves its confirmation, and the station stays CLOSED. -/
def Obligations.TallyTaken : Prop :=
  ∀ (a : Nat) (c : Summary) (s : State), frameValid a (.tally c) = true → TakesFrom s a → RosterShaped s →
    let u := heardState a s
    let pending := (u.entry a).recallPending
    let count := (u.holds.remote.filter fun r => decide (r.origin = a)).length
    ∃ t, exec (.tally a c) s = .next t ∧ (t.entry a).summary = some c ∧
      ((s.entry a).recallPending = true → (t.entry a).recallPending = false) ∧
      t.holds.remote = (reconcile a c.holdCount pending u).holds.remote ∧
      ((s.entry a).recallPending = false →
        (t.entry a).recallPending = ((reconcile a c.holdCount pending u).entry a).recallPending) ∧
      (c.holdCount ≠ 0 → c.holdCount ≠ count → pending = false → 1 ≤ a → HasRoom s → Queued t (.recall a)) ∧
      t.ballot.highest = (if s.wouldReplace c.ballot = true then c.ballot else s.ballot.highest) ∧
      (BallotRecordLegal s → s.wouldReplace c.ballot = true → LeftFor s t c.ballot) ∧
      (s.ballot.mode = .closed → s.isMember a = true → s.ballot.current ≠ some c.ballot → t.ballot.mode = .opened) ∧
      (s.ballot.mode = .closed → s.isMember a = true → c.mode = .join ∨ c.mode = .opened → t.ballot.mode = .opened) ∧
      (s.ballot.mode = .closed → s.isMember a = true → s.ballot.current = some c.ballot → s.wouldReplace c.ballot = false →
        ClearView u → c.digest = s.startup.digest →
          (c.mode = .closed → t.ballot.mode = .closed ∧ t.ballot.current = s.ballot.current ∧ (t.entry a).confirmed = true) ∧
            (c.mode = .pledged → t.ballot.mode = .closed ∧ t.ballot.current = s.ballot.current ∧
              (t.entry a).confirmed = (s.entry a).confirmed))

/-- Tally reconciliation, by the cases of hold count n against the c records of the origin; a purge removes just the origin's records. -/
def Obligations.TallyReconciliation : Prop :=
  ∀ (p n : Nat) (pending : Bool) (s : State),
    let c := (s.holds.remote.filter fun r => decide (r.origin = p)).length
    (purge p s).holds.remote = s.holds.remote.filter (fun r => decide (r.origin ≠ p)) ∧
    (n = c → reconcile p n pending s = s) ∧
      (n = 0 → c ≠ 0 → reconcile p n pending s = purge p s) ∧
      (n ≠ 0 → n ≠ c → pending = true → reconcile p n pending s = s) ∧
      (n ≠ 0 → n ≠ c → p = 0 ∨ p = s.own → reconcile p n pending s = s) ∧
      (n ≠ 0 → n ≠ c → 1 ≤ p → p ≤ 24 → p ≠ s.own → RosterShaped s → (s.entry p).recallPending = false →
        ((reconcile p n false s).entry p).recallPending = true ∧
          (∀ r ∈ (reconcile p n false s).holds.remote, r.origin ≠ p) ∧
          (HasRoom s → Queued (reconcile p n false s) (.recall p)))

/-- An ANNOUNCE taken: the summary is absent and the confirmation cleared, the announce data is the frame's, no remote hold of the
sender is left, a TALLY is queued when there is room, and for a member of E a CLOSED station breaks. -/
def Obligations.AnnounceTaken : Prop :=
  ∀ (a : Nat) (d : AnnounceData) (s : State), frameValid a (.announce d) = true → TakesFrom s a → RosterShaped s →
    ∃ t, exec (.announce a d) s = .next t ∧ (t.entry a).summary = none ∧ (t.entry a).confirmed = false ∧
      (t.entry a).announced = some d ∧ (∀ r ∈ t.holds.remote, r.origin ≠ a) ∧
      (s.isExpected a = true → t.ballot.mode ≠ .closed) ∧ (HasRoom s → Queued t .tally) ∧
      t.ballot.highest = s.ballot.highest

/-! ## Remote holds -/

/-- A HOLD frame taken: the record of its origin and serial is replaced in place; else it is appended while the table has room; else it
is not stored: then a RECALL is requested of a station whose recall pending is no (its records are purged, the field becomes yes, and
the RECALL is queued when there is room), and otherwise the table stays as it was. In every case a PLEDGED or CLOSED station leaves its
ballot. -/
def Obligations.HoldFrameTaken : Prop :=
  ∀ (a : Nat) (n : Byte) (c : Cause) (i : Option Nat) (d : Option Detail) (s : State),
    frameValid a (.hold n c i d) = true → TakesFrom s a →
      ∃ t, exec (.hold a n c i d) s = .next t ∧ t.ballot.mode ≠ .pledged ∧ t.ballot.mode ≠ .closed ∧
        (let u := heardState a s
         let old := u.holds.remote
         let asks := 1 ≤ a ∧ a ≠ s.own ∧ (u.entry a).recallPending = false
         let new : RemoteHold := ⟨a, n, c, i, d, s.now⟩
         ((∃ r ∈ old, r.origin = a ∧ r.serial = n) →
            t.holds.remote = old.map fun r => if r.origin = a ∧ r.serial = n then new else r) ∧
           ((∀ r ∈ old, ¬(r.origin = a ∧ r.serial = n)) → old.length < 48 → t.holds.remote = old ++ [new]) ∧
           ((∀ r ∈ old, ¬(r.origin = a ∧ r.serial = n)) → 48 ≤ old.length →
              (¬asks → t.holds.remote = old) ∧
                (asks → t.holds.remote = old.filter (fun r => decide (r.origin ≠ a)) ∧
                  (RosterShaped s → (t.entry a).recallPending = true) ∧ (HasRoom s → Queued t (.recall a)))))

/-- A LIFT frame removes the record of its origin and serial, if there is one, keeps the order of the rest and appends nothing. A RECALL
frame addressed to the station leaves a HOLD notice for every own hold in the notice list: to the HOLD notices it appends, in raise
order, one with replay yes for each serial that had none, and no other; where the list has room for all, the list as it was stays before
them; a MUTE station appends none; one addressed to another station changes no hold; the own holds are those of the hearing and the
judging of the roster's two holds (in a state whose LINK hold is in step with the missing set, an invariant: RosterStaysLegal). Neither,
taken by its owner, makes a station leave its ballot. (Before the owner acts the roster hears the sender and judges DISCORD, and after
it judges its two holds again: log 11.) -/
def Obligations.LiftAndRecallTaken : Prop :=
  ∀ (a p : Nat) (n : Byte) (s : State), TakesFrom s a → a ≤ 24 →
    (∃ t, exec (.lift a n) s = .next t ∧
      t.holds.remote = (heardState a s).holds.remote.filter (fun r => decide (¬(r.origin = a ∧ r.serial = n))) ∧
      t.ballot.mode = (judgeView (heardState a s)).ballot.mode ∧ t.holds.own = (judgeView (heardState a s)).holds.own) ∧
      (p ≤ 31 → ∃ t, exec (.recall a p) s = .next t ∧ t.holds = (judgeView (takeRecall p (heardState a s))).holds ∧
        t.holds.remote = (heardState a s).holds.remote ∧
        (LinkInStep s → t.holds.own = (judgeView (heardState a s)).holds.own) ∧
        t.ballot.mode = (judgeView (heardState a s)).ballot.mode) ∧
      (p ≠ s.own → takeRecall p s = s) ∧
      (s.link.mute = false → ∀ h ∈ s.holds.own,
        ∃ x ∈ (takeRecall s.own s).holds.notices, x.kind = .hold ∧ x.serial = h.serial) ∧
      (s.link.mute = true → takeRecall p s = s) ∧
      (s.link.mute = false →
        let ofHolds := fun (l : List Notice) => l.filter fun x => decide (x.kind = .hold)
        let noticed := fun (n : Byte) => ∃ x ∈ s.holds.notices, x.kind = .hold ∧ x.serial = n
        ∃ added, ofHolds (takeRecall s.own s).holds.notices = ofHolds s.holds.notices ++ added ∧
          (∀ x ∈ added, x.replay = true ∧ ¬noticed x.serial) ∧ (added.map fun x => x.serial).Nodup ∧
          (added.map fun x => x.serial).Sublist (s.holds.own.map fun h => h.serial) ∧
          (∀ h ∈ s.holds.own, ¬noticed h.serial → ∃ x ∈ added, x.serial = h.serial) ∧
          (s.holds.notices.length + s.holds.own.length ≤ 64 →
            (takeRecall s.own s).holds.notices = s.holds.notices ++ added))

/-! ## Own holds -/

/-- A raise request: a new key is appended under a serial that no own hold and no LIFT notice has, with the clock as raise time and a
HOLD notice with replay no (none in START or while MUTE), and a PLEDGED or CLOSED station leaves its ballot; the same key with the same
detail is ignored; with another detail the record's detail changes and no other hold, nothing is reported to the ballot unit, and a HOLD
notice with replay yes is appended where the list holds none for the serial (none in START or while MUTE). An appended notice goes to
the tail of the list as it was; of a list of 64 the oldest LIFT notice not on the line goes first. -/
def Obligations.RaiseRequest : Prop :=
  ∀ (c : Cause) (i : Option Nat) (d : Option Detail) (s : State),
    let kept := if s.holds.notices.length < 64 then s.holds.notices
      else s.holds.notices.eraseP fun n => decide (n.kind = .lift) && !s.link.onLine (.notice n.item)
    (s.ownHold c i = none →
      (raiseHold c i d s).holds.own = s.holds.own ++ [⟨s.holds.allocate, c, i, d, s.now⟩] ∧
        (raiseHold c i d s).holds.nextSerial = s.holds.allocate + 1 ∧
        (s.holds.own.length + s.holds.notices.length < 256 →
          (∀ x ∈ s.holds.own, x.serial ≠ s.holds.allocate) ∧
            (∀ n ∈ s.holds.notices, n.kind = .lift → n.serial ≠ s.holds.allocate) ∧
            ∀ k : Byte, k.toNat < (s.holds.allocate - s.holds.nextSerial).toNat →
              s.holds.nextSerial + k ∈ s.holds.usedSerials) ∧
        (raiseHold c i d s).ballot.mode ≠ .pledged ∧ (raiseHold c i d s).ballot.mode ≠ .closed ∧
        (s.ballot.mode = .start ∨ s.link.mute = true →
          (raiseHold c i d s).holds.notices = s.holds.notices) ∧
        (s.ballot.mode ≠ .start → s.link.mute = false →
          (raiseHold c i d s).holds.notices = kept ++ [⟨s.link.nextItem, .hold, s.holds.allocate, false⟩])) ∧
      (∀ h, s.ownHold c i = some h → h.detail = d → raiseHold c i d s = s) ∧
      (∀ h, s.ownHold c i = some h → h.detail ≠ d →
        (raiseHold c i d s).ballot = s.ballot ∧ (raiseHold c i d s).holds.own.map OwnHold.key = s.holds.own.map OwnHold.key ∧
          (raiseHold c i d s).holds.nextSerial = s.holds.nextSerial ∧
          (∀ e j, (e, j) ≠ (c, i) → (raiseHold c i d s).ownHold e j = s.ownHold e j) ∧
          (s.holdNotice h.serial ≠ none ∨ s.ballot.mode = .start ∨ s.link.mute = true →
            (raiseHold c i d s).holds.notices = s.holds.notices) ∧
          (s.holdNotice h.serial = none → s.ballot.mode ≠ .start → s.link.mute = false →
            (raiseHold c i d s).holds.notices = kept ++ [⟨s.link.nextItem, .hold, h.serial, true⟩]) ∧
          ∃ g, (raiseHold c i d s).ownHold c i = some g ∧ g.detail = d ∧ g.serial = h.serial ∧ g.raised = h.raised)

/-- A lift request removes the key and keeps the order of the rest; of the ballot record only the settle timer, which follows
readiness, can change. With no HOLD notice for the serial a LIFT notice is appended; with one on the line
too, and the HOLD notice stays; one not on the line is removed, without a LIFT notice where its replay is no (a hold never
announced), with one where it is yes. In START and while MUTE no LIFT notice is appended. An appended notice goes to the tail and every
other notice is kept, but of a list of 64 the oldest LIFT notice not on the line goes first. -/
def Obligations.LiftRequest : Prop :=
  ∀ (c : Cause) (i : Option Nat) (s : State),
    (s.ownHold c i = none → liftHold c i s = s) ∧
      (∀ h, s.ownHold c i = some h →
        let t := liftHold c i s
        let kept := fun (l : List Notice) => if l.length < 64 then l
          else l.eraseP fun n => decide (n.kind = .lift) && !s.link.onLine (.notice n.item)
        let lifted := fun (l : List Notice) =>
          (s.ballot.mode = .start ∨ s.link.mute = true → t.holds.notices = l) ∧
            (s.ballot.mode ≠ .start → s.link.mute = false →
              t.holds.notices = kept l ++ [⟨s.link.nextItem, .lift, h.serial, false⟩])
        t.holds.own = s.holds.own.filter (fun x => decide (¬(x.cause = c ∧ x.index = i))) ∧
          t.ballot = { s.ballot with settle := t.ballot.settle } ∧
          (s.holdNotice h.serial = none → lifted s.holds.notices) ∧
          ∀ x, s.holdNotice h.serial = some x →
            (s.link.onLine (.notice x.item) = true → lifted s.holds.notices) ∧
              (s.link.onLine (.notice x.item) = false → x.replay = false →
                t.holds.notices = s.holds.notices.filter fun n => decide (n.item ≠ x.item)) ∧
              (s.link.onLine (.notice x.item) = false → x.replay = true →
                lifted (s.holds.notices.filter fun n => decide (n.item ≠ x.item))))

/-! ## Ballots -/

/-- A ballot (e1, p1) supersedes (e2, p2) when e1 is greater, or the epochs are equal and p1 is less; every ballot supersedes
(0, none); none supersedes itself; of two different ballots exactly one supersedes the other. -/
def Obligations.Supersedes : Prop :=
  ∀ x y : Ballot,
    (supersedes x y = true ↔ y.epoch < x.epoch ∨ x.epoch = y.epoch ∧ x.proposer < y.proposer) ∧
      (realBallot x = true → supersedes x Ballot.none = true) ∧ supersedes x x = false ∧
      (x ≠ y → (supersedes x y = true ↔ supersedes y x = false))

/-- From one start to the next the highest ballot seen changes only to a ballot that supersedes it. A ballot offered replaces it exactly
when its epoch is not 0, its proposer lies from 1 to 24 and it supersedes it (what `wouldReplace` says in the claims about frames). -/
def Obligations.HighestBallotNeverFallsBack : Prop :=
  (∀ (c : Instr) (s t : State), exec c s = .next t →
    t.ballot.highest = s.ballot.highest ∨ supersedes t.ballot.highest s.ballot.highest = true ∨ t.ballot.mode = .start) ∧
  ∀ (s : State) (b : Ballot), s.wouldReplace b = true ↔
    1 ≤ b.epoch ∧ (1 ≤ b.proposer ∧ b.proposer ≤ 24) ∧ supersedes b s.ballot.highest = true

/-- The settle timer follows readiness: after every command it is stopped unless the station is ready; a station that turns ready
under AUTO has it started with the settle time, and under ORDERED it is left as it stands. A station that stays ready keeps it as it is:
through a command whose event changes no input of readiness, and through any TALLY of a PRESENT sender that shows the station a clear,
OPEN string and no superseding ballot (on a state without discord, as a ready station's is). Ready is just the ten conditions of R53,
in their order. -/
def Obligations.SettleTimerFollowsReadiness : Prop :=
  (∀ s : State,
    let member := fun (e : RosterEntry) => 1 ≤ e.address ∧ e.address ≤ s.cfg.shared.size
    (s.ready = true ↔
      s.ballot.mode = .opened ∧ s.holds.own = [] ∧ s.holds.remote = [] ∧ s.missing = [] ∧
        (∀ e ∈ s.roster.entries, member e ∨ e.address = 0 ∧ s.cfg.shared.gatewayRequired = true → e.state = .present) ∧
        ((s.entry s.own).summary ≠ none ∧ ∀ e ∈ s.roster.entries, e.state = .present → ∀ x, e.summary = some x →
          x.holdCount = 0 ∧ x.lockoutSerial = 0) ∧
        (∀ e ∈ s.roster.entries, e.state = .present → (∀ x, e.summary = some x → x.digest = s.startup.digest) ∧
          (e.summary = none → ∀ x, e.announced = some x → x.digest = s.startup.digest)) ∧
        (∀ e ∈ s.roster.entries, member e → e.address ≠ s.own → ∃ x, e.summary = some x ∧ x.mode = .opened) ∧
        (∀ e ∈ s.roster.entries, s.cfg.shared.size < e.address → e.state = .vacant ∨ e.state = .lost) ∧
        s.ballot.highest.epoch < 4294967295)) ∧
  (∀ (s : State) (l : SwitchPos) (o : WriteOutcome), s.ready = true →
    ∀ c ∈ [Instr.frameStart, .discardedFrame, .sweepTimerExpiry, .feedbackChange l, .accessWaitExpiry, .activeWriteCompletion o,
        .configWriteCompletion o],
      ∃ t, exec c s = .next t ∧ t.ready = true ∧ t.ballot.settle = s.ballot.settle) ∧
  (∀ (a : Nat) (x : Summary) (s : State), frameValid a (.tally x) = true → TakesFrom s a → RosterShaped s → s.ready = true →
    s.discord = false → (s.entry a).state = .present → a ≤ s.size → x.mode = .opened → x.holdCount = 0 → x.lockoutSerial = 0 →
      x.digest = s.startup.digest → s.wouldReplace x.ballot = false →
        ∃ t, exec (.tally a x) s = .next t ∧ t.ready = true ∧ t.ballot.settle = s.ballot.settle) ∧
  ∀ (c : Instr) (s t : State), exec c s = .next t →
    (t.ready = false → t.ballot.settle = .stopped) ∧
      (s.ready = false → t.ready = true → t.cfg.shared.policy = .auto →
        t.ballot.settle = Timer.startMs t.cfg.shared.settleTime) ∧
      (s.ready = false → t.ready = true → t.cfg.shared.policy = .ordered → s.ballot.settle = .stopped →
        t.ballot.settle = .stopped)

/-- The settle timer's expiry under AUTO: a ready duty station proposes the next epoch under its own address and is PLEDGED as its
PROPOSER with its own vote and T_prop running; a ready station without duty does nothing but stop the timer; a station that is
not ready does not propose. -/
def Obligations.SettleExpiryProposesOnDuty : Prop :=
  ∀ s : State, s.ballot.settle.isRunning = true →
    ∃ t, exec .settleTimerExpiry s = .next t ∧ t.ballot.settle = .stopped ∧
      (s.cfg.shared.policy = .auto → s.ready = true → s.addressed = true →
        s.ballot.highest.epoch % s.size + 1 = s.own →
          t.ballot.mode = .pledged ∧ t.ballot.current = some ⟨s.ballot.highest.epoch + 1, s.own⟩ ∧
            t.ballot.role = .proposer ∧ t.ballot.votes = [s.own] ∧ t.ballot.commitClaimed = false ∧
            t.ballot.highest = ⟨s.ballot.highest.epoch + 1, s.own⟩ ∧
            t.ballot.proposal = Timer.startMs s.cfg.shared.proposalTime ∧
            (HasRoom s → Queued t (.propose ⟨s.ballot.highest.epoch + 1, s.own⟩ s.size s.startup.digest))) ∧
      (s.ready = false ∨ s.cfg.shared.policy = .ordered ∨ s.ballot.highest.epoch % s.size + 1 ≠ s.own →
        t.ballot.mode = s.ballot.mode ∧ t.ballot.current = s.ballot.current ∧ t.ballot.highest = s.ballot.highest ∧
          t.link.queue = s.link.queue) ∧
      t.holds = s.holds ∧ t.roster = s.roster ∧ t.plan = s.plan

/-- How ballots end. The proposal timer's expiry and a DEMUR of the current ballot, whatever its reason and sender, make the proposer
leave with a WITHDRAW; the pledge timer's expiry and a WITHDRAW of the current ballot make the voter leave; a WITHDRAW of the
closed ballot, and the confirm timer's expiry with a member unconfirmed, break a CLOSED station; with every member confirmed
it stays CLOSED. A DEMUR or WITHDRAW of a superseding ballot makes a PLEDGED or CLOSED station leave its own (`LeftFor`). -/
def Obligations.BallotsEnd : Prop :=
  (∀ (a : Nat) (b : Ballot) (s : State), TakesFrom s a → BallotRecordLegal s → s.wouldReplace b = true →
    (∀ r, frameValid a (.demur b r) = true → ∃ t, exec (.demur a b r) s = .next t ∧ LeftFor s t b) ∧
      (frameValid a (.withdraw b) = true → ∃ t, exec (.withdraw a b) s = .next t ∧ LeftFor s t b)) ∧
  ∀ (s : State) (b : Ballot), s.ballot.current = some b →
    let left := fun (t : State) => t.ballot.mode = .opened ∧ t.ballot.current = none ∧ t.ballot.role = .none
    (s.ballot.mode = .pledged → s.ballot.role = .proposer →
      (s.ballot.proposal.isRunning = true → ∃ t, exec .proposalTimerExpiry s = .next t ∧ left t ∧
        t.ballot.votes = [] ∧ t.ballot.commitClaimed = false ∧ t.ballot.proposal = .stopped ∧
        t.ballot.highest = s.ballot.highest ∧ (HasRoom s → Queued t (.withdraw b))) ∧
        ∀ a r, frameValid a (.demur b r) = true → TakesFrom s a → ∃ t, exec (.demur a b r) s = .next t ∧ left t ∧
          t.ballot.votes = [] ∧ t.ballot.commitClaimed = false ∧ t.ballot.proposal = .stopped ∧
          (HasRoom s → Queued t (.withdraw b))) ∧
      (s.ballot.mode = .pledged → s.ballot.role = .voter →
        (s.ballot.pledge.isRunning = true → ∃ t, exec .pledgeTimerExpiry s = .next t ∧ left t ∧
          t.ballot.pledge = .stopped ∧ t.ballot.highest = s.ballot.highest ∧ t.link.queue = s.link.queue) ∧
          ∀ a, frameValid a (.withdraw b) = true → TakesFrom s a → ∃ t, exec (.withdraw a b) s = .next t ∧ left t ∧
            t.ballot.pledge = .stopped) ∧
      (s.ballot.mode = .closed →
        (∀ a, frameValid a (.withdraw b) = true → TakesFrom s a → ∃ t, exec (.withdraw a b) s = .next t ∧ left t ∧
          t.ballot.confirm = .stopped ∧ (SwitchFollowsMode s → t.switch.command = .opened)) ∧
          (s.ballot.confirm.isRunning = true → ∃ t, exec .confirmTimerExpiry s = .next t ∧ t.ballot.confirm = .stopped ∧
            ((∃ e ∈ s.roster.entries, s.isMember e.address = true ∧ e.confirmed = false) → left t) ∧
            ((∀ e ∈ s.roster.entries, s.isMember e.address = true → e.confirmed = true) →
              t.ballot.mode = .closed ∧ t.ballot.current = some b ∧ t.switch = s.switch)))

/-- A PROPOSE taken whose ballot replaces the highest ballot seen: a PLEDGED or CLOSED station has left its own ballot by the offer
(`LeftFor`), with its switch commanded open; a station that is OPEN after the offer, with no hold anywhere, no
member missing and the proposal's S and digest its own, assents and is PLEDGED as VOTER with twice T_prop running; otherwise it
claims a DEMUR with the first reason that applies and keeps its mode. A PROPOSE that does not replace gets no vote; one whose ballot's
proposer is not its sender is heard, and its ballot is not offered. (The owner acts after hearing and DISCORD's judgement:
log 11.) -/
def Obligations.ProposeTaken : Prop :=
  ∀ (a : Nat) (b : Ballot) (n : Nat) (d : Digest) (s : State),
    frameValid a (.propose b n d) = true → TakesFrom s a → BallotRecordLegal s → RosterShaped s →
      ∃ t, exec (.propose a b n d) s = .next t ∧ (t.entry a).state = .present ∧
        (b.proposer ≠ a ∨ s.wouldReplace b = false → t.ballot.mode = (judgeView (heardState a s)).ballot.mode ∧
          t.ballot.highest = s.ballot.highest ∧ t.ballot.current = (judgeView (heardState a s)).ballot.current ∧
          t.link.queue = (judgeView (heardState a s)).link.queue) ∧
        (b.proposer = a → s.wouldReplace b = true → t.ballot.highest = b ∧
          (SwitchFollowsMode s → t.switch.command = .opened) ∧
          (s.ballot.mode = .pledged → s.ballot.role = .proposer → ∀ x, s.ballot.current = some x →
            HasRoom s → Queued t (.withdraw x)) ∧
          (let u := offer b (heardState a s)
           let assents := u.ballot.mode = .opened ∧ u.holds.own = [] ∧ u.holds.remote = [] ∧ u.missing = [] ∧
             n = u.size ∧ d = u.startup.digest
           LeftFor s u b ∧ (assents →
              t.ballot.mode = .pledged ∧ t.ballot.role = .voter ∧ t.ballot.current = some b ∧
                t.ballot.pledge = Timer.startMs (2 * s.cfg.shared.proposalTime) ∧
                (HasRoom s → Queued t (.assent b))) ∧
             (¬assents →
                t.ballot.mode = u.ballot.mode ∧
                  (HasRoom s → Queued t (.demur b
                    (if u.ballot.mode = .join then .joining
                      else if u.holds.own ≠ [] ∨ u.holds.remote ≠ [] then .holds
                      else if u.missing ≠ [] ∨ n ≠ u.size then .membership
                      else .digest))))))

/-- An ASSENT for the proposer's ballot adds a member sender to the vote set, and a set of all members claims the COMMIT; an ASSENT
met by a station that is not its proposer changes neither. (The roster having nothing to raise.)
An ASSENT of a superseding ballot makes a PLEDGED or CLOSED station leave its own (`LeftFor`). -/
def Obligations.AssentTaken : Prop :=
  (∀ (a : Nat) (b : Ballot) (s : State), frameValid a (.assent b) = true → TakesFrom s a → BallotRecordLegal s →
    s.wouldReplace b = true → ∃ t, exec (.assent a b) s = .next t ∧ LeftFor s t b) ∧
  ∀ (a : Nat) (b : Ballot) (s : State), frameValid a (.assent b) = true → TakesFrom s a → s.wouldReplace b = false →
    ClearView (heardState a s) →
      ∃ t, exec (.assent a b) s = .next t ∧
        (s.isPledged .proposer b = true →
          t.ballot.mode = .pledged ∧ t.ballot.role = .proposer ∧ t.ballot.current = some b ∧
            t.ballot.proposal = s.ballot.proposal ∧
            (s.isMember a = true → ∀ m, m ∈ t.ballot.votes ↔ s.isMember m = true ∧ m ≤ 24 ∧ (m = a ∨ m ∈ s.ballot.votes)) ∧
            (s.isMember a = false → t.ballot.votes = s.ballot.votes) ∧
            (t.votesComplete = true ↔ ∀ m, m ≤ 24 → 1 ≤ m → m ≤ s.cfg.shared.size → m ∈ t.ballot.votes) ∧
            (t.votesComplete = true → t.ballot.commitClaimed = true) ∧
            (t.votesComplete = true → s.ballot.commitClaimed = false → HasRoom s → Queued t (.commit b))) ∧
        (s.isPledged .proposer b = false →
          t.ballot.votes = s.ballot.votes ∧ t.ballot.commitClaimed = s.ballot.commitClaimed ∧
            t.ballot.mode = s.ballot.mode)

/-- A COMMIT for the current ballot closes a voter: the role is NONE, the pledge timer is stopped, every member's confirmation is
cleared, the confirm timer runs 3 T_tally, and the switch is commanded CLOSED with a check of cause COMMAND. (No hold anywhere,
the roster having nothing to raise.) A COMMIT that is not for a voter's current ballot closes nothing, and one of a superseding
ballot makes a PLEDGED or CLOSED station leave its own (`LeftFor`). -/
def Obligations.CommitTaken : Prop :=
  ∀ (a : Nat) (b : Ballot) (s : State), frameValid a (.commit b) = true → TakesFrom s a → BallotRecordLegal s →
    ∃ t, exec (.commit a b) s = .next t ∧ (s.wouldReplace b = true → LeftFor s t b) ∧
      (s.isPledged .voter b = true → s.wouldReplace b = false → SwitchFollowsMode s →
        ClearView (heardState a s) → (heardState a s).holds.own = [] → (heardState a s).holds.remote = [] →
          t.ballot.mode = .closed ∧ t.ballot.current = some b ∧ t.ballot.role = .none ∧ t.ballot.pledge = .stopped ∧
            t.ballot.confirm = Timer.startMs (3 * s.cfg.shared.tallyPeriod) ∧
            (∀ e ∈ t.roster.entries, s.isMember e.address = true → e.confirmed = false) ∧
            t.switch.command = .closed ∧ ∃ c, t.switch.check = some c ∧ c.cause = .command) ∧
      (s.isPledged .voter b = false → s.ballot.mode ≠ .closed → SwitchFollowsMode s →
        t.ballot.mode ≠ .closed ∧ t.switch.command = .opened)

/-! ## Switch -/

/-- A change of the feedback input is taken at a valid strap address: the field takes the level; a stopped check starts with cause
FEEDBACK and the settle time in use, a running one begins its own length again (log 15) with its cause kept. The check's expiry stops it
and judges the switch: agreement raises nothing; CLOSED against OPEN raises SWITCH with NO-CLOSE or DROPPED by the cause; OPEN
against CLOSED raises WELDED and asks for a lockout, which begins when none is active. -/
def Obligations.SwitchEventsJudgeSwitch : Prop :=
  ∀ s : State,
    (∀ l, s.addressed = true → l ≠ s.switch.feedback →
      ∃ t, exec (.feedbackChange l) s = .next t ∧ t.switch.feedback = l ∧ t.switch.command = s.switch.command ∧
        (s.switch.check = none → t.switch.check = some ⟨.feedback, Timer.startMs s.cfg.limits.switchSettle⟩) ∧
        (∀ c n left, s.switch.check = some ⟨c, .running n left⟩ → t.switch.check = some ⟨c, .running n n⟩) ∧
        t.ballot.mode = s.ballot.mode ∧ t.link.queue = s.link.queue) ∧
      ∀ k, s.switch.check = some k →
        ∃ t, exec .settleCheckExpiry s = .next t ∧
          (s.switch.command = s.switch.feedback →
            t.switch = { s.switch with check := none } ∧ t.holds = s.holds ∧ t.lockout = s.lockout ∧
              t.ballot.mode = s.ballot.mode) ∧
          (s.switch.command = .closed → s.switch.feedback = .opened →
            (∃ h, t.ownHold .switch none = some h ∧
              h.detail = some (.switch (if k.cause = .command then .noClose else .dropped))) ∧ t.lockout = s.lockout ∧
              (s.ownHold .switch none = none → t.ballot.mode ≠ .pledged ∧ t.ballot.mode ≠ .closed)) ∧
          (s.switch.command = .opened → s.switch.feedback = .closed →
            (∃ h, t.ownHold .switch none = some h ∧ h.detail = some (.switch .welded)) ∧
              (s.lockout.record.state = .none →
                t.lockout.record.state = .active ∧ t.lockout.record.cause = some .welded ∧
                  t.lockout.record.index = none ∧ t.stands .lockout = true) ∧
              (s.lockout.record.state = .active → t.lockout.record = s.lockout.record))

/-- CLEAR-SWITCH targeted at the station: DONE with nothing changed when no SWITCH hold stands; REFUSED(CONDITION) with the hold
standing while the command or the feedback is CLOSED; else the hold is lifted and the answer is DONE. It leaves the feedback and the
lockout record as they are. Each answer is remembered and its ANSWER queued when there is room. Sent to all stations it is ignored.
(Conditions are read after the roster has heard the gateway: log 11.) -/
def Obligations.ClearSwitchLiftsSwitchHold : Prop :=
  ∀ (s : State) (number : Byte) (target : Nat), TakesNewOrder s number target →
    (let u := heardState 0 s
     ∃ t, exec (.clearSwitch number target []) s = .next t ∧ t.lockout = s.lockout ∧
       t.switch.feedback = s.switch.feedback ∧
       (u.stands .switch = false → t.holds.own = (judgeView u).holds.own ∧
          AnsweredBy s t number .clearSwitch [number, 0x10#8]) ∧
       (u.stands .switch = true → u.switch.command = .closed ∨ u.switch.feedback = .closed →
          t.stands .switch = true ∧ AnsweredBy s t number .clearSwitch [number, 0x25#8]) ∧
       (u.stands .switch = true → u.switch.command = .opened → u.switch.feedback = .opened →
          t.stands .switch = false ∧ AnsweredBy s t number .clearSwitch [number, 0x10#8])) ∧
      (s.own ≠ 31 → ∃ t, exec (.clearSwitch number 31 []) s = .next t ∧ t.holds = (judgeView (heardState 0 s)).holds ∧
        t.orders = s.orders)

/-! ## Link -/

/-- The access wait of own address a after last sender l is 96 µs and 16 µs for each slot of the class's offset and of the rotation
(a - l - 1) mod 25: from 96 to 1280 µs; waits of one class of two addresses after one sender differ by at least one slot. -/
def Obligations.AccessWaitLengths : Prop :=
  ∀ (a b l : Nat) (c : AccessClass), a ≤ 24 → b ≤ 24 → l ≤ 24 →
    (∃ r, r ≤ 24 ∧ (l + 1 + r) % 25 = a ∧ waitTime a l c = 96 + (c.offset + r) * 16) ∧
      96 ≤ waitTime a l c ∧ waitTime a l c ≤ 1280 ∧
      (a ≠ b → waitTime a l c + 16 ≤ waitTime b l c ∨ waitTime b l c + 16 ≤ waitTime a l c) ∧
      AccessClass.urgent.offset = 0 ∧ AccessClass.vote.offset = 25 ∧ AccessClass.routine.offset = 50

/-- A frame start heard makes the medium BUSY and stops the wait. The end of a discarded frame makes it IDLE, keeps the last sender,
and, past START and not MUTE, starts a wait of the pending class when something is pending: URGENT with the ANNOUNCE or a notice
pending, else the class of the first queued frame. -/
def Obligations.FrameStartAndFrameEnd : Prop :=
  ∀ s : State,
    (∃ t, exec .frameStart s = .next t ∧ t.link.medium = .busy ∧ t.link.wait = none ∧
      t.link.lastSender = s.link.lastSender ∧ t.link.queue = s.link.queue ∧ t.holds = s.holds ∧ t.roster = s.roster) ∧
      (s.link.sending = none →
        ∃ t, exec .discardedFrame s = .next t ∧ t.link.medium = .idle ∧ t.link.lastSender = s.link.lastSender ∧
          t.link.queue = s.link.queue ∧ t.holds = s.holds ∧ t.roster = s.roster ∧
          (s.ballot.mode = .start ∨ s.link.mute = true → t.link.wait = none) ∧
          (s.ballot.mode ≠ .start → s.link.mute = false →
            t.link.wait = s.pendingClass.map fun c => ⟨c, waitTime s.own s.link.lastSender c⟩) ∧
          s.pendingClass = (if s.link.announceFlag = true ∨ s.holds.notices ≠ [] then some .urgent
            else s.link.queue.head?.map fun q => q.claim.cls))

/-- The access wait's expiry stops the wait and puts the next item on the line: the ANNOUNCE, else the oldest notice, else the first
queued frame, whatever its claim, built of its source as it stands, with the own address in its sender field; the medium is then BUSY.
When nothing is pending nothing is sent. The content of the station's own TALLY is, field by field, that of the blocks as they stand
then: the least and the greatest of the fitted valid cells, the higher of the valid thermistors, the demand of the plan. -/
def Obligations.AccessWaitExpirySends : Prop :=
  (∀ s : State, ∃ lo hi sum hot, s.ownTally = ⟨s.ballot.mode, s.holds.own.length,
        if s.lockout.record.state = .active then s.lockout.record.serial else 0, s.ballot.highest, s.startup.digest, lo, hi, sum, hot,
        s.plan.demand, s.plan.bleedSet.length, (s.roster.entries.filter fun e => decide (e.state = .present ∨ e.state = .stale)).length,
        s.plan.paused,
        decide (s.startup.config.map (fun c => c.source) = some .defaults)⟩ ∧
      ∀ x, s.sweep.latest = some x →
        let valid := s.fittedCells.filterMap x.cell
        (lo = none ↔ valid = []) ∧ (hi = none ↔ valid = []) ∧ (∀ v, lo = some v → v ∈ valid ∧ ∀ c ∈ valid, v ≤ c) ∧
          (∀ v, hi = some v → v ∈ valid ∧ ∀ c ∈ valid, c ≤ v) ∧ sum = some x.moduleSum ∧
          (∀ a, x.t1 = some a → ∀ b, x.t2 = some b → hot = some (max a b)) ∧ (x.t1 = none → hot = x.t2) ∧
          (x.t2 = none → hot = x.t1)) ∧
  ∀ (s : State) (w : AccessWait), s.link.wait = some w → s.link.sending = none →
    ∃ t, exec .accessWaitExpiry s = .next t ∧ t.link.queue = s.link.queue ∧ t.holds = s.holds ∧ t.roster = s.roster ∧
      (∀ d, s.link.announceFlag = true → (s.entry s.own).announced = some d →
        t.link.sending = some ⟨.announce, s.own, .announce d⟩ ∧ t.link.medium = .busy ∧ t.link.wait = none) ∧
      (∀ n rest, s.link.announceFlag = false → s.holds.notices = n :: rest →
        (n.kind = .lift → t.link.sending = some ⟨.notice n.item, s.own, .lift n.serial⟩ ∧ t.link.medium = .busy ∧
          t.link.wait = none) ∧
          (∀ h, n.kind = .hold → s.ownHoldOfSerial n.serial = some h →
            t.link.sending = some ⟨.notice n.item, s.own, .hold h.serial h.cause h.index h.detail⟩ ∧ t.link.medium = .busy ∧
              t.link.wait = none)) ∧
      (∀ q rest, s.link.announceFlag = false → s.holds.notices = [] → s.link.queue = q :: rest →
        t.link.medium = .busy ∧ t.link.wait = none ∧ ∃ x, t.link.sending = some ⟨.queued q.item, s.own, x⟩ ∧
          (q.claim = .tally → x = .tally s.ownTally) ∧ (∀ p, q.claim = .recall p → x = .recall p) ∧
          (∀ b n d, q.claim = .propose b n d → x = .propose b n d) ∧ (∀ b, q.claim = .assent b → x = .assent b) ∧
          (∀ b r, q.claim = .demur b r → x = .demur b r) ∧ (∀ b, q.claim = .commit b → x = .commit b) ∧
          (∀ b, q.claim = .withdraw b → x = .withdraw b) ∧ (∀ p m, q.claim = .answer p m → x = .answer p)) ∧
      (s.link.announceFlag = false → s.holds.notices = [] → s.link.queue = [] →
        t.link.sending = none ∧ t.link.wait = none ∧ t.link.medium = s.link.medium)

/-- A successful send: the last sender is the own address, the medium IDLE, the count 0, nothing on the line, no SEND hold. The
owner's part: an ANNOUNCE clears the flag; a notice leaves the list, but for a HOLD notice whose record took another detail,
which stays with replay yes (said for the case that no SEND hold stood, whose lift has a notice of its own); a queued frame
leaves the queue; a sent COMMIT closes its proposer when no hold stands; the DUPLICATE hold's notice, while MUTE is pending,
brings MUTE, which empties queue and notices. (For an ANSWER with the restart mark see RestartStartsStation.) -/
def Obligations.SendCompletionTaken : Prop :=
  ∀ (s : State) (x : Sending), s.link.sending = some x → s.sendsRestart x = false →
    ∃ t, exec .sendCompletion s = .next t ∧ t.link.lastSender = s.own ∧ t.link.medium = .idle ∧ t.link.attempts = 0 ∧
      t.link.counted = none ∧ t.link.sending = none ∧ t.stands .send = false ∧
      (x.item = .announce → t.link.announceFlag = false) ∧
      (∀ n, x.item = .notice n → ∀ k, s.noticeOf n = some k → s.stands .send = false → x.isDuplicateNotice = false →
        (k.kind = .lift ∨ s.ownHoldOfSerial k.serial = none ∨
            (∃ h, s.ownHoldOfSerial k.serial = some h ∧ h.detail = x.body.detail) →
          t.holds.notices = s.holds.notices.filter fun y => decide (y.item ≠ n)) ∧
          (∀ h, k.kind = .hold → s.ownHoldOfSerial k.serial = some h → h.detail ≠ x.body.detail →
            t.holds.notices = s.holds.notices.map fun y => if y.item = n then { y with replay := true } else y)) ∧
      (∀ n, x.item = .queued n → ∀ q ∈ t.link.queue, q ∈ s.link.queue ∧ q.item ≠ n ∨ ∃ b, q.claim = .withdraw b) ∧
      (∀ n, x.item = .queued n → ∀ b, x.body = .commit b → s.isPledged .proposer b = true → s.holds.own = [] →
        s.holds.remote = [] → t.ballot.mode = .closed ∧ t.ballot.current = some b ∧ t.ballot.role = .none) ∧
      (x.isDuplicateNotice = true → s.link.mutePending = true →
        t.link.mute = true ∧ t.link.queue = [] ∧ t.holds.notices = [] ∧ t.link.announceFlag = false)

/-- The own TALLY's successful send: the own summary becomes what was sent, the advertised demand becomes what it carried, and the plan
is recomputed on that: allowed or the first reason, floor, target, D, selection, demand, grant and bleed set as at a sweep's plan point
(PlanPointRecomputes), with the suspension left. A sent TALLY that does not show the closed ballot breaks a closed member. -/
def Obligations.OwnTallySent : Prop :=
  ∀ (s : State) (x : Sending), s.link.sending = some x → ∀ n, x.item = .queued n → ∀ c, x.body = .tally c →
    s.sendsRestart x = false → RosterShaped s → s.own ≤ 24 →
      ∃ t, exec .sendCompletion s = .next t ∧ (t.entry s.own).summary = some c ∧
        t.plan.advertised = c.advertisedDemand ∧ t.plan.floor = t.floor ∧ t.plan.total = t.totalDemand ∧
        t.plan = { (sweepPlanPoint (t.setPlan { s.plan with advertised := c.advertisedDemand })).plan with
          suspended := s.plan.suspended } ∧ t.plan.demand = t.plan.selection.length ∧
        t.plan.bleedSet = t.plan.selection.take t.plan.grant ∧
        (s.ballot.mode = .closed → s.isMember s.own = true → s.ballot.current ≠ some c.ballot →
          t.ballot.mode = .opened) ∧
        (s.ballot.mode = .closed → s.isMember s.own = true → s.ballot.current = some c.ballot → c.mode = .closed →
          t.ballot.mode = .closed ∧ (t.entry s.own).confirmed = true)

/-- An aborted send: the item leaves the line and stays in its place, but for the HOLD notice of a hold lifted meanwhile, which is
removed; its failed attempts are counted, from 1 for an item not counted before; the 16th drops it and raises the SEND hold.
(The medium stays BUSY until the frame end: log 14.) -/
def Obligations.SendAbortCounts : Prop :=
  ∀ (s : State) (x : Sending), s.link.sending = some x →
    ∃ t, exec .sendAbort s = .next t ∧ t.link.sending = none ∧ t.link.medium = s.link.medium ∧
      t.link.lastSender = s.link.lastSender ∧
      (s.holdsItem x.item = false →
        t.link.attempts = 0 ∧ t.link.counted = none ∧ t.link.queue = s.link.queue ∧ t.holds = s.holds) ∧
      (∀ n, x.item = .notice n → ∀ k, s.noticeOf n = some k → k.kind = .hold → s.ownHoldOfSerial k.serial = none →
        t.holds.notices = s.holds.notices.filter (fun y => decide (y.item ≠ n)) ∧ t.holds.own = s.holds.own ∧
          t.link.attempts = 0 ∧ t.link.counted = none) ∧
      (s.holdsItem x.item = true →
        (∀ n, x.item = .notice n → ∀ k, s.noticeOf n = some k → k.kind = .hold → s.ownHoldOfSerial k.serial ≠ none) →
          let n := if s.link.counted = some x.item then s.link.attempts + 1 else 1
          (n < 16 → t.link.attempts = n ∧ t.link.counted = some x.item ∧ t.link.queue = s.link.queue ∧
            t.link.announceFlag = s.link.announceFlag ∧ t.holds = s.holds) ∧
            (16 ≤ n → t.link.attempts = 0 ∧ t.link.counted = none ∧ t.stands .send = true ∧
              (x.item = .announce → t.link.announceFlag = false) ∧
              (∀ k, x.item = .notice k → ∀ y ∈ t.holds.notices,
                y.item ≠ k ∧ (∃ z ∈ s.holds.notices, z.item = y.item) ∨ y.item = s.link.nextItem) ∧
              (∀ k, x.item = .queued k → ∀ q ∈ t.link.queue, q ∈ s.link.queue ∧ q.item ≠ k ∨ ∃ b, q.claim = .withdraw b)))

/-- A duplicate frame, with nothing of the station's own on the line and no DUPLICATE hold standing: the hold is raised; its notice is
moved to the head and MUTE is pending; in START, where the list holds no notice, MUTE is entered at once. With a DUPLICATE hold
standing no hold, no mode and no MUTE flag changes; the frame ends like any other. -/
def Obligations.DuplicateFrameTaken : Prop :=
  ∀ s : State, s.addressed = true → s.link.sending = none →
    ∃ t, exec .duplicateFrame s = .next t ∧ t.link.lastSender = s.own ∧ t.link.medium = .idle ∧
      t.stands .duplicate = true ∧
      (s.stands .duplicate = true → t.holds = s.holds ∧ t.link.mute = s.link.mute ∧ t.ballot.mode = s.ballot.mode) ∧
      (s.stands .duplicate = false → s.ballot.mode ≠ .start → s.link.mute = false →
        t.link.mutePending = true ∧ t.link.mute = false ∧ t.ballot.mode ≠ .pledged ∧ t.ballot.mode ≠ .closed ∧
          ∃ n, t.holds.notices.head? = some n ∧ n.kind = .hold ∧
            ∃ h, t.ownHold .duplicate none = some h ∧ h.serial = n.serial) ∧
      (s.stands .duplicate = false → s.ballot.mode = .start → s.holds.notices = [] →
        t.link.mute = true ∧ t.link.mutePending = false ∧ t.link.queue = [] ∧ t.link.announceFlag = false)

/-- A claim: discarded while MUTE; a TALLY coalesced with one already queued; with room a VOTE frame goes after the VOTE frames and
before the ROUTINE frames, a ROUTINE frame to the tail; on a full queue a ROUTINE claim is discarded and a VOTE claim takes the place of
the newest ROUTINE frame that is not on the line, if there is one, and the other frames keep their order. TALLY, RECALL and ANSWER are
ROUTINE, the ballot frames VOTE. -/
def Obligations.ClaimTakesItsPlace : Prop :=
  (∀ c : Claim, c.cls = match c with
    | .tally | .recall _ | .answer _ _ => AccessClass.routine
    | .propose _ _ _ | .assent _ | .demur _ _ | .commit _ | .withdraw _ => .vote) ∧
  ∀ (c : Claim) (s : State),
    (s.link.mute = true → claim c s = s) ∧
      (Queued s .tally → claim .tally s = s) ∧
      (s.link.mute = false → s.link.queue.length < 8 → (c = .tally → ¬Queued s .tally) → QueueLegal s →
        (claim c s).link.queue =
          (if c.cls = .vote then
            s.link.queue.filter isVote ++ ⟨s.link.nextItem, c⟩ :: s.link.queue.filter (fun q => !isVote q)
          else s.link.queue ++ [⟨s.link.nextItem, c⟩])) ∧
      (8 ≤ s.link.queue.length → c.cls = .routine → claim c s = s) ∧
      (8 ≤ s.link.queue.length → c.cls = .vote → s.link.mute = false →
        ((∀ q ∈ s.link.queue, s.link.mayShed q = false) → claim c s = s) ∧
          ((∃ q ∈ s.link.queue, s.link.mayShed q = true) →
            Queued (claim c s) c ∧ (claim c s).link.queue.length = s.link.queue.length ∧
              ∀ q ∈ s.link.queue, s.link.mayShed q = false → q ∈ (claim c s).link.queue) ∧
          ∀ older newer q, s.link.queue = older ++ q :: newer → q.claim.cls = .routine → s.link.onLine (.queued q.item) = false →
            (∀ x ∈ newer, ¬(x.claim.cls = .routine ∧ s.link.onLine (.queued x.item) = false)) → QueueLegal s →
              (claim c s).link.queue = (older ++ newer).filter isVote ++ ⟨s.link.nextItem, c⟩ ::
                (older ++ newer).filter (fun x => !isVote x))

/-! ## Lockout and retained store -/

/-- An escalation request: with the record NONE a lockout begins with the stored serial plus one (65535 at the end), not retained, and
the LOCKOUT hold stands; no write is made when the newest slot is RELEASED under serial 65535; else its ACTIVE write starts at once when
no write is in flight, to the slot that does not hold the newest record, which is torn from then on, and waits behind a write in flight;
with the record ACTIVE the record stays, and beside a release write the first request is kept. That slot is lockout B when the newest
record is in A, and lockout A when it is in B or there is none; the stored serial is the newest record's, or 0. -/
def Obligations.EscalationBeginsLockout : Prop :=
  (∀ c : SlotCopies,
    (∀ x, c.newest = some (.a, x) → c.lockoutTarget = .b) ∧ (∀ x, c.newest = some (.b, x) → c.lockoutTarget = .a) ∧
      (c.newest = none → c.lockoutTarget = .a ∧ c.storedSerial = 0 ∧ c.exhausted = false) ∧
      ∀ n x, c.newest = some (n, x) →
        c.storedSerial = x.serial ∧ (c.exhausted = true ↔ x.serial = 65535 ∧ x.state = .released)) ∧
  ∀ (e : Escalation) (s : State),
    (s.lockout.record.state = .none →
      let t := escalate e s
      t.lockout.record.state = .active ∧ t.lockout.record.cause = some e.cause ∧ t.lockout.record.index = e.index ∧
        t.lockout.record.retained = false ∧ t.stands .lockout = true ∧
        t.lockout.record.serial =
          (if s.lockout.copies.storedSerial < 65535 then s.lockout.copies.storedSerial + 1 else 65535) ∧
        (s.lockout.copies.exhausted = true → t.lockout.inFlight = s.lockout.inFlight ∧ t.lockout.record.attempt = 0) ∧
        (s.lockout.copies.exhausted = false → s.lockout.inFlight = none →
          t.lockout.record.attempt = 1 ∧
            t.lockout.inFlight = some (.active s.lockout.copies.lockoutTarget
              ⟨t.lockout.record.serial, .active, e.cause, e.index⟩) ∧
            (s.lockout.copies.lockoutTarget = .a → t.store.lockoutA = .torn ∧ t.store.lockoutB = s.store.lockoutB) ∧
            (s.lockout.copies.lockoutTarget = .b → t.store.lockoutB = .torn ∧ t.store.lockoutA = s.store.lockoutA)) ∧
        (s.lockout.copies.exhausted = false → s.lockout.inFlight ≠ none →
          t.lockout.pendingWrite = true ∧ t.lockout.inFlight = s.lockout.inFlight ∧ t.store = s.store)) ∧
      (s.lockout.record.state = .active →
        (escalate e s).lockout.record = s.lockout.record ∧ (escalate e s).holds = s.holds ∧
          (escalate e s).store = s.store ∧
          (∀ n x, s.lockout.inFlight = some (.release n x) →
            (escalate e s).lockout.pendingEscalation =
              (if s.lockout.pendingEscalation = none then some e else s.lockout.pendingEscalation)) ∧
          ((∀ n x, s.lockout.inFlight ≠ some (.release n x)) → escalate e s = s))

/-- An ACTIVE write's completion: with OK the slot holds the record and the lockout is retained; with FAIL the first attempt starts again
to the same slot as the second, and the second leaves the lockout not retained and the slot torn. -/
def Obligations.ActiveWriteCompletes : Prop :=
  ∀ (s : State) (n : SlotName) (x : LockoutSlot), s.lockout.inFlight = some (.active n x) →
    s.lockout.pendingWrite = false →
      (∃ t, exec (.activeWriteCompletion .ok) s = .next t ∧ t.lockout.record = { s.lockout.record with retained := true } ∧
        t.lockout.inFlight = none ∧ t.holds = s.holds ∧
        (n = .a → t.store.lockoutA = .written x ∧ t.lockout.copies.lockoutA = some x) ∧
        (n = .b → t.store.lockoutB = .written x ∧ t.lockout.copies.lockoutB = some x)) ∧
        ∃ t, exec (.activeWriteCompletion .fail) s = .next t ∧ t.holds = s.holds ∧
          t.lockout.record.retained = s.lockout.record.retained ∧ t.lockout.record.state = s.lockout.record.state ∧
          (n = .a → t.store.lockoutA = .torn ∧ t.lockout.copies.lockoutA = none) ∧
          (n = .b → t.store.lockoutB = .torn ∧ t.lockout.copies.lockoutB = none) ∧
          (∀ c, s.lockout.record.attempt = 1 → s.lockout.record.cause = some c →
            t.lockout.record.attempt = 2 ∧
              t.lockout.inFlight = some (.active n ⟨s.lockout.record.serial, .active, c, s.lockout.record.index⟩)) ∧
          (s.lockout.record.attempt = 2 → t.lockout.inFlight = none ∧ t.lockout.record.attempt = 2)

/-- A release write's completion: with OK the record is NONE under the same serial, cause and index, the LOCKOUT hold is gone, the slot
holds the RELEASED record and the order awaited is answered DONE; a kept escalation then begins its lockout at once, with the serial
after the stored one (the release's own, unless the other slot holds a higher), its cause and index, a LOCKOUT hold with that cause
as its detail, and its ACTIVE write. With FAIL the lockout stands as it was, the slot is torn and the other untouched, the order is
answered REFUSED(STORE-FAULT) and a kept escalation is dropped. The answer is remembered when its order is still the last one, and its
ANSWER is queued when there is room. (A number that a new order has come to bear again counts as the same order: log 28.) -/
def Obligations.ReleaseWriteCompletes : Prop :=
  ∀ (s : State) (n : SlotName) (x : LockoutSlot), s.lockout.inFlight = some (.release n x) →
    s.lockout.pendingWrite = false →
      let copies := s.lockout.copies.setLockout n (some x)
      let answers := fun (t : State) (result : Byte) => t.orders.awaited = none ∧
        ∀ k, s.orders.awaited = some k → (HasRoom s → Queued t (.answer [k, result] false)) ∧
          ∀ m, s.orders.memory = some m →
            (m.number = k → AnsweredWith t k m.kind [k, result]) ∧ (m.number ≠ k → t.orders.memory = s.orders.memory)
      (∃ t, exec (.releaseWriteCompletion .ok) s = .next t ∧ answers t 0x10#8 ∧ t.lockout.pendingEscalation = none ∧
        (s.lockout.pendingEscalation = none →
          t.lockout.record = { s.lockout.record with state := .none, retained := false, attempt := 0 } ∧
            t.stands .lockout = false ∧ t.lockout.inFlight = none ∧ t.lockout.copies = copies ∧
            (n = .a → t.store.lockoutA = .written x ∧ t.store.lockoutB = s.store.lockoutB) ∧
            (n = .b → t.store.lockoutB = .written x ∧ t.store.lockoutA = s.store.lockoutA)) ∧
        ((∀ y, (if n = .a then s.lockout.copies.lockoutB else s.lockout.copies.lockoutA) = some y → y.serial ≤ x.serial) →
          copies.storedSerial = x.serial) ∧
        (∀ e, s.lockout.pendingEscalation = some e →
          let next := if copies.storedSerial < 65535 then copies.storedSerial + 1 else 65535
          t.lockout.record.state = .active ∧ t.lockout.record.serial = next ∧ t.lockout.record.cause = some e.cause ∧
            t.lockout.record.index = e.index ∧ t.lockout.record.retained = false ∧
            (∃ h, t.ownHold .lockout none = some h ∧ h.detail = some (.lockout e.cause)) ∧
            (copies.exhausted = true → t.lockout.inFlight = none ∧ t.lockout.record.attempt = 0) ∧
            (copies.exhausted = false → t.lockout.record.attempt = 1 ∧
              t.lockout.inFlight = some (.active copies.lockoutTarget ⟨next, .active, e.cause, e.index⟩)) ∧
            (copies.exhausted = true ∨ copies.lockoutTarget ≠ n →
              (n = .a → t.store.lockoutA = .written x) ∧ (n = .b → t.store.lockoutB = .written x)))) ∧
        ∃ t, exec (.releaseWriteCompletion .fail) s = .next t ∧ answers t 0x22#8 ∧ t.lockout.record = s.lockout.record ∧
          t.holds = s.holds ∧ t.lockout.pendingEscalation = none ∧ t.lockout.inFlight = none ∧
          (n = .a → t.store.lockoutA = .torn ∧ t.lockout.copies.lockoutA = none ∧ t.store.lockoutB = s.store.lockoutB) ∧
          (n = .b → t.store.lockoutB = .torn ∧ t.lockout.copies.lockoutB = none ∧ t.store.lockoutA = s.store.lockoutA)

/-- A configuration write's completion answers the order awaited DONE or REFUSED(STORE-FAULT) by its outcome and changes neither the
configuration in use nor a hold; the slot holds the record or stays torn; a pending ACTIVE write then starts. The answer is
remembered when its order is still the last one, and its ANSWER is queued when there is room. (A number that a new order has come to
bear again counts as the same order: log 28.) -/
def Obligations.ConfigWriteCompletes : Prop :=
  ∀ (s : State) (o : WriteOutcome) (n : SlotName) (x : ConfigSlot), s.lockout.inFlight = some (.config n x) →
    ∃ t, exec (.configWriteCompletion o) s = .next t ∧ t.startup = s.startup ∧ t.holds = s.holds ∧
      t.orders.awaited = none ∧ t.lockout.pendingWrite = false ∧
      (n = .a → t.store.configA = if o = .ok then .written x else .torn) ∧
      (n = .b → t.store.configB = if o = .ok then .written x else .torn) ∧
      (∀ k, s.orders.awaited = some k →
        (HasRoom s → Queued t (.answer [k, if o = .ok then 0x10#8 else 0x22#8] false)) ∧
          ∀ m, s.orders.memory = some m →
            (m.number = k → AnsweredWith t k m.kind [k, if o = .ok then 0x10#8 else 0x22#8]) ∧
              (m.number ≠ k → t.orders.memory = s.orders.memory)) ∧
      (s.lockout.pendingWrite = false → t.lockout.inFlight = none ∧ t.lockout.record = s.lockout.record) ∧
      (∀ c, s.lockout.pendingWrite = true → s.lockout.record.cause = some c →
        t.lockout.record.attempt = 1 ∧
          t.lockout.inFlight = some (.active s.lockout.copies.lockoutTarget
            ⟨s.lockout.record.serial, .active, c, s.lockout.record.index⟩))

/-! ## Orders -/

/-- The four orders that may be sent to all stations and that take effect on every one of them. OPEN raises the GATEWAY hold, so
that a PLEDGED or CLOSED station leaves its ballot unless the hold stood already; FREE lifts it; every other hold but the
roster's two stays. PAUSE-BLEED, when not paused yet, empties selection and bleed set, makes demand and grant 0, the reason
PAUSED, and keeps the rest of the plan; RESUME-BLEED clears the pause flag and changes no other field of the plan. A targeted one
is answered DONE, its answer remembered and its ANSWER queued when there is room; of those sent to all the order memory takes nothing. -/
def Obligations.OrdersWithoutArgument : Prop :=
  ∀ (s : State) (number : Byte) (target : Nat), TakesFrom s 0 →
    target = 31 ∧ s.own ≠ 31 ∨ TakesNewOrder s number target →
      let answered := fun (t : State) (k : OrderKind) => (target ≠ s.own → t.orders = s.orders) ∧
        (target = s.own → AnsweredBy s t number k [number, 0x10#8])
      let others := fun (t : State) => ∀ c i, c ≠ .gateway → c ≠ .link → c ≠ .discord → t.ownHold c i = s.ownHold c i
      (∃ t, exec (.orderOpen number target []) s = .next t ∧ answered t .openOrder ∧ others t ∧
        t.stands .gateway = true ∧ (s.stands .gateway = false → t.ballot.mode ≠ .pledged ∧ t.ballot.mode ≠ .closed)) ∧
        (∃ t, exec (.orderFree number target []) s = .next t ∧ answered t .free ∧ others t ∧ t.stands .gateway = false) ∧
        (∃ t, exec (.pauseBleed number target []) s = .next t ∧ answered t .pauseBleed ∧ others t ∧
          (s.plan.paused = true → t.plan = s.plan) ∧
          (s.plan.paused = false →
            t.plan = { s.plan with allowed := false, reason := some .paused, selection := [], demand := 0, grant := 0,
                                   bleedSet := [], paused := true } ∧ ∀ c, t.bleedOutput c = false)) ∧
        ∃ t, exec (.resumeBleed number target []) s = .next t ∧ answered t .resumeBleed ∧ others t ∧
          t.plan = { s.plan with paused := false }

/-- RECLOSE: a ready station that is the target, or, of a RECLOSE sent to all, a ready duty station, proposes and is PLEDGED as
PROPOSER; a target that is not ready answers REFUSED(NOT-READY) and does not propose, nor does any other station. The answer is
remembered and its ANSWER queued when there is room. -/
def Obligations.RecloseMakesReadyStationPropose : Prop :=
  ∀ (s : State) (number : Byte) (target : Nat), TakesFrom s 0 → s.addressed = true →
    let u := heardState 0 s
    let b : Ballot := ⟨s.ballot.highest.epoch + 1, s.own⟩
    (TakesNewOrder s number target →
      ∃ t, exec (.reclose number target []) s = .next t ∧
        (u.ready = true → t.ballot.mode = .pledged ∧ t.ballot.role = .proposer ∧ t.ballot.current = some b ∧
          t.ballot.highest = b ∧ t.ballot.votes = [s.own] ∧
          t.ballot.proposal = Timer.startMs s.cfg.shared.proposalTime ∧
          (HasRoom s → Queued t (.propose b s.size s.startup.digest)) ∧
          AnsweredBy s t number .reclose [number, 0x10#8]) ∧
        (u.ready = false → t.ballot.mode = (judgeView u).ballot.mode ∧ t.ballot.current = (judgeView u).ballot.current ∧
          t.ballot.highest = s.ballot.highest ∧ AnsweredBy s t number .reclose [number, 0x21#8])) ∧
      (target = 31 →
        ∃ t, exec (.reclose number 31 []) s = .next t ∧ t.orders = s.orders ∧
          u.duty = s.ballot.highest.epoch % s.cfg.shared.size + 1 ∧
          (u.ready = true → u.duty = s.own → t.ballot.mode = .pledged ∧ t.ballot.current = some b) ∧
          (u.ready = false ∨ u.duty ≠ s.own → t.ballot.mode = (judgeView u).ballot.mode ∧
            t.ballot.highest = s.ballot.highest))

/-- RELEASE targeted at the station: the checks in their order (NO-LOCKOUT, WRONG-SERIAL, BUSY, CONDITION) answer and change nothing of
the lockout unit, the ANSWER being queued when there is room; an order that passes them all starts the release write to the slot that
does not hold the newest record, tears that slot, is IN-PROGRESS and awaited, and no answer is claimed. -/
def Obligations.ReleaseChecksAndStartsWrite : Prop :=
  ∀ (s : State) (number : Byte) (target : Nat) (x y : Byte), TakesNewOrder s number target →
    let serial := x.toNat * 256 + y.toNat
    let r := s.lockout.record
    let writing := s.lockout.inFlight.isSome = true ∨ s.lockout.pendingWrite = true
    let blocked := (∃ m ∈ s.monitors.records, m.state ≠ .clear) ∨ s.stands .switch = true
    ∃ t, exec (.release number target [x, y]) s = .next t ∧ t.lockout.record = r ∧ t.monitors = s.monitors ∧
      (r.state = .none → t.lockout = s.lockout ∧ t.store = s.store ∧ AnsweredBy s t number .release [number, 0x23#8]) ∧
      (r.state = .active → serial ≠ r.serial →
        t.lockout = s.lockout ∧ t.store = s.store ∧ AnsweredBy s t number .release [number, 0x24#8]) ∧
      (r.state = .active → serial = r.serial → writing →
        t.lockout = s.lockout ∧ t.store = s.store ∧ AnsweredBy s t number .release [number, 0x30#8]) ∧
      (r.state = .active → serial = r.serial → ¬writing → blocked →
        t.lockout = s.lockout ∧ t.store = s.store ∧ AnsweredBy s t number .release [number, 0x25#8]) ∧
      (r.state = .active → serial = r.serial → ¬writing → ¬blocked → ∀ c, r.cause = some c →
        t.orders.memory = some ⟨number, .release, .inProgress, none⟩ ∧ t.orders.awaited = some number ∧
          t.lockout.inFlight = some (.release s.lockout.copies.lockoutTarget ⟨r.serial, .released, c, r.index⟩) ∧
          t.stands .lockout = s.stands .lockout ∧
          (s.lockout.copies.lockoutTarget = .a → t.store.lockoutA = .torn ∧ t.store.lockoutB = s.store.lockoutB) ∧
          (s.lockout.copies.lockoutTarget = .b → t.store.lockoutB = .torn ∧ t.store.lockoutA = s.store.lockoutA) ∧
          ∀ q ∈ t.link.queue, q ∈ s.link.queue ∨ ∃ b, q.claim = .withdraw b)

/-- STORE with commit 0: a page that reads as its page's fields within their ranges is stored in the assembly and answered DONE;
a page number above 2 or data that does not read so is answered BAD with the assembly unchanged. What data reads so is written out: just
the bytes of a page, 12, 17 or 14 of them, of fields each in its range. The answer is
remembered and its ANSWER queued when there is room. -/
def Obligations.StoreFillsAssembly : Prop :=
  (let one := fun (n : Nat) => BitVec.ofNat 8 n
   let temp := fun (v : Int) => byte2 (v % 65536).toNat
   (∀ d, page0Of d ≠ none → d.length = 12) ∧ (∀ d, page1Of d ≠ none → d.length = 17) ∧ (∀ d, page2Of d ≠ none → d.length = 14) ∧
    (∀ d p, page0Of d = some p ↔
      d = [one p.size, if p.gatewayRequired = true then 1#8 else 0#8] ++ byte2 p.tallyPeriod ++ [one p.lostAge, one p.budget,
        one p.margin, one (policyCode p.policy)] ++ byte2 p.settleTime ++ byte2 p.proposalTime ∧
        (2 ≤ p.size ∧ p.size ≤ 24) ∧ (100 ≤ p.tallyPeriod ∧ p.tallyPeriod ≤ 2000 ∧ p.tallyPeriod % 50 = 0) ∧
        (3 ≤ p.lostAge ∧ p.lostAge ≤ 15) ∧ p.budget ≤ 120 ∧ (5 ≤ p.margin ∧ p.margin ≤ 100) ∧
        (500 ≤ p.settleTime ∧ p.settleTime ≤ 30000) ∧ (100 ≤ p.proposalTime ∧ p.proposalTime ≤ 2000)) ∧
    (∀ d p, page1Of d = some p ↔
      d = [one p.fitted] ++ byte2 p.sweepInterval ++ byte2 p.highLevel ++ byte2 p.highSevere ++ byte2 p.lowLevel ++
        byte2 p.lowSevere ++ byte2 p.hysteresis ++ byte2 p.sumTolerance ++ byte2 p.bleedFloor ∧
        (4 ≤ p.fitted ∧ p.fitted ≤ 10) ∧ (100 ≤ p.sweepInterval ∧ p.sweepInterval ≤ 1000) ∧
        (2000 ≤ p.highLevel ∧ p.highLevel ≤ 5000) ∧ (2000 ≤ p.highSevere ∧ p.highSevere ≤ 5000) ∧ p.lowLevel ≤ 4500 ∧
        p.lowSevere ≤ 4500 ∧ (10 ≤ p.hysteresis ∧ p.hysteresis ≤ 300) ∧ (20 ≤ p.sumTolerance ∧ p.sumTolerance ≤ 2000) ∧
        (1000 ≤ p.bleedFloor ∧ p.bleedFloor ≤ 4500)) ∧
    ∀ d p, page2Of d = some p ↔
      d = temp p.hotLevel ++ temp p.hotSevere ++ temp p.coldLevel ++ temp p.hysteresis ++ [one p.raiseCount, one p.easeCount] ++
        temp p.dieLimit ++ [one p.window, one p.switchSettle] ∧
        (0 ≤ p.hotLevel ∧ p.hotLevel ≤ 1250) ∧ (0 ≤ p.hotSevere ∧ p.hotSevere ≤ 1250) ∧
        (-400 ≤ p.coldLevel ∧ p.coldLevel ≤ 400) ∧ (10 ≤ p.hysteresis ∧ p.hysteresis ≤ 200) ∧
        (1 ≤ p.raiseCount ∧ p.raiseCount ≤ 15) ∧ (1 ≤ p.easeCount ∧ p.easeCount ≤ 15) ∧
        (500 ≤ p.dieLimit ∧ p.dieLimit ≤ 1250) ∧ (1 ≤ p.window ∧ p.window ≤ 60) ∧
        (10 ≤ p.switchSettle ∧ p.switchSettle ≤ 200)) ∧
  ∀ (s : State) (number : Byte) (target : Nat) (page : Byte) (data : List Byte), TakesNewOrder s number target →
    data.length ≤ 27 →
      ∃ t, exec (.store number target (page :: 0#8 :: data)) s = .next t ∧ t.startup = s.startup ∧ t.store = s.store ∧
        t.lockout = s.lockout ∧
        (∀ p, page = 0#8 → page0Of data = some p → t.orders.page0 = some p ∧ t.orders.page1 = s.orders.page1 ∧
          t.orders.page2 = s.orders.page2 ∧ AnsweredBy s t number .store [number, 0x10#8]) ∧
        (∀ p, page = 1#8 → page1Of data = some p → t.orders.page1 = some p ∧ t.orders.page0 = s.orders.page0 ∧
          t.orders.page2 = s.orders.page2 ∧ AnsweredBy s t number .store [number, 0x10#8]) ∧
        (∀ p, page = 2#8 → page2Of data = some p → t.orders.page2 = some p ∧ t.orders.page0 = s.orders.page0 ∧
          t.orders.page1 = s.orders.page1 ∧ AnsweredBy s t number .store [number, 0x10#8]) ∧
        ((page = 0#8 ∧ page0Of data = none) ∨ (page = 1#8 ∧ page1Of data = none) ∨
            (page = 2#8 ∧ page2Of data = none) ∨ 2 < page.toNat →
          t.orders.page0 = s.orders.page0 ∧ t.orders.page1 = s.orders.page1 ∧ t.orders.page2 = s.orders.page2 ∧
            AnsweredBy s t number .store [number, 0x40#8])

/-- STORE with commit 1: a page that does not pass is answered BAD; one that passes is stored as the page of its number, and then: an
incomplete assembly is answered BAD and kept; a complete one is REFUSED(MODE) outside OPEN, BUSY beside another write, and otherwise its
configuration write starts, with the next generation, to the slot not in use (configuration A on the defaults), which is torn; the
assembly is emptied and the order IN-PROGRESS. Every other answer is remembered and its ANSWER queued when there is room. After a
REFUSED or a BUSY the assembly is kept. (The mode is read after the roster has heard the gateway and judged DISCORD: log 11.) -/
def Obligations.StoreCommitStartsWrite : Prop :=
  (∀ s : State,
    (∀ data, storePage 0 data s = (page0Of data).map fun p => { s with orders := { s.orders with page0 := some p } }) ∧
      (∀ data, storePage 1 data s = (page1Of data).map fun p => { s with orders := { s.orders with page1 := some p } }) ∧
      (∀ data, storePage 2 data s = (page2Of data).map fun p => { s with orders := { s.orders with page2 := some p } }) ∧
      (∀ n data, 2 < n → storePage n data s = none) ∧
      ∀ c, s.startup.config = some c → s.generation = c.generation ∧
        (c.source = .slotA → s.configTarget = .b) ∧ (c.source = .slotB ∨ c.source = .defaults → s.configTarget = .a)) ∧
  ∀ (s : State) (number : Byte) (target : Nat) (page : Byte) (data : List Byte), TakesNewOrder s number target →
    data.length ≤ 27 →
      let kept := fun (t v : State) => t.orders.page0 = v.orders.page0 ∧ t.orders.page1 = v.orders.page1 ∧
        t.orders.page2 = v.orders.page2
      ∃ t, exec (.storeCommit number target page data) s = .next t ∧ t.startup = s.startup ∧
        (storePage page.toNat data s = none → t.lockout = s.lockout ∧ kept t s ∧
          AnsweredBy s t number .store [number, 0x40#8]) ∧
        ∀ v, storePage page.toNat data s = some v →
          (v.orders.page0 = none ∨ v.orders.page1 = none ∨ v.orders.page2 = none →
            t.lockout = s.lockout ∧ kept t v ∧ AnsweredBy s t number .store [number, 0x40#8]) ∧
          ∀ p, v.orders.page0 = some p → ∀ c, v.orders.page1 = some c → ∀ l, v.orders.page2 = some l →
            ((heardState 0 s).ballot.mode ≠ .opened →
              t.lockout = s.lockout ∧ t.store = s.store ∧ kept t v ∧ AnsweredBy s t number .store [number, 0x26#8]) ∧
              ((heardState 0 s).ballot.mode = .opened → s.lockout.inFlight.isSome = true ∨ s.lockout.pendingWrite = true →
                t.lockout = s.lockout ∧ t.store = s.store ∧ kept t v ∧ AnsweredBy s t number .store [number, 0x30#8]) ∧
              ((heardState 0 s).ballot.mode = .opened → s.lockout.inFlight = none → s.lockout.pendingWrite = false →
                t.orders = ⟨some ⟨number, .store, .inProgress, none⟩, some number, none, none, none⟩ ∧
                  t.lockout.inFlight = some (.config s.configTarget
                    ⟨if s.generation < 65535 then s.generation + 1 else 65535, ⟨p, c, l⟩⟩) ∧
                  (s.configTarget = .a → t.store.configA = .torn ∧ t.store.configB = s.store.configB) ∧
                  (s.configTarget = .b → t.store.configB = .torn ∧ t.store.configA = s.store.configA) ∧
                  t.lockout.record = s.lockout.record)

/-- A READ targeted at the station under a new number is answered in the same event: DONE with the record built of the blocks as they
stand after the roster has heard the gateway, or BAD where index or page name no record; the answer is remembered, and claimed
when there is room; beyond the hearing and the judging of the roster's two holds only order handler and link controller
change. (DISCORD is judged before the record is built: `heardState`, log 11.) -/
def Obligations.ReadAnswersRecord : Prop :=
  ∀ (s : State) (number : Byte) (target : Nat) (index page : Byte), TakesNewOrder s number target →
    let u := heardState 0 s
    let done := fun (record : List Byte) => number :: 0x10#8 :: record
    let bad := [number, 0x40#8]
    let answers := fun (c : Instr) (payload : List Byte) =>
      ∃ t, exec c s = .next t ∧ AnsweredWith t number .read payload ∧ (HasRoom s → Queued t (.answer payload false)) ∧
        t.holds.own = (judgeView u).holds.own ∧ t.holds.remote = s.holds.remote ∧ t.roster = u.roster ∧
        t.ballot.mode = (judgeView u).ballot.mode ∧ t.plan = s.plan ∧ t.lockout = s.lockout ∧ t.store = s.store ∧ t.startup = s.startup ∧ t.sweep = s.sweep ∧
        t.monitors = s.monitors ∧ t.orders.awaited = s.orders.awaited ∧ t.orders.page0 = s.orders.page0
    answers (.readIdentity number target [index, page]) (done u.identityRecord) ∧
      (∀ r, u.samplesRecord page.toNat = some r → answers (.readSamples number target [index, page]) (done r)) ∧
      (1 < page.toNat → answers (.readSamples number target [index, page]) bad) ∧
      (∀ m, u.monitors.records.find? (fun m => decide (m.number = index.toNat)) = some m →
        answers (.readMonitor number target [index, page]) (done (u.monitorRecord m))) ∧
      ((∀ m ∈ u.monitors.records, m.number ≠ index.toNat) → answers (.readMonitor number target [index, page]) bad) ∧
      (page.toNat ≤ 6 → answers (.readOwnHolds number target [index, page]) (done (u.ownHoldsRecord page.toNat))) ∧
      (6 < page.toNat → answers (.readOwnHolds number target [index, page]) bad) ∧
      (page.toNat ≤ 11 → answers (.readRemoteHolds number target [index, page]) (done (u.remoteHoldsRecord page.toNat))) ∧
      (11 < page.toNat → answers (.readRemoteHolds number target [index, page]) bad) ∧
      (index.toNat ≤ 24 → page.toNat ≤ 1 →
        answers (.readRoster number target [index, page]) (done (rosterRecord (u.entry index.toNat) page.toNat))) ∧
      (24 < index.toNat ∨ 1 < page.toNat → answers (.readRoster number target [index, page]) bad) ∧
      answers (.readBleed number target [index, page]) (done (bleedRecord u.plan)) ∧
      answers (.readBallot number target [index, page]) (done u.ballotRecord) ∧
      answers (.readLockout number target [index, page]) (done (lockoutRecordBytes u.lockout)) ∧
      (∀ r, u.configRecord page.toNat = some r → answers (.readConfig number target [index, page]) (done r)) ∧
      (2 < page.toNat → answers (.readConfig number target [index, page]) bad)

/-- The layouts of the READ records, byte for byte, most significant byte first, and the codes written in them. The two times of a
MONITOR record that the monitor does not hold, and the code of the lockout record's state, are free values (log 17, log 18): the layout
holds whatever they are. (Absent announce data and the fields of an invalid slot are written in R194's absence codes: log 19.) -/
def Obligations.ReadRecordsLaidOut : Prop :=
  (∀ n, byte2 n = [BitVec.ofNat 8 (n / 256), BitVec.ofNat 8 n]) ∧
    (∀ n, byte4 n = [BitVec.ofNat 8 (n / 16777216), BitVec.ofNat 8 (n / 65536), BitVec.ofNat 8 (n / 256), BitVec.ofNat 8 n]) ∧
  ∀ s : State,
    let one := fun (n : Nat) => BitVec.ofNat 8 n
    let flag := fun (b : Bool) => if b = true then 1#8 else 0#8
    let opt := fun (o : Option Nat) => (o.map one).getD 0xFF#8
    let temp := fun (v : Int) => byte2 (v % 65536).toNat
    let optTemp := fun (o : Option Int) => (o.map temp).getD [0x80#8, 0#8]
    let bits := fun (low : Nat) (l : List Nat) => (l.map fun a => 2 ^ (a - low)).sum
    let ballot := fun (b : Ballot) => byte4 b.epoch ++ [one b.proposer]
    s.identityRecord = [one s.own, one (modeCode s.ballot.mode)] ++ byte2 s.generation ++
      [one s.source, one s.cfg.cells.fitted] ++ byte2 s.startup.digest.toNat ++ [flag s.roster.joinComplete] ++
      byte4 s.clock.ms.toNat ∧
    (∀ x, s.sweep.latest = some x →
      s.samplesRecord 0 = some (byte4 x.completed.toNat ++ [flag s.sweep.inProgress] ++
        [1, 2, 3, 4, 5, 6, 7, 8, 9, 10].flatMap fun c => byte2 ((x.cell c).getD 65535)) ∧
      s.samplesRecord 1 = some (byte4 x.completed.toNat ++ [flag s.sweep.inProgress] ++
        byte2 (bits 0 ([0, 1, 2, 3, 4, 5, 6, 7, 8, 9, 10].filter x.isOpen)) ++ byte2 x.moduleSum ++ optTemp x.t1 ++
        optTemp x.t2 ++ temp x.die)) ∧
    (∀ m, ∃ times last, s.monitorRecord m = [one m.number, one (monitorKindCode m.kind), opt m.cell,
        one (monitorStateCode m.state), one m.count, one m.severeCount, one m.recurrence.length] ++ times ++
        [opt m.raisedTap, opt (m.lastClass.map classCode)] ++ last ∧ times.length = 8 ∧ last.length = 4 ∧
      (∀ n, m.recurrence = [n] → times.take 4 = byte4 n.toNat) ∧
      (∀ n o, m.recurrence = [n, o] → times = byte4 n.toNat ++ byte4 o.toNat) ∧
      ∀ v, s.monitors.lastEvaluated = some v → last = byte4 v.toNat) ∧
    (∀ p, s.ownHoldsRecord p = byte4 s.clock.ms.toNat ++ [one s.holds.own.length] ++
      ((s.holds.own.drop (5 * p)).take 5).flatMap fun h =>
        [h.serial, one (causeCode h.cause * 16 + h.index.getD 15), opt (h.detail.map detailCode)] ++
          byte2 (min ((s.clock.ms - h.raised).toNat / 100) 65535)) ∧
    (∀ p, s.remoteHoldsRecord p = byte4 s.clock.ms.toNat ++ [one s.holds.remote.length] ++
      ((s.holds.remote.drop (4 * p)).take 4).flatMap fun h =>
        [one h.origin, h.serial, one (causeCode h.cause * 16 + h.index.getD 15), opt (h.detail.map detailCode)] ++
          byte2 (min ((s.clock.ms - h.arrived).toNat / 100) 65535)) ∧
    (∀ e : RosterEntry,
      (∃ data, rosterRecord e 0 = [one e.address, one (entryStateCode e.state), one e.age,
          one ((if e.recallPending = true then 1 else 0) + (if e.confirmed = true then 2 else 0) +
            (if e.summary.isSome = true then 4 else 0) + (if e.announced.isSome = true then 8 else 0))] ++ data ∧
        (e.announced = none → data = List.replicate 5 0xFF#8) ∧
        ∀ d, e.announced = some d → data = byte2 d.generation ++ [one d.fittedCells] ++ byte2 d.digest.toNat) ∧
      (e.summary = none → rosterRecord e 1 = one e.address :: List.replicate 23 0xFF#8) ∧
      ∀ x, e.summary = some x → rosterRecord e 1 = [one e.address, one (modeCode x.mode), one x.holdCount] ++
        byte2 x.lockoutSerial ++ ballot x.ballot ++ byte2 x.digest.toNat ++ byte2 (x.minCell.getD 65535) ++
        byte2 (x.maxCell.getD 65535) ++ byte2 (x.moduleSum.getD 65535) ++ optTemp x.maxTemperature ++
        [one x.advertisedDemand, one x.bleedingCount, one x.presentCount,
          one ((if x.bleedPaused = true then 1 else 0) + (if x.defaultConfiguration = true then 2 else 0))]) ∧
    (s.plan.selection.length ≤ 5 →
      bleedRecord s.plan = [one (disallowCode s.plan.reason)] ++ byte2 (s.plan.floor.getD 65535) ++
        byte2 (s.plan.target.getD 65535) ++ [one s.plan.total, one s.plan.selection.length] ++ s.plan.selection.map one ++
        List.replicate (5 - s.plan.selection.length) 0xFF#8 ++ [one s.plan.demand, one s.plan.advertised, one s.plan.grant] ++
        byte2 (bits 1 s.plan.bleedSet) ++
        [one ((if s.plan.suspended = true then 1 else 0) + (if s.plan.paused = true then 2 else 0))]) ∧
    s.ballotRecord = [one (modeCode s.ballot.mode)] ++ ballot s.ballot.highest ++
      ballot (s.ballot.current.getD ⟨0, 0⟩) ++ [one (roleCode s.ballot.role), one (bits 1 s.ballot.votes / 65536),
        one (bits 1 s.ballot.votes / 256), one (bits 1 s.ballot.votes),
        one ((if s.ballot.commitClaimed = true then 1 else 0) + (if s.ready = true then 2 else 0) +
          (if s.ballot.settle.isRunning = true then 4 else 0) + (if s.ballot.proposal.isRunning = true then 8 else 0) +
          (if s.ballot.pledge.isRunning = true then 16 else 0) + (if s.ballot.confirm.isRunning = true then 32 else 0)),
        one s.duty] ∧
    (∀ u : LockoutUnit, ∃ state slotA slotB, lockoutRecordBytes u = [state] ++ byte2 u.record.serial ++
        [opt (u.record.cause.map lockoutCauseCode), opt u.record.index, flag u.record.retained, one u.record.attempt] ++ slotA ++
        slotB ++ [one (writeCode u.inFlight), flag u.pendingWrite,
          opt (u.pendingEscalation.map fun e => lockoutCauseCode e.cause), opt (u.pendingEscalation.bind fun e => e.index)] ∧
      ∀ p ∈ [(slotA, u.copies.lockoutA), (slotB, u.copies.lockoutB)],
        (p.2 = none → p.1 = [0#8, 0xFF#8, 0xFF#8, 0xFF#8, 0xFF#8]) ∧
          ∀ y, p.2 = some y → p.1 = [if y.state = .active then 1#8 else 2#8] ++ byte2 y.serial ++
            [one (lockoutCauseCode y.cause), opt y.index]) ∧
    (writeCode none = 0 ∧
      (∀ y, writeCode (some (.active .a y)) = 0x13 ∧ writeCode (some (.active .b y)) = 0x14 ∧
        writeCode (some (.release .a y)) = 0x23 ∧ writeCode (some (.release .b y)) = 0x24) ∧
      ∀ y, writeCode (some (.config .a y)) = 0x31 ∧ writeCode (some (.config .b y)) = 0x32) ∧
    s.configRecord 0 = some (byte2 s.generation ++ [one s.source, 0#8] ++ (let p := s.cfg.shared
      [one p.size, flag p.gatewayRequired] ++ byte2 p.tallyPeriod ++ [one p.lostAge, one p.budget, one p.margin,
        one (policyCode p.policy)] ++ byte2 p.settleTime ++ byte2 p.proposalTime)) ∧
    s.configRecord 1 = some (byte2 s.generation ++ [one s.source, 1#8] ++ (let p := s.cfg.cells
      [one p.fitted] ++ byte2 p.sweepInterval ++ byte2 p.highLevel ++ byte2 p.highSevere ++ byte2 p.lowLevel ++
        byte2 p.lowSevere ++ byte2 p.hysteresis ++ byte2 p.sumTolerance ++ byte2 p.bleedFloor)) ∧
    s.configRecord 2 = some (byte2 s.generation ++ [one s.source, 2#8] ++ (let p := s.cfg.limits
      temp p.hotLevel ++ temp p.hotSevere ++ temp p.coldLevel ++ temp p.hysteresis ++ [one p.raiseCount, one p.easeCount] ++
        temp p.dieLimit ++ [one p.window, one p.switchSettle])) ∧
    [Mode.start, .join, .opened, .pledged, .closed].map modeCode = [0, 1, 2, 3, 4] ∧
    [MonitorKind.high, .low, .tap, .hot, .cold, .sum].map monitorKindCode = [1, 2, 3, 4, 5, 6] ∧
    [MonitorState.clear, .counting, .held, .easing].map monitorStateCode = [0, 1, 2, 3] ∧
    [MonitorClass.crossing, .easing, .between, .frozen].map classCode = [1, 2, 3, 4] ∧
    [EntryState.vacant, .present, .stale, .lost].map entryStateCode = [0, 1, 2, 3] ∧
    [Role.none, .proposer, .voter].map roleCode = [0, 1, 2] ∧
    [none, some DisallowReason.mode, some .paused, some .noBudget, some .die, some .hot, some .noFloor].map disallowCode =
      [0, 1, 2, 3, 4, 5, 6] ∧
    [Cause.high, .low, .tap, .hot, .cold, .sum, .link, .discord, .duplicate, .send, .config, .switch, .gateway, .lockout].map causeCode =
      [1, 2, 3, 4, 5, 6, 7, 8, 9, 10, 11, 12, 13, 14] ∧
    [SwitchDetail.noClose, .dropped, .welded].map (fun d => detailCode (.switch d)) = [1, 2, 3] ∧
    (∀ c, detailCode (.lockout c) = lockoutCauseCode c) ∧
    [ReclosePolicy.auto, .ordered].map policyCode = [1, 2] ∧
    [ConfigSource.defaults, .slotA, .slotB].map sourceCode = [0, 1, 2] ∧
    [LockoutCause.highSevere, .lowSevere, .hotSevere, .recurHigh, .recurLow, .recurTap, .recurHot, .recurCold, .recurSum,
      .welded].map lockoutCauseCode = [1, 2, 3, 4, 5, 6, 7, 8, 9, 10]

/-- RESTART targeted at the station under a new number is answered DONE, and its ANSWER is queued with the restart mark; on a MUTE
station, where no send can complete, the station starts at once. The successful send of a marked ANSWER starts the station in that same
event: straps and feedback are read from the pins, the medium is quiet, the retained slots stay. A strap moved while the station ran
takes effect. MODEL'S CHOICE: the levels to which the straps have been moved stand in the state, one for each RESTART start, and
feedback and medium are those the state holds (log 6), the clock starts at microsecond 0 (log 1), what the manual gives no start value
takes the model's (log 24), and the queue of commands and the counter of free values stay (log 26). -/
def Obligations.RestartStartsStation : Prop :=
  (∀ l, strapsAtRestart ⟨l, []⟩ = ⟨l, []⟩) ∧ (∀ l x rest, strapsAtRestart ⟨l, x :: rest⟩ = ⟨x, rest⟩) ∧
  ∀ (s : State) (number : Byte) (target : Nat),
    (TakesNewOrder s number target →
      ∃ t, exec (.restart number target []) s = .next t ∧
        (s.link.mute = false → AnsweredWith t number .restart [number, 0x10#8] ∧ t.startup = s.startup ∧
          (HasRoom s → Queued t (.answer [number, 0x10#8] true))) ∧
        (s.link.mute = true → t.ballot.mode = .start ∧ t.orders.memory = none ∧ t.startup.readComplete = false ∧
          t.store = s.store ∧ t.link.mute = false ∧ t.switch.feedback = s.pins.feedback ∧
          t.pins = ⟨strapsAtRestart s.pins.straps, s.pins.feedback⟩ ∧ t.startup.address = (strapsAtRestart s.pins.straps).level.toNat)) ∧
      ∀ x, s.link.sending = some x → ∀ n, x.item = .queued n → ∀ q, s.queuedOf n = some q → ∀ p, q.claim = .answer p true →
          exec .sendCompletion s = .next (startRun (strapsAtRestart s.pins.straps) s.pins.feedback .idle s)

/-- An order whose kind is none of the ten, a READ of none of the ten records, and an order of any kind or a READ with arguments its
kind does not take are answered BAD under a new number, the ANSWER being queued when there is room, and change no block but by being
heard; sent to all stations they are ignored, and so is every order of a kind that cannot be sent to all, whatever its arguments. (The
memory keeps an unknown kind as its code: log 23.) -/
def Obligations.UnfitOrdersAnsweredBad : Prop :=
  ∀ (s : State) (number kind : Byte) (target : Nat) (args : List Byte), TakesFrom s 0 → args.length ≤ 26 →
    let u := judgeView (heardState 0 s)
    let same := fun (t : State) => t.holds.own = u.holds.own ∧ t.holds.remote = s.holds.remote ∧ t.roster = u.roster ∧ t.ballot.mode = u.ballot.mode ∧
      t.plan = s.plan ∧ t.lockout = s.lockout ∧ t.store = s.store ∧ t.startup = s.startup
    let bad := fun (c : Instr) (k : OrderKind) =>
      ∃ t, exec c s = .next t ∧ AnsweredBy s t number k [number, 0x40#8] ∧ same t
    let ignored := fun (c : Instr) => ∃ t, exec c s = .next t ∧ t.orders = s.orders ∧ same t
    let bare := fun (a : Nat) => [(Instr.orderOpen number a args, OrderKind.openOrder), (.orderFree number a args, .free),
      (.reclose number a args, .reclose), (.pauseBleed number a args, .pauseBleed), (.resumeBleed number a args, .resumeBleed)]
    let reads := fun (a : Nat) => [Instr.readIdentity number a args, .readSamples number a args, .readMonitor number a args,
      .readOwnHolds number a args, .readRemoteHolds number a args, .readRoster number a args, .readBleed number a args,
      .readBallot number a args, .readLockout number a args, .readConfig number a args]
    (TakesNewOrder s number target →
      bad (.orderOfUnknownKind number target kind args) (.unknown kind) ∧ bad (.readOfUnknownRecord number target args) .read ∧
        (args ≠ [] → (∀ p ∈ bare target, bad p.1 p.2) ∧ bad (.clearSwitch number target args) .clearSwitch ∧
          bad (.restart number target args) .restart) ∧
        (args.length ≠ 2 → bad (.release number target args) .release ∧ ∀ c ∈ reads target, bad c .read) ∧
        (args.length < 2 → bad (.store number target args) .store) ∧
        ∀ page commit : Byte, 1 < commit.toNat → bad (.store number target (page :: commit :: args)) .store) ∧
      (s.own ≠ 31 →
        ignored (.orderOfUnknownKind number 31 kind args) ∧ ignored (.readOfUnknownRecord number 31 args) ∧
          (args ≠ [] → ∀ p ∈ bare 31, ignored p.1) ∧ (∀ c ∈ reads 31, ignored c) ∧ ignored (.release number 31 args) ∧
          ignored (.clearSwitch number 31 args) ∧ ignored (.store number 31 args) ∧ ignored (.storeCommit number 31 kind args) ∧
          ignored (.restart number 31 args))

/-- An order, whatever its kind and arguments, that bears the number in the order memory is not executed: the memory stays; the
stored answer is claimed again when its status is DONE, with the restart mark exactly when the kind remembered is RESTART, and
nothing is claimed while it is IN-PROGRESS (log 16). On a MUTE station nothing is claimed either, and where the kind remembered is
RESTART, answered, the repeat starts the station in that same event, with straps and feedback read from the pins (log 6) and the retained
slots kept. An order to another station (and not to all) changes nothing of the order handler. -/
def Obligations.RepeatedAndForeignOrders : Prop :=
  ∀ (i : Instr) (s : State) (number target kind : Byte) (args : List Byte),
    payloadOfOrder i = some (number :: target :: kind :: args) → i.wellFormed = true → TakesFrom s 0 →
      let u := judgeView (heardState 0 s)
      let same := fun (t : State) => t.orders = s.orders ∧ t.holds.own = u.holds.own ∧ t.roster = u.roster ∧
        t.ballot.mode = u.ballot.mode ∧ t.plan = s.plan ∧ t.lockout = s.lockout ∧ t.store = s.store ∧ t.free = s.free
      (target.toNat ≠ s.own → target.toNat ≠ 31 → ∃ t, exec i s = .next t ∧ same t) ∧
        (∀ m, target.toNat = s.own → s.orders.memory = some m → m.number = number →
          (m.status = .inProgress → ∃ t, exec i s = .next t ∧ same t ∧
            ∀ q ∈ t.link.queue, q ∈ s.link.queue ∨ ∃ b, q.claim = .withdraw b) ∧
            (∀ p, m.status = .done → m.answer = some p → s.link.mute = false → ∃ t, exec i s = .next t ∧ same t ∧
              (HasRoom s → Queued t (.answer p (decide (m.kind = .restart))))) ∧
            (m.status = .done → s.link.mute = true →
              (m.kind ≠ .restart → ∃ t, exec i s = .next t ∧ same t ∧ ∀ q ∈ t.link.queue, q ∈ s.link.queue) ∧
                (m.kind = .restart → ∃ t, exec i s = .next t ∧ t.ballot.mode = .start ∧ t.orders = ⟨none, none, none, none, none⟩ ∧
                  t.startup.readComplete = false ∧ t.store = s.store ∧ t.link.mute = false ∧ t.switch.feedback = s.pins.feedback ∧
                  t.pins = ⟨strapsAtRestart s.pins.straps, s.pins.feedback⟩ ∧
                  t.startup.address = (strapsAtRestart s.pins.straps).level.toNat)))

/-! ## Frames as bytes -/

/-- The bytes of every well-formed frame and order command are received as that command: no field of any frame is dropped or moved,
and every check of the frame passes. -/
def Obligations.BytesAreReceivedAsTheirCommand : Prop :=
  ∀ (i : Instr) (w : List Byte), i.wellFormed = true → wireOfCommand i = some w → receive w = i

/-! ## Invariants -/

/-- The laws below hold at reset and after every start from whatever state: after SUPPLY_START, and in the state that a RESTART starts
the station in. Before the store read no lockout stands and no write is made, and its completion in such a state, whichever of read
and first sweep comes last, puts store and LOCKOUT hold in step: the two laws that LockoutAndStoreStayInStep keeps from then on. -/
def Obligations.StartsAreLegal : Prop :=
  (∀ (straps : Straps) (feedback : SwitchPos) (medium : Medium) (s t : State),
    t = State.reset ∨ exec (.supplyStart straps feedback medium) s = .next t ∨ t = startRun straps feedback medium s →
      SwitchFollowsMode t ∧ BallotRecordLegal t ∧ ClosedHoldsNothing t ∧ PlanLegal t ∧ OwnKeysDistinct t ∧ QueueLegal t ∧
        MuteIsSilent t ∧ LinkLegal t ∧ UnaddressedIdle t ∧ RosterShaped t ∧ OwnEntryPresent t ∧ RosterLegal t ∧
        RemoteTableLegal t ∧ MonitorsShaped t ∧ LinkInStep t ∧ NoLockoutYet t) ∧
    ∀ s : State, s.addressed = true → NoLockoutYet s →
      ∃ t, exec .storeReadCompletion s = .next t ∧ StoreLegal t ∧ LockoutInStep t

/-- Every step keeps: CLOSED exactly when commanded so; the ballot record's fields as the mode allows; no hold beside CLOSED; the plan
record's relations, the demand at most 5 and the grant at most the advertised demand among them; one own hold a key; the monitors that
the configuration in use gives. -/
def Obligations.ModeAndPlanStayLegal : Prop :=
  ∀ s : State, SwitchFollowsMode s → BallotRecordLegal s → ClosedHoldsNothing s → PlanLegal s → OwnKeysDistinct s →
    MonitorsShaped s → ∀ t, step s = .next t →
      SwitchFollowsMode t ∧ BallotRecordLegal t ∧ ClosedHoldsNothing t ∧ PlanLegal t ∧ OwnKeysDistinct t ∧ MonitorsShaped t

/-- Every step keeps the laws of the link controller: the queue's size and order, the silence of MUTE, no wait or send in START, the own
address in the sender field of what is on the line. -/
def Obligations.LinkStaysLegal : Prop :=
  ∀ s : State, QueueLegal s → MuteIsSilent s → LinkLegal s → ∀ t, step s = .next t →
    QueueLegal t ∧ MuteIsSilent t ∧ LinkLegal t

/-- Every step keeps the laws of the roster and of the remote hold table: 25 entries in order, ages by state, the own entry PRESENT, one
record an origin and serial, none of an origin that is not heard; and an unaddressed station stays in START for good; and, from join
complete on, the LINK hold stands exactly while a member of E is missing, join complete coming after START. -/
def Obligations.RosterStaysLegal : Prop :=
  (∀ s : State, RosterShaped s → OwnEntryPresent s → RosterLegal s → RemoteTableLegal s → UnaddressedIdle s →
    ∀ t, step s = .next t → RosterShaped t ∧ OwnEntryPresent t ∧ RosterLegal t ∧ RemoteTableLegal t ∧ UnaddressedIdle t) ∧
    ∀ s : State, LinkInStep s → ∀ t, step s = .next t → LinkInStep t

/-- From the store read to the next start every step keeps: the slot being written torn and counted invalid, writes only as the
record's state allows them, and the LOCKOUT hold exactly while the record is ACTIVE. Before the store read, every step but a settle
check's expiry (which the manual lets come after the read only) keeps it that no lockout stands and no write is made. -/
def Obligations.LockoutAndStoreStayInStep : Prop :=
  (∀ s : State, StoreLegal s → LockoutInStep s → ∀ t, step s = .next t → t.startup.readComplete = true →
    StoreLegal t ∧ LockoutInStep t) ∧
    ∀ s : State, NoLockoutYet s → s.pending.head? ≠ some .settleCheckExpiry →
      (s.pending = [] → s.dueExpiry ≠ some .settleCheckExpiry) → ∀ t, step s = .next t →
        t.startup.readComplete = true ∨ NoLockoutYet t
end

