-- ==== Sys2Proof/Laws/State.lean ====
section
/-! SUPPORT. The laws of the state's updates: what each update sets, and that it leaves every other block and every accessor of
another block as it was. -/

namespace Sys2Proof.Machine

/-! ### `setPending` -/

@[simp] theorem State.setPending_pending (s : State) (x : List Instr) : (s.setPending x).pending = x := rfl
@[simp] theorem State.setPending_pins (s : State) (x : List Instr) : (s.setPending x).pins = s.pins := rfl
@[simp] theorem State.setPending_clock (s : State) (x : List Instr) : (s.setPending x).clock = s.clock := rfl
@[simp] theorem State.setPending_startup (s : State) (x : List Instr) : (s.setPending x).startup = s.startup := rfl
@[simp] theorem State.setPending_sweep (s : State) (x : List Instr) : (s.setPending x).sweep = s.sweep := rfl
@[simp] theorem State.setPending_monitors (s : State) (x : List Instr) : (s.setPending x).monitors = s.monitors := rfl
@[simp] theorem State.setPending_holds (s : State) (x : List Instr) : (s.setPending x).holds = s.holds := rfl
@[simp] theorem State.setPending_roster (s : State) (x : List Instr) : (s.setPending x).roster = s.roster := rfl
@[simp] theorem State.setPending_ballot (s : State) (x : List Instr) : (s.setPending x).ballot = s.ballot := rfl
@[simp] theorem State.setPending_plan (s : State) (x : List Instr) : (s.setPending x).plan = s.plan := rfl
@[simp] theorem State.setPending_switch (s : State) (x : List Instr) : (s.setPending x).switch = s.switch := rfl
@[simp] theorem State.setPending_lockout (s : State) (x : List Instr) : (s.setPending x).lockout = s.lockout := rfl
@[simp] theorem State.setPending_store (s : State) (x : List Instr) : (s.setPending x).store = s.store := rfl
@[simp] theorem State.setPending_link (s : State) (x : List Instr) : (s.setPending x).link = s.link := rfl
@[simp] theorem State.setPending_orders (s : State) (x : List Instr) : (s.setPending x).orders = s.orders := rfl
@[simp] theorem State.setPending_free (s : State) (x : List Instr) : (s.setPending x).free = s.free := rfl
@[simp] theorem State.setPending_own (s : State) (x : List Instr) : (s.setPending x).own = s.own := rfl
@[simp] theorem State.setPending_addressed (s : State) (x : List Instr) : (s.setPending x).addressed = s.addressed := rfl
@[simp] theorem State.setPending_cfg (s : State) (x : List Instr) : (s.setPending x).cfg = s.cfg := rfl
@[simp] theorem State.setPending_now (s : State) (x : List Instr) : (s.setPending x).now = s.now := rfl
@[simp] theorem State.setPending_size (s : State) (x : List Instr) : (s.setPending x).size = s.size := rfl
@[simp] theorem State.setPending_fitted (s : State) (x : List Instr) : (s.setPending x).fitted = s.fitted := rfl
@[simp] theorem State.setPending_entry (s : State) (x : List Instr) (a : Nat) : (s.setPending x).entry a = s.entry a := rfl
@[simp] theorem State.setPending_ownHold (s : State) (x : List Instr) (c : Cause) (i : Option Nat) :
    (s.setPending x).ownHold c i = s.ownHold c i := rfl

/-! ### `setPins` -/

@[simp] theorem State.setPins_pending (s : State) (x : Pins) : (s.setPins x).pending = s.pending := rfl
@[simp] theorem State.setPins_pins (s : State) (x : Pins) : (s.setPins x).pins = x := rfl
@[simp] theorem State.setPins_clock (s : State) (x : Pins) : (s.setPins x).clock = s.clock := rfl
@[simp] theorem State.setPins_startup (s : State) (x : Pins) : (s.setPins x).startup = s.startup := rfl
@[simp] theorem State.setPins_sweep (s : State) (x : Pins) : (s.setPins x).sweep = s.sweep := rfl
@[simp] theorem State.setPins_monitors (s : State) (x : Pins) : (s.setPins x).monitors = s.monitors := rfl
@[simp] theorem State.setPins_holds (s : State) (x : Pins) : (s.setPins x).holds = s.holds := rfl
@[simp] theorem State.setPins_roster (s : State) (x : Pins) : (s.setPins x).roster = s.roster := rfl
@[simp] theorem State.setPins_ballot (s : State) (x : Pins) : (s.setPins x).ballot = s.ballot := rfl
@[simp] theorem State.setPins_plan (s : State) (x : Pins) : (s.setPins x).plan = s.plan := rfl
@[simp] theorem State.setPins_switch (s : State) (x : Pins) : (s.setPins x).switch = s.switch := rfl
@[simp] theorem State.setPins_lockout (s : State) (x : Pins) : (s.setPins x).lockout = s.lockout := rfl
@[simp] theorem State.setPins_store (s : State) (x : Pins) : (s.setPins x).store = s.store := rfl
@[simp] theorem State.setPins_link (s : State) (x : Pins) : (s.setPins x).link = s.link := rfl
@[simp] theorem State.setPins_orders (s : State) (x : Pins) : (s.setPins x).orders = s.orders := rfl
@[simp] theorem State.setPins_free (s : State) (x : Pins) : (s.setPins x).free = s.free := rfl
@[simp] theorem State.setPins_own (s : State) (x : Pins) : (s.setPins x).own = s.own := rfl
@[simp] theorem State.setPins_addressed (s : State) (x : Pins) : (s.setPins x).addressed = s.addressed := rfl
@[simp] theorem State.setPins_cfg (s : State) (x : Pins) : (s.setPins x).cfg = s.cfg := rfl
@[simp] theorem State.setPins_now (s : State) (x : Pins) : (s.setPins x).now = s.now := rfl
@[simp] theorem State.setPins_size (s : State) (x : Pins) : (s.setPins x).size = s.size := rfl
@[simp] theorem State.setPins_fitted (s : State) (x : Pins) : (s.setPins x).fitted = s.fitted := rfl
@[simp] theorem State.setPins_entry (s : State) (x : Pins) (a : Nat) : (s.setPins x).entry a = s.entry a := rfl
@[simp] theorem State.setPins_ownHold (s : State) (x : Pins) (c : Cause) (i : Option Nat) :
    (s.setPins x).ownHold c i = s.ownHold c i := rfl

/-! ### `setClock` -/

@[simp] theorem State.setClock_pending (s : State) (x : StationClock) : (s.setClock x).pending = s.pending := rfl
@[simp] theorem State.setClock_pins (s : State) (x : StationClock) : (s.setClock x).pins = s.pins := rfl
@[simp] theorem State.setClock_clock (s : State) (x : StationClock) : (s.setClock x).clock = x := rfl
@[simp] theorem State.setClock_startup (s : State) (x : StationClock) : (s.setClock x).startup = s.startup := rfl
@[simp] theorem State.setClock_sweep (s : State) (x : StationClock) : (s.setClock x).sweep = s.sweep := rfl
@[simp] theorem State.setClock_monitors (s : State) (x : StationClock) : (s.setClock x).monitors = s.monitors := rfl
@[simp] theorem State.setClock_holds (s : State) (x : StationClock) : (s.setClock x).holds = s.holds := rfl
@[simp] theorem State.setClock_roster (s : State) (x : StationClock) : (s.setClock x).roster = s.roster := rfl
@[simp] theorem State.setClock_ballot (s : State) (x : StationClock) : (s.setClock x).ballot = s.ballot := rfl
@[simp] theorem State.setClock_plan (s : State) (x : StationClock) : (s.setClock x).plan = s.plan := rfl
@[simp] theorem State.setClock_switch (s : State) (x : StationClock) : (s.setClock x).switch = s.switch := rfl
@[simp] theorem State.setClock_lockout (s : State) (x : StationClock) : (s.setClock x).lockout = s.lockout := rfl
@[simp] theorem State.setClock_store (s : State) (x : StationClock) : (s.setClock x).store = s.store := rfl
@[simp] theorem State.setClock_link (s : State) (x : StationClock) : (s.setClock x).link = s.link := rfl
@[simp] theorem State.setClock_orders (s : State) (x : StationClock) : (s.setClock x).orders = s.orders := rfl
@[simp] theorem State.setClock_free (s : State) (x : StationClock) : (s.setClock x).free = s.free := rfl
@[simp] theorem State.setClock_own (s : State) (x : StationClock) : (s.setClock x).own = s.own := rfl
@[simp] theorem State.setClock_addressed (s : State) (x : StationClock) : (s.setClock x).addressed = s.addressed := rfl
@[simp] theorem State.setClock_cfg (s : State) (x : StationClock) : (s.setClock x).cfg = s.cfg := rfl
@[simp] theorem State.setClock_size (s : State) (x : StationClock) : (s.setClock x).size = s.size := rfl
@[simp] theorem State.setClock_fitted (s : State) (x : StationClock) : (s.setClock x).fitted = s.fitted := rfl
@[simp] theorem State.setClock_entry (s : State) (x : StationClock) (a : Nat) : (s.setClock x).entry a = s.entry a := rfl
@[simp] theorem State.setClock_ownHold (s : State) (x : StationClock) (c : Cause) (i : Option Nat) :
    (s.setClock x).ownHold c i = s.ownHold c i := rfl

/-! ### `setStartup` -/

@[simp] theorem State.setStartup_pending (s : State) (x : StartSequence) : (s.setStartup x).pending = s.pending := rfl
@[simp] theorem State.setStartup_pins (s : State) (x : StartSequence) : (s.setStartup x).pins = s.pins := rfl
@[simp] theorem State.setStartup_clock (s : State) (x : StartSequence) : (s.setStartup x).clock = s.clock := rfl
@[simp] theorem State.setStartup_startup (s : State) (x : StartSequence) : (s.setStartup x).startup = x := rfl
@[simp] theorem State.setStartup_sweep (s : State) (x : StartSequence) : (s.setStartup x).sweep = s.sweep := rfl
@[simp] theorem State.setStartup_monitors (s : State) (x : StartSequence) : (s.setStartup x).monitors = s.monitors := rfl
@[simp] theorem State.setStartup_holds (s : State) (x : StartSequence) : (s.setStartup x).holds = s.holds := rfl
@[simp] theorem State.setStartup_roster (s : State) (x : StartSequence) : (s.setStartup x).roster = s.roster := rfl
@[simp] theorem State.setStartup_ballot (s : State) (x : StartSequence) : (s.setStartup x).ballot = s.ballot := rfl
@[simp] theorem State.setStartup_plan (s : State) (x : StartSequence) : (s.setStartup x).plan = s.plan := rfl
@[simp] theorem State.setStartup_switch (s : State) (x : StartSequence) : (s.setStartup x).switch = s.switch := rfl
@[simp] theorem State.setStartup_lockout (s : State) (x : StartSequence) : (s.setStartup x).lockout = s.lockout := rfl
@[simp] theorem State.setStartup_store (s : State) (x : StartSequence) : (s.setStartup x).store = s.store := rfl
@[simp] theorem State.setStartup_link (s : State) (x : StartSequence) : (s.setStartup x).link = s.link := rfl
@[simp] theorem State.setStartup_orders (s : State) (x : StartSequence) : (s.setStartup x).orders = s.orders := rfl
@[simp] theorem State.setStartup_free (s : State) (x : StartSequence) : (s.setStartup x).free = s.free := rfl
@[simp] theorem State.setStartup_now (s : State) (x : StartSequence) : (s.setStartup x).now = s.now := rfl
@[simp] theorem State.setStartup_entry (s : State) (x : StartSequence) (a : Nat) : (s.setStartup x).entry a = s.entry a := rfl
@[simp] theorem State.setStartup_ownHold (s : State) (x : StartSequence) (c : Cause) (i : Option Nat) :
    (s.setStartup x).ownHold c i = s.ownHold c i := rfl

/-! ### `setSweep` -/

@[simp] theorem State.setSweep_pending (s : State) (x : SweepUnit) : (s.setSweep x).pending = s.pending := rfl
@[simp] theorem State.setSweep_pins (s : State) (x : SweepUnit) : (s.setSweep x).pins = s.pins := rfl
@[simp] theorem State.setSweep_clock (s : State) (x : SweepUnit) : (s.setSweep x).clock = s.clock := rfl
@[simp] theorem State.setSweep_startup (s : State) (x : SweepUnit) : (s.setSweep x).startup = s.startup := rfl
@[simp] theorem State.setSweep_sweep (s : State) (x : SweepUnit) : (s.setSweep x).sweep = x := rfl
@[simp] theorem State.setSweep_monitors (s : State) (x : SweepUnit) : (s.setSweep x).monitors = s.monitors := rfl
@[simp] theorem State.setSweep_holds (s : State) (x : SweepUnit) : (s.setSweep x).holds = s.holds := rfl
@[simp] theorem State.setSweep_roster (s : State) (x : SweepUnit) : (s.setSweep x).roster = s.roster := rfl
@[simp] theorem State.setSweep_ballot (s : State) (x : SweepUnit) : (s.setSweep x).ballot = s.ballot := rfl
@[simp] theorem State.setSweep_plan (s : State) (x : SweepUnit) : (s.setSweep x).plan = s.plan := rfl
@[simp] theorem State.setSweep_switch (s : State) (x : SweepUnit) : (s.setSweep x).switch = s.switch := rfl
@[simp] theorem State.setSweep_lockout (s : State) (x : SweepUnit) : (s.setSweep x).lockout = s.lockout := rfl
@[simp] theorem State.setSweep_store (s : State) (x : SweepUnit) : (s.setSweep x).store = s.store := rfl
@[simp] theorem State.setSweep_link (s : State) (x : SweepUnit) : (s.setSweep x).link = s.link := rfl
@[simp] theorem State.setSweep_orders (s : State) (x : SweepUnit) : (s.setSweep x).orders = s.orders := rfl
@[simp] theorem State.setSweep_free (s : State) (x : SweepUnit) : (s.setSweep x).free = s.free := rfl
@[simp] theorem State.setSweep_own (s : State) (x : SweepUnit) : (s.setSweep x).own = s.own := rfl
@[simp] theorem State.setSweep_addressed (s : State) (x : SweepUnit) : (s.setSweep x).addressed = s.addressed := rfl
@[simp] theorem State.setSweep_cfg (s : State) (x : SweepUnit) : (s.setSweep x).cfg = s.cfg := rfl
@[simp] theorem State.setSweep_now (s : State) (x : SweepUnit) : (s.setSweep x).now = s.now := rfl
@[simp] theorem State.setSweep_size (s : State) (x : SweepUnit) : (s.setSweep x).size = s.size := rfl
@[simp] theorem State.setSweep_fitted (s : State) (x : SweepUnit) : (s.setSweep x).fitted = s.fitted := rfl
@[simp] theorem State.setSweep_entry (s : State) (x : SweepUnit) (a : Nat) : (s.setSweep x).entry a = s.entry a := rfl
@[simp] theorem State.setSweep_ownHold (s : State) (x : SweepUnit) (c : Cause) (i : Option Nat) :
    (s.setSweep x).ownHold c i = s.ownHold c i := rfl

/-! ### `setMonitors` -/

@[simp] theorem State.setMonitors_pending (s : State) (x : MonitorBank) : (s.setMonitors x).pending = s.pending := rfl
@[simp] theorem State.setMonitors_pins (s : State) (x : MonitorBank) : (s.setMonitors x).pins = s.pins := rfl
@[simp] theorem State.setMonitors_clock (s : State) (x : MonitorBank) : (s.setMonitors x).clock = s.clock := rfl
@[simp] theorem State.setMonitors_startup (s : State) (x : MonitorBank) : (s.setMonitors x).startup = s.startup := rfl
@[simp] theorem State.setMonitors_sweep (s : State) (x : MonitorBank) : (s.setMonitors x).sweep = s.sweep := rfl
@[simp] theorem State.setMonitors_monitors (s : State) (x : MonitorBank) : (s.setMonitors x).monitors = x := rfl
@[simp] theorem State.setMonitors_holds (s : State) (x : MonitorBank) : (s.setMonitors x).holds = s.holds := rfl
@[simp] theorem State.setMonitors_roster (s : State) (x : MonitorBank) : (s.setMonitors x).roster = s.roster := rfl
@[simp] theorem State.setMonitors_ballot (s : State) (x : MonitorBank) : (s.setMonitors x).ballot = s.ballot := rfl
@[simp] theorem State.setMonitors_plan (s : State) (x : MonitorBank) : (s.setMonitors x).plan = s.plan := rfl
@[simp] theorem State.setMonitors_switch (s : State) (x : MonitorBank) : (s.setMonitors x).switch = s.switch := rfl
@[simp] theorem State.setMonitors_lockout (s : State) (x : MonitorBank) : (s.setMonitors x).lockout = s.lockout := rfl
@[simp] theorem State.setMonitors_store (s : State) (x : MonitorBank) : (s.setMonitors x).store = s.store := rfl
@[simp] theorem State.setMonitors_link (s : State) (x : MonitorBank) : (s.setMonitors x).link = s.link := rfl
@[simp] theorem State.setMonitors_orders (s : State) (x : MonitorBank) : (s.setMonitors x).orders = s.orders := rfl
@[simp] theorem State.setMonitors_free (s : State) (x : MonitorBank) : (s.setMonitors x).free = s.free := rfl
@[simp] theorem State.setMonitors_own (s : State) (x : MonitorBank) : (s.setMonitors x).own = s.own := rfl
@[simp] theorem State.setMonitors_addressed (s : State) (x : MonitorBank) : (s.setMonitors x).addressed = s.addressed := rfl
@[simp] theorem State.setMonitors_cfg (s : State) (x : MonitorBank) : (s.setMonitors x).cfg = s.cfg := rfl
@[simp] theorem State.setMonitors_now (s : State) (x : MonitorBank) : (s.setMonitors x).now = s.now := rfl
@[simp] theorem State.setMonitors_size (s : State) (x : MonitorBank) : (s.setMonitors x).size = s.size := rfl
@[simp] theorem State.setMonitors_fitted (s : State) (x : MonitorBank) : (s.setMonitors x).fitted = s.fitted := rfl
@[simp] theorem State.setMonitors_entry (s : State) (x : MonitorBank) (a : Nat) : (s.setMonitors x).entry a = s.entry a := rfl
@[simp] theorem State.setMonitors_ownHold (s : State) (x : MonitorBank) (c : Cause) (i : Option Nat) :
    (s.setMonitors x).ownHold c i = s.ownHold c i := rfl

/-! ### `setHolds` -/

@[simp] theorem State.setHolds_pending (s : State) (x : HoldUnit) : (s.setHolds x).pending = s.pending := rfl
@[simp] theorem State.setHolds_pins (s : State) (x : HoldUnit) : (s.setHolds x).pins = s.pins := rfl
@[simp] theorem State.setHolds_clock (s : State) (x : HoldUnit) : (s.setHolds x).clock = s.clock := rfl
@[simp] theorem State.setHolds_startup (s : State) (x : HoldUnit) : (s.setHolds x).startup = s.startup := rfl
@[simp] theorem State.setHolds_sweep (s : State) (x : HoldUnit) : (s.setHolds x).sweep = s.sweep := rfl
@[simp] theorem State.setHolds_monitors (s : State) (x : HoldUnit) : (s.setHolds x).monitors = s.monitors := rfl
@[simp] theorem State.setHolds_holds (s : State) (x : HoldUnit) : (s.setHolds x).holds = x := rfl
@[simp] theorem State.setHolds_roster (s : State) (x : HoldUnit) : (s.setHolds x).roster = s.roster := rfl
@[simp] theorem State.setHolds_ballot (s : State) (x : HoldUnit) : (s.setHolds x).ballot = s.ballot := rfl
@[simp] theorem State.setHolds_plan (s : State) (x : HoldUnit) : (s.setHolds x).plan = s.plan := rfl
@[simp] theorem State.setHolds_switch (s : State) (x : HoldUnit) : (s.setHolds x).switch = s.switch := rfl
@[simp] theorem State.setHolds_lockout (s : State) (x : HoldUnit) : (s.setHolds x).lockout = s.lockout := rfl
@[simp] theorem State.setHolds_store (s : State) (x : HoldUnit) : (s.setHolds x).store = s.store := rfl
@[simp] theorem State.setHolds_link (s : State) (x : HoldUnit) : (s.setHolds x).link = s.link := rfl
@[simp] theorem State.setHolds_orders (s : State) (x : HoldUnit) : (s.setHolds x).orders = s.orders := rfl
@[simp] theorem State.setHolds_free (s : State) (x : HoldUnit) : (s.setHolds x).free = s.free := rfl
@[simp] theorem State.setHolds_own (s : State) (x : HoldUnit) : (s.setHolds x).own = s.own := rfl
@[simp] theorem State.setHolds_addressed (s : State) (x : HoldUnit) : (s.setHolds x).addressed = s.addressed := rfl
@[simp] theorem State.setHolds_cfg (s : State) (x : HoldUnit) : (s.setHolds x).cfg = s.cfg := rfl
@[simp] theorem State.setHolds_now (s : State) (x : HoldUnit) : (s.setHolds x).now = s.now := rfl
@[simp] theorem State.setHolds_size (s : State) (x : HoldUnit) : (s.setHolds x).size = s.size := rfl
@[simp] theorem State.setHolds_fitted (s : State) (x : HoldUnit) : (s.setHolds x).fitted = s.fitted := rfl
@[simp] theorem State.setHolds_entry (s : State) (x : HoldUnit) (a : Nat) : (s.setHolds x).entry a = s.entry a := rfl

/-! ### `setRoster` -/

@[simp] theorem State.setRoster_pending (s : State) (x : Roster) : (s.setRoster x).pending = s.pending := rfl
@[simp] theorem State.setRoster_pins (s : State) (x : Roster) : (s.setRoster x).pins = s.pins := rfl
@[simp] theorem State.setRoster_clock (s : State) (x : Roster) : (s.setRoster x).clock = s.clock := rfl
@[simp] theorem State.setRoster_startup (s : State) (x : Roster) : (s.setRoster x).startup = s.startup := rfl
@[simp] theorem State.setRoster_sweep (s : State) (x : Roster) : (s.setRoster x).sweep = s.sweep := rfl
@[simp] theorem State.setRoster_monitors (s : State) (x : Roster) : (s.setRoster x).monitors = s.monitors := rfl
@[simp] theorem State.setRoster_holds (s : State) (x : Roster) : (s.setRoster x).holds = s.holds := rfl
@[simp] theorem State.setRoster_roster (s : State) (x : Roster) : (s.setRoster x).roster = x := rfl
@[simp] theorem State.setRoster_ballot (s : State) (x : Roster) : (s.setRoster x).ballot = s.ballot := rfl
@[simp] theorem State.setRoster_plan (s : State) (x : Roster) : (s.setRoster x).plan = s.plan := rfl
@[simp] theorem State.setRoster_switch (s : State) (x : Roster) : (s.setRoster x).switch = s.switch := rfl
@[simp] theorem State.setRoster_lockout (s : State) (x : Roster) : (s.setRoster x).lockout = s.lockout := rfl
@[simp] theorem State.setRoster_store (s : State) (x : Roster) : (s.setRoster x).store = s.store := rfl
@[simp] theorem State.setRoster_link (s : State) (x : Roster) : (s.setRoster x).link = s.link := rfl
@[simp] theorem State.setRoster_orders (s : State) (x : Roster) : (s.setRoster x).orders = s.orders := rfl
@[simp] theorem State.setRoster_free (s : State) (x : Roster) : (s.setRoster x).free = s.free := rfl
@[simp] theorem State.setRoster_own (s : State) (x : Roster) : (s.setRoster x).own = s.own := rfl
@[simp] theorem State.setRoster_addressed (s : State) (x : Roster) : (s.setRoster x).addressed = s.addressed := rfl
@[simp] theorem State.setRoster_cfg (s : State) (x : Roster) : (s.setRoster x).cfg = s.cfg := rfl
@[simp] theorem State.setRoster_now (s : State) (x : Roster) : (s.setRoster x).now = s.now := rfl
@[simp] theorem State.setRoster_size (s : State) (x : Roster) : (s.setRoster x).size = s.size := rfl
@[simp] theorem State.setRoster_fitted (s : State) (x : Roster) : (s.setRoster x).fitted = s.fitted := rfl
@[simp] theorem State.setRoster_ownHold (s : State) (x : Roster) (c : Cause) (i : Option Nat) :
    (s.setRoster x).ownHold c i = s.ownHold c i := rfl

/-! ### `setBallot` -/

@[simp] theorem State.setBallot_pending (s : State) (x : BallotUnit) : (s.setBallot x).pending = s.pending := rfl
@[simp] theorem State.setBallot_pins (s : State) (x : BallotUnit) : (s.setBallot x).pins = s.pins := rfl
@[simp] theorem State.setBallot_clock (s : State) (x : BallotUnit) : (s.setBallot x).clock = s.clock := rfl
@[simp] theorem State.setBallot_startup (s : State) (x : BallotUnit) : (s.setBallot x).startup = s.startup := rfl
@[simp] theorem State.setBallot_sweep (s : State) (x : BallotUnit) : (s.setBallot x).sweep = s.sweep := rfl
@[simp] theorem State.setBallot_monitors (s : State) (x : BallotUnit) : (s.setBallot x).monitors = s.monitors := rfl
@[simp] theorem State.setBallot_holds (s : State) (x : BallotUnit) : (s.setBallot x).holds = s.holds := rfl
@[simp] theorem State.setBallot_roster (s : State) (x : BallotUnit) : (s.setBallot x).roster = s.roster := rfl
@[simp] theorem State.setBallot_ballot (s : State) (x : BallotUnit) : (s.setBallot x).ballot = x := rfl
@[simp] theorem State.setBallot_plan (s : State) (x : BallotUnit) : (s.setBallot x).plan = s.plan := rfl
@[simp] theorem State.setBallot_switch (s : State) (x : BallotUnit) : (s.setBallot x).switch = s.switch := rfl
@[simp] theorem State.setBallot_lockout (s : State) (x : BallotUnit) : (s.setBallot x).lockout = s.lockout := rfl
@[simp] theorem State.setBallot_store (s : State) (x : BallotUnit) : (s.setBallot x).store = s.store := rfl
@[simp] theorem State.setBallot_link (s : State) (x : BallotUnit) : (s.setBallot x).link = s.link := rfl
@[simp] theorem State.setBallot_orders (s : State) (x : BallotUnit) : (s.setBallot x).orders = s.orders := rfl
@[simp] theorem State.setBallot_free (s : State) (x : BallotUnit) : (s.setBallot x).free = s.free := rfl
@[simp] theorem State.setBallot_own (s : State) (x : BallotUnit) : (s.setBallot x).own = s.own := rfl
@[simp] theorem State.setBallot_addressed (s : State) (x : BallotUnit) : (s.setBallot x).addressed = s.addressed := rfl
@[simp] theorem State.setBallot_cfg (s : State) (x : BallotUnit) : (s.setBallot x).cfg = s.cfg := rfl
@[simp] theorem State.setBallot_now (s : State) (x : BallotUnit) : (s.setBallot x).now = s.now := rfl
@[simp] theorem State.setBallot_size (s : State) (x : BallotUnit) : (s.setBallot x).size = s.size := rfl
@[simp] theorem State.setBallot_fitted (s : State) (x : BallotUnit) : (s.setBallot x).fitted = s.fitted := rfl
@[simp] theorem State.setBallot_entry (s : State) (x : BallotUnit) (a : Nat) : (s.setBallot x).entry a = s.entry a := rfl
@[simp] theorem State.setBallot_ownHold (s : State) (x : BallotUnit) (c : Cause) (i : Option Nat) :
    (s.setBallot x).ownHold c i = s.ownHold c i := rfl

/-! ### `setPlan` -/

@[simp] theorem State.setPlan_pending (s : State) (x : PlanRecord) : (s.setPlan x).pending = s.pending := rfl
@[simp] theorem State.setPlan_pins (s : State) (x : PlanRecord) : (s.setPlan x).pins = s.pins := rfl
@[simp] theorem State.setPlan_clock (s : State) (x : PlanRecord) : (s.setPlan x).clock = s.clock := rfl
@[simp] theorem State.setPlan_startup (s : State) (x : PlanRecord) : (s.setPlan x).startup = s.startup := rfl
@[simp] theorem State.setPlan_sweep (s : State) (x : PlanRecord) : (s.setPlan x).sweep = s.sweep := rfl
@[simp] theorem State.setPlan_monitors (s : State) (x : PlanRecord) : (s.setPlan x).monitors = s.monitors := rfl
@[simp] theorem State.setPlan_holds (s : State) (x : PlanRecord) : (s.setPlan x).holds = s.holds := rfl
@[simp] theorem State.setPlan_roster (s : State) (x : PlanRecord) : (s.setPlan x).roster = s.roster := rfl
@[simp] theorem State.setPlan_ballot (s : State) (x : PlanRecord) : (s.setPlan x).ballot = s.ballot := rfl
@[simp] theorem State.setPlan_plan (s : State) (x : PlanRecord) : (s.setPlan x).plan = x := rfl
@[simp] theorem State.setPlan_switch (s : State) (x : PlanRecord) : (s.setPlan x).switch = s.switch := rfl
@[simp] theorem State.setPlan_lockout (s : State) (x : PlanRecord) : (s.setPlan x).lockout = s.lockout := rfl
@[simp] theorem State.setPlan_store (s : State) (x : PlanRecord) : (s.setPlan x).store = s.store := rfl
@[simp] theorem State.setPlan_link (s : State) (x : PlanRecord) : (s.setPlan x).link = s.link := rfl
@[simp] theorem State.setPlan_orders (s : State) (x : PlanRecord) : (s.setPlan x).orders = s.orders := rfl
@[simp] theorem State.setPlan_free (s : State) (x : PlanRecord) : (s.setPlan x).free = s.free := rfl
@[simp] theorem State.setPlan_own (s : State) (x : PlanRecord) : (s.setPlan x).own = s.own := rfl
@[simp] theorem State.setPlan_addressed (s : State) (x : PlanRecord) : (s.setPlan x).addressed = s.addressed := rfl
@[simp] theorem State.setPlan_cfg (s : State) (x : PlanRecord) : (s.setPlan x).cfg = s.cfg := rfl
@[simp] theorem State.setPlan_now (s : State) (x : PlanRecord) : (s.setPlan x).now = s.now := rfl
@[simp] theorem State.setPlan_size (s : State) (x : PlanRecord) : (s.setPlan x).size = s.size := rfl
@[simp] theorem State.setPlan_fitted (s : State) (x : PlanRecord) : (s.setPlan x).fitted = s.fitted := rfl
@[simp] theorem State.setPlan_entry (s : State) (x : PlanRecord) (a : Nat) : (s.setPlan x).entry a = s.entry a := rfl
@[simp] theorem State.setPlan_ownHold (s : State) (x : PlanRecord) (c : Cause) (i : Option Nat) :
    (s.setPlan x).ownHold c i = s.ownHold c i := rfl

/-! ### `setSwitch` -/

@[simp] theorem State.setSwitch_pending (s : State) (x : SwitchDriver) : (s.setSwitch x).pending = s.pending := rfl
@[simp] theorem State.setSwitch_pins (s : State) (x : SwitchDriver) : (s.setSwitch x).pins = s.pins := rfl
@[simp] theorem State.setSwitch_clock (s : State) (x : SwitchDriver) : (s.setSwitch x).clock = s.clock := rfl
@[simp] theorem State.setSwitch_startup (s : State) (x : SwitchDriver) : (s.setSwitch x).startup = s.startup := rfl
@[simp] theorem State.setSwitch_sweep (s : State) (x : SwitchDriver) : (s.setSwitch x).sweep = s.sweep := rfl
@[simp] theorem State.setSwitch_monitors (s : State) (x : SwitchDriver) : (s.setSwitch x).monitors = s.monitors := rfl
@[simp] theorem State.setSwitch_holds (s : State) (x : SwitchDriver) : (s.setSwitch x).holds = s.holds := rfl
@[simp] theorem State.setSwitch_roster (s : State) (x : SwitchDriver) : (s.setSwitch x).roster = s.roster := rfl
@[simp] theorem State.setSwitch_ballot (s : State) (x : SwitchDriver) : (s.setSwitch x).ballot = s.ballot := rfl
@[simp] theorem State.setSwitch_plan (s : State) (x : SwitchDriver) : (s.setSwitch x).plan = s.plan := rfl
@[simp] theorem State.setSwitch_switch (s : State) (x : SwitchDriver) : (s.setSwitch x).switch = x := rfl
@[simp] theorem State.setSwitch_lockout (s : State) (x : SwitchDriver) : (s.setSwitch x).lockout = s.lockout := rfl
@[simp] theorem State.setSwitch_store (s : State) (x : SwitchDriver) : (s.setSwitch x).store = s.store := rfl
@[simp] theorem State.setSwitch_link (s : State) (x : SwitchDriver) : (s.setSwitch x).link = s.link := rfl
@[simp] theorem State.setSwitch_orders (s : State) (x : SwitchDriver) : (s.setSwitch x).orders = s.orders := rfl
@[simp] theorem State.setSwitch_free (s : State) (x : SwitchDriver) : (s.setSwitch x).free = s.free := rfl
@[simp] theorem State.setSwitch_own (s : State) (x : SwitchDriver) : (s.setSwitch x).own = s.own := rfl
@[simp] theorem State.setSwitch_addressed (s : State) (x : SwitchDriver) : (s.setSwitch x).addressed = s.addressed := rfl
@[simp] theorem State.setSwitch_cfg (s : State) (x : SwitchDriver) : (s.setSwitch x).cfg = s.cfg := rfl
@[simp] theorem State.setSwitch_now (s : State) (x : SwitchDriver) : (s.setSwitch x).now = s.now := rfl
@[simp] theorem State.setSwitch_size (s : State) (x : SwitchDriver) : (s.setSwitch x).size = s.size := rfl
@[simp] theorem State.setSwitch_fitted (s : State) (x : SwitchDriver) : (s.setSwitch x).fitted = s.fitted := rfl
@[simp] theorem State.setSwitch_entry (s : State) (x : SwitchDriver) (a : Nat) : (s.setSwitch x).entry a = s.entry a := rfl
@[simp] theorem State.setSwitch_ownHold (s : State) (x : SwitchDriver) (c : Cause) (i : Option Nat) :
    (s.setSwitch x).ownHold c i = s.ownHold c i := rfl

/-! ### `setLockout` -/

@[simp] theorem State.setLockout_pending (s : State) (x : LockoutUnit) : (s.setLockout x).pending = s.pending := rfl
@[simp] theorem State.setLockout_pins (s : State) (x : LockoutUnit) : (s.setLockout x).pins = s.pins := rfl
@[simp] theorem State.setLockout_clock (s : State) (x : LockoutUnit) : (s.setLockout x).clock = s.clock := rfl
@[simp] theorem State.setLockout_startup (s : State) (x : LockoutUnit) : (s.setLockout x).startup = s.startup := rfl
@[simp] theorem State.setLockout_sweep (s : State) (x : LockoutUnit) : (s.setLockout x).sweep = s.sweep := rfl
@[simp] theorem State.setLockout_monitors (s : State) (x : LockoutUnit) : (s.setLockout x).monitors = s.monitors := rfl
@[simp] theorem State.setLockout_holds (s : State) (x : LockoutUnit) : (s.setLockout x).holds = s.holds := rfl
@[simp] theorem State.setLockout_roster (s : State) (x : LockoutUnit) : (s.setLockout x).roster = s.roster := rfl
@[simp] theorem State.setLockout_ballot (s : State) (x : LockoutUnit) : (s.setLockout x).ballot = s.ballot := rfl
@[simp] theorem State.setLockout_plan (s : State) (x : LockoutUnit) : (s.setLockout x).plan = s.plan := rfl
@[simp] theorem State.setLockout_switch (s : State) (x : LockoutUnit) : (s.setLockout x).switch = s.switch := rfl
@[simp] theorem State.setLockout_lockout (s : State) (x : LockoutUnit) : (s.setLockout x).lockout = x := rfl
@[simp] theorem State.setLockout_store (s : State) (x : LockoutUnit) : (s.setLockout x).store = s.store := rfl
@[simp] theorem State.setLockout_link (s : State) (x : LockoutUnit) : (s.setLockout x).link = s.link := rfl
@[simp] theorem State.setLockout_orders (s : State) (x : LockoutUnit) : (s.setLockout x).orders = s.orders := rfl
@[simp] theorem State.setLockout_free (s : State) (x : LockoutUnit) : (s.setLockout x).free = s.free := rfl
@[simp] theorem State.setLockout_own (s : State) (x : LockoutUnit) : (s.setLockout x).own = s.own := rfl
@[simp] theorem State.setLockout_addressed (s : State) (x : LockoutUnit) : (s.setLockout x).addressed = s.addressed := rfl
@[simp] theorem State.setLockout_cfg (s : State) (x : LockoutUnit) : (s.setLockout x).cfg = s.cfg := rfl
@[simp] theorem State.setLockout_now (s : State) (x : LockoutUnit) : (s.setLockout x).now = s.now := rfl
@[simp] theorem State.setLockout_size (s : State) (x : LockoutUnit) : (s.setLockout x).size = s.size := rfl
@[simp] theorem State.setLockout_fitted (s : State) (x : LockoutUnit) : (s.setLockout x).fitted = s.fitted := rfl
@[simp] theorem State.setLockout_entry (s : State) (x : LockoutUnit) (a : Nat) : (s.setLockout x).entry a = s.entry a := rfl
@[simp] theorem State.setLockout_ownHold (s : State) (x : LockoutUnit) (c : Cause) (i : Option Nat) :
    (s.setLockout x).ownHold c i = s.ownHold c i := rfl

/-! ### `setStore` -/

@[simp] theorem State.setStore_pending (s : State) (x : RetainedStore) : (s.setStore x).pending = s.pending := rfl
@[simp] theorem State.setStore_pins (s : State) (x : RetainedStore) : (s.setStore x).pins = s.pins := rfl
@[simp] theorem State.setStore_clock (s : State) (x : RetainedStore) : (s.setStore x).clock = s.clock := rfl
@[simp] theorem State.setStore_startup (s : State) (x : RetainedStore) : (s.setStore x).startup = s.startup := rfl
@[simp] theorem State.setStore_sweep (s : State) (x : RetainedStore) : (s.setStore x).sweep = s.sweep := rfl
@[simp] theorem State.setStore_monitors (s : State) (x : RetainedStore) : (s.setStore x).monitors = s.monitors := rfl
@[simp] theorem State.setStore_holds (s : State) (x : RetainedStore) : (s.setStore x).holds = s.holds := rfl
@[simp] theorem State.setStore_roster (s : State) (x : RetainedStore) : (s.setStore x).roster = s.roster := rfl
@[simp] theorem State.setStore_ballot (s : State) (x : RetainedStore) : (s.setStore x).ballot = s.ballot := rfl
@[simp] theorem State.setStore_plan (s : State) (x : RetainedStore) : (s.setStore x).plan = s.plan := rfl
@[simp] theorem State.setStore_switch (s : State) (x : RetainedStore) : (s.setStore x).switch = s.switch := rfl
@[simp] theorem State.setStore_lockout (s : State) (x : RetainedStore) : (s.setStore x).lockout = s.lockout := rfl
@[simp] theorem State.setStore_store (s : State) (x : RetainedStore) : (s.setStore x).store = x := rfl
@[simp] theorem State.setStore_link (s : State) (x : RetainedStore) : (s.setStore x).link = s.link := rfl
@[simp] theorem State.setStore_orders (s : State) (x : RetainedStore) : (s.setStore x).orders = s.orders := rfl
@[simp] theorem State.setStore_free (s : State) (x : RetainedStore) : (s.setStore x).free = s.free := rfl
@[simp] theorem State.setStore_own (s : State) (x : RetainedStore) : (s.setStore x).own = s.own := rfl
@[simp] theorem State.setStore_addressed (s : State) (x : RetainedStore) : (s.setStore x).addressed = s.addressed := rfl
@[simp] theorem State.setStore_cfg (s : State) (x : RetainedStore) : (s.setStore x).cfg = s.cfg := rfl
@[simp] theorem State.setStore_now (s : State) (x : RetainedStore) : (s.setStore x).now = s.now := rfl
@[simp] theorem State.setStore_size (s : State) (x : RetainedStore) : (s.setStore x).size = s.size := rfl
@[simp] theorem State.setStore_fitted (s : State) (x : RetainedStore) : (s.setStore x).fitted = s.fitted := rfl
@[simp] theorem State.setStore_entry (s : State) (x : RetainedStore) (a : Nat) : (s.setStore x).entry a = s.entry a := rfl
@[simp] theorem State.setStore_ownHold (s : State) (x : RetainedStore) (c : Cause) (i : Option Nat) :
    (s.setStore x).ownHold c i = s.ownHold c i := rfl

/-! ### `setLink` -/

@[simp] theorem State.setLink_pending (s : State) (x : LinkController) : (s.setLink x).pending = s.pending := rfl
@[simp] theorem State.setLink_pins (s : State) (x : LinkController) : (s.setLink x).pins = s.pins := rfl
@[simp] theorem State.setLink_clock (s : State) (x : LinkController) : (s.setLink x).clock = s.clock := rfl
@[simp] theorem State.setLink_startup (s : State) (x : LinkController) : (s.setLink x).startup = s.startup := rfl
@[simp] theorem State.setLink_sweep (s : State) (x : LinkController) : (s.setLink x).sweep = s.sweep := rfl
@[simp] theorem State.setLink_monitors (s : State) (x : LinkController) : (s.setLink x).monitors = s.monitors := rfl
@[simp] theorem State.setLink_holds (s : State) (x : LinkController) : (s.setLink x).holds = s.holds := rfl
@[simp] theorem State.setLink_roster (s : State) (x : LinkController) : (s.setLink x).roster = s.roster := rfl
@[simp] theorem State.setLink_ballot (s : State) (x : LinkController) : (s.setLink x).ballot = s.ballot := rfl
@[simp] theorem State.setLink_plan (s : State) (x : LinkController) : (s.setLink x).plan = s.plan := rfl
@[simp] theorem State.setLink_switch (s : State) (x : LinkController) : (s.setLink x).switch = s.switch := rfl
@[simp] theorem State.setLink_lockout (s : State) (x : LinkController) : (s.setLink x).lockout = s.lockout := rfl
@[simp] theorem State.setLink_store (s : State) (x : LinkController) : (s.setLink x).store = s.store := rfl
@[simp] theorem State.setLink_link (s : State) (x : LinkController) : (s.setLink x).link = x := rfl
@[simp] theorem State.setLink_orders (s : State) (x : LinkController) : (s.setLink x).orders = s.orders := rfl
@[simp] theorem State.setLink_free (s : State) (x : LinkController) : (s.setLink x).free = s.free := rfl
@[simp] theorem State.setLink_own (s : State) (x : LinkController) : (s.setLink x).own = s.own := rfl
@[simp] theorem State.setLink_addressed (s : State) (x : LinkController) : (s.setLink x).addressed = s.addressed := rfl
@[simp] theorem State.setLink_cfg (s : State) (x : LinkController) : (s.setLink x).cfg = s.cfg := rfl
@[simp] theorem State.setLink_now (s : State) (x : LinkController) : (s.setLink x).now = s.now := rfl
@[simp] theorem State.setLink_size (s : State) (x : LinkController) : (s.setLink x).size = s.size := rfl
@[simp] theorem State.setLink_fitted (s : State) (x : LinkController) : (s.setLink x).fitted = s.fitted := rfl
@[simp] theorem State.setLink_entry (s : State) (x : LinkController) (a : Nat) : (s.setLink x).entry a = s.entry a := rfl
@[simp] theorem State.setLink_ownHold (s : State) (x : LinkController) (c : Cause) (i : Option Nat) :
    (s.setLink x).ownHold c i = s.ownHold c i := rfl

/-! ### `setOrders` -/

@[simp] theorem State.setOrders_pending (s : State) (x : OrderHandler) : (s.setOrders x).pending = s.pending := rfl
@[simp] theorem State.setOrders_pins (s : State) (x : OrderHandler) : (s.setOrders x).pins = s.pins := rfl
@[simp] theorem State.setOrders_clock (s : State) (x : OrderHandler) : (s.setOrders x).clock = s.clock := rfl
@[simp] theorem State.setOrders_startup (s : State) (x : OrderHandler) : (s.setOrders x).startup = s.startup := rfl
@[simp] theorem State.setOrders_sweep (s : State) (x : OrderHandler) : (s.setOrders x).sweep = s.sweep := rfl
@[simp] theorem State.setOrders_monitors (s : State) (x : OrderHandler) : (s.setOrders x).monitors = s.monitors := rfl
@[simp] theorem State.setOrders_holds (s : State) (x : OrderHandler) : (s.setOrders x).holds = s.holds := rfl
@[simp] theorem State.setOrders_roster (s : State) (x : OrderHandler) : (s.setOrders x).roster = s.roster := rfl
@[simp] theorem State.setOrders_ballot (s : State) (x : OrderHandler) : (s.setOrders x).ballot = s.ballot := rfl
@[simp] theorem State.setOrders_plan (s : State) (x : OrderHandler) : (s.setOrders x).plan = s.plan := rfl
@[simp] theorem State.setOrders_switch (s : State) (x : OrderHandler) : (s.setOrders x).switch = s.switch := rfl
@[simp] theorem State.setOrders_lockout (s : State) (x : OrderHandler) : (s.setOrders x).lockout = s.lockout := rfl
@[simp] theorem State.setOrders_store (s : State) (x : OrderHandler) : (s.setOrders x).store = s.store := rfl
@[simp] theorem State.setOrders_link (s : State) (x : OrderHandler) : (s.setOrders x).link = s.link := rfl
@[simp] theorem State.setOrders_orders (s : State) (x : OrderHandler) : (s.setOrders x).orders = x := rfl
@[simp] theorem State.setOrders_free (s : State) (x : OrderHandler) : (s.setOrders x).free = s.free := rfl
@[simp] theorem State.setOrders_own (s : State) (x : OrderHandler) : (s.setOrders x).own = s.own := rfl
@[simp] theorem State.setOrders_addressed (s : State) (x : OrderHandler) : (s.setOrders x).addressed = s.addressed := rfl
@[simp] theorem State.setOrders_cfg (s : State) (x : OrderHandler) : (s.setOrders x).cfg = s.cfg := rfl
@[simp] theorem State.setOrders_now (s : State) (x : OrderHandler) : (s.setOrders x).now = s.now := rfl
@[simp] theorem State.setOrders_size (s : State) (x : OrderHandler) : (s.setOrders x).size = s.size := rfl
@[simp] theorem State.setOrders_fitted (s : State) (x : OrderHandler) : (s.setOrders x).fitted = s.fitted := rfl
@[simp] theorem State.setOrders_entry (s : State) (x : OrderHandler) (a : Nat) : (s.setOrders x).entry a = s.entry a := rfl
@[simp] theorem State.setOrders_ownHold (s : State) (x : OrderHandler) (c : Cause) (i : Option Nat) :
    (s.setOrders x).ownHold c i = s.ownHold c i := rfl

/-! ### `setFree` -/

@[simp] theorem State.setFree_pending (s : State) (x : Nat) : (s.setFree x).pending = s.pending := rfl
@[simp] theorem State.setFree_pins (s : State) (x : Nat) : (s.setFree x).pins = s.pins := rfl
@[simp] theorem State.setFree_clock (s : State) (x : Nat) : (s.setFree x).clock = s.clock := rfl
@[simp] theorem State.setFree_startup (s : State) (x : Nat) : (s.setFree x).startup = s.startup := rfl
@[simp] theorem State.setFree_sweep (s : State) (x : Nat) : (s.setFree x).sweep = s.sweep := rfl
@[simp] theorem State.setFree_monitors (s : State) (x : Nat) : (s.setFree x).monitors = s.monitors := rfl
@[simp] theorem State.setFree_holds (s : State) (x : Nat) : (s.setFree x).holds = s.holds := rfl
@[simp] theorem State.setFree_roster (s : State) (x : Nat) : (s.setFree x).roster = s.roster := rfl
@[simp] theorem State.setFree_ballot (s : State) (x : Nat) : (s.setFree x).ballot = s.ballot := rfl
@[simp] theorem State.setFree_plan (s : State) (x : Nat) : (s.setFree x).plan = s.plan := rfl
@[simp] theorem State.setFree_switch (s : State) (x : Nat) : (s.setFree x).switch = s.switch := rfl
@[simp] theorem State.setFree_lockout (s : State) (x : Nat) : (s.setFree x).lockout = s.lockout := rfl
@[simp] theorem State.setFree_store (s : State) (x : Nat) : (s.setFree x).store = s.store := rfl
@[simp] theorem State.setFree_link (s : State) (x : Nat) : (s.setFree x).link = s.link := rfl
@[simp] theorem State.setFree_orders (s : State) (x : Nat) : (s.setFree x).orders = s.orders := rfl
@[simp] theorem State.setFree_free (s : State) (x : Nat) : (s.setFree x).free = x := rfl
@[simp] theorem State.setFree_own (s : State) (x : Nat) : (s.setFree x).own = s.own := rfl
@[simp] theorem State.setFree_addressed (s : State) (x : Nat) : (s.setFree x).addressed = s.addressed := rfl
@[simp] theorem State.setFree_cfg (s : State) (x : Nat) : (s.setFree x).cfg = s.cfg := rfl
@[simp] theorem State.setFree_now (s : State) (x : Nat) : (s.setFree x).now = s.now := rfl
@[simp] theorem State.setFree_size (s : State) (x : Nat) : (s.setFree x).size = s.size := rfl
@[simp] theorem State.setFree_fitted (s : State) (x : Nat) : (s.setFree x).fitted = s.fitted := rfl
@[simp] theorem State.setFree_entry (s : State) (x : Nat) (a : Nat) : (s.setFree x).entry a = s.entry a := rfl
@[simp] theorem State.setFree_ownHold (s : State) (x : Nat) (c : Cause) (i : Option Nat) :
    (s.setFree x).ownHold c i = s.ownHold c i := rfl

end Sys2Proof.Machine
end

