-- ==== Sys2Proof/Laws/Ops.lean ====
section
/-! SUPPORT. Which blocks change under the shared operations over holds, links and modes: every other block is as it was (one lemma per operation and block). -/

set_option linter.unusedTactic false
set_option linter.unnecessarySeqFocus false
set_option linter.unreachableTactic false
set_option linter.unusedSimpArgs false

namespace Sys2Proof.Machine

/-- What every step of a fold keeps, the fold keeps. -/
theorem foldl_keeps {α β γ : Type} (p : β → γ) (f : β → α → β) (h : ∀ b a, p (f b a) = p b) :
    ∀ (l : List α) (b : β), p (l.foldl f b) = p b
  | [], _ => rfl
  | a :: l, b => (foldl_keeps p f h l (f b a)).trans (h b a)

/-! ### `settleReadiness` -/

@[simp] theorem settleReadiness_pending (r s : State) : (settleReadiness r s).pending = s.pending := by
  unfold settleReadiness; (try dsimp only); (repeat' split) <;> simp
@[simp] theorem settleReadiness_pins (r s : State) : (settleReadiness r s).pins = s.pins := by
  unfold settleReadiness; (try dsimp only); (repeat' split) <;> simp
@[simp] theorem settleReadiness_clock (r s : State) : (settleReadiness r s).clock = s.clock := by
  unfold settleReadiness; (try dsimp only); (repeat' split) <;> simp
@[simp] theorem settleReadiness_startup (r s : State) : (settleReadiness r s).startup = s.startup := by
  unfold settleReadiness; (try dsimp only); (repeat' split) <;> simp
@[simp] theorem settleReadiness_sweep (r s : State) : (settleReadiness r s).sweep = s.sweep := by
  unfold settleReadiness; (try dsimp only); (repeat' split) <;> simp
@[simp] theorem settleReadiness_monitors (r s : State) : (settleReadiness r s).monitors = s.monitors := by
  unfold settleReadiness; (try dsimp only); (repeat' split) <;> simp
@[simp] theorem settleReadiness_holds (r s : State) : (settleReadiness r s).holds = s.holds := by
  unfold settleReadiness; (try dsimp only); (repeat' split) <;> simp
@[simp] theorem settleReadiness_roster (r s : State) : (settleReadiness r s).roster = s.roster := by
  unfold settleReadiness; (try dsimp only); (repeat' split) <;> simp
@[simp] theorem settleReadiness_plan (r s : State) : (settleReadiness r s).plan = s.plan := by
  unfold settleReadiness; (try dsimp only); (repeat' split) <;> simp
@[simp] theorem settleReadiness_switch (r s : State) : (settleReadiness r s).switch = s.switch := by
  unfold settleReadiness; (try dsimp only); (repeat' split) <;> simp
@[simp] theorem settleReadiness_lockout (r s : State) : (settleReadiness r s).lockout = s.lockout := by
  unfold settleReadiness; (try dsimp only); (repeat' split) <;> simp
@[simp] theorem settleReadiness_store (r s : State) : (settleReadiness r s).store = s.store := by
  unfold settleReadiness; (try dsimp only); (repeat' split) <;> simp
@[simp] theorem settleReadiness_link (r s : State) : (settleReadiness r s).link = s.link := by
  unfold settleReadiness; (try dsimp only); (repeat' split) <;> simp
@[simp] theorem settleReadiness_orders (r s : State) : (settleReadiness r s).orders = s.orders := by
  unfold settleReadiness; (try dsimp only); (repeat' split) <;> simp
@[simp] theorem settleReadiness_free (r s : State) : (settleReadiness r s).free = s.free := by
  unfold settleReadiness; (try dsimp only); (repeat' split) <;> simp

/-! ### `State.changeHolds` -/

@[simp] theorem State.changeHolds_pending (s : State) (x : HoldUnit) : (State.changeHolds s x).pending = s.pending := by
  unfold State.changeHolds; (try dsimp only); (repeat' split) <;> simp
@[simp] theorem State.changeHolds_pins (s : State) (x : HoldUnit) : (State.changeHolds s x).pins = s.pins := by
  unfold State.changeHolds; (try dsimp only); (repeat' split) <;> simp
@[simp] theorem State.changeHolds_clock (s : State) (x : HoldUnit) : (State.changeHolds s x).clock = s.clock := by
  unfold State.changeHolds; (try dsimp only); (repeat' split) <;> simp
@[simp] theorem State.changeHolds_startup (s : State) (x : HoldUnit) : (State.changeHolds s x).startup = s.startup := by
  unfold State.changeHolds; (try dsimp only); (repeat' split) <;> simp
@[simp] theorem State.changeHolds_sweep (s : State) (x : HoldUnit) : (State.changeHolds s x).sweep = s.sweep := by
  unfold State.changeHolds; (try dsimp only); (repeat' split) <;> simp
@[simp] theorem State.changeHolds_monitors (s : State) (x : HoldUnit) : (State.changeHolds s x).monitors = s.monitors := by
  unfold State.changeHolds; (try dsimp only); (repeat' split) <;> simp
@[simp] theorem State.changeHolds_roster (s : State) (x : HoldUnit) : (State.changeHolds s x).roster = s.roster := by
  unfold State.changeHolds; (try dsimp only); (repeat' split) <;> simp
@[simp] theorem State.changeHolds_plan (s : State) (x : HoldUnit) : (State.changeHolds s x).plan = s.plan := by
  unfold State.changeHolds; (try dsimp only); (repeat' split) <;> simp
@[simp] theorem State.changeHolds_switch (s : State) (x : HoldUnit) : (State.changeHolds s x).switch = s.switch := by
  unfold State.changeHolds; (try dsimp only); (repeat' split) <;> simp
@[simp] theorem State.changeHolds_lockout (s : State) (x : HoldUnit) : (State.changeHolds s x).lockout = s.lockout := by
  unfold State.changeHolds; (try dsimp only); (repeat' split) <;> simp
@[simp] theorem State.changeHolds_store (s : State) (x : HoldUnit) : (State.changeHolds s x).store = s.store := by
  unfold State.changeHolds; (try dsimp only); (repeat' split) <;> simp
@[simp] theorem State.changeHolds_link (s : State) (x : HoldUnit) : (State.changeHolds s x).link = s.link := by
  unfold State.changeHolds; (try dsimp only); (repeat' split) <;> simp
@[simp] theorem State.changeHolds_orders (s : State) (x : HoldUnit) : (State.changeHolds s x).orders = s.orders := by
  unfold State.changeHolds; (try dsimp only); (repeat' split) <;> simp
@[simp] theorem State.changeHolds_free (s : State) (x : HoldUnit) : (State.changeHolds s x).free = s.free := by
  unfold State.changeHolds; (try dsimp only); (repeat' split) <;> simp

/-! ### `State.changeRoster` -/

@[simp] theorem State.changeRoster_pending (s : State) (x : Roster) : (State.changeRoster s x).pending = s.pending := by
  unfold State.changeRoster; (try dsimp only); (repeat' split) <;> simp
@[simp] theorem State.changeRoster_pins (s : State) (x : Roster) : (State.changeRoster s x).pins = s.pins := by
  unfold State.changeRoster; (try dsimp only); (repeat' split) <;> simp
@[simp] theorem State.changeRoster_clock (s : State) (x : Roster) : (State.changeRoster s x).clock = s.clock := by
  unfold State.changeRoster; (try dsimp only); (repeat' split) <;> simp
@[simp] theorem State.changeRoster_startup (s : State) (x : Roster) : (State.changeRoster s x).startup = s.startup := by
  unfold State.changeRoster; (try dsimp only); (repeat' split) <;> simp
@[simp] theorem State.changeRoster_sweep (s : State) (x : Roster) : (State.changeRoster s x).sweep = s.sweep := by
  unfold State.changeRoster; (try dsimp only); (repeat' split) <;> simp
@[simp] theorem State.changeRoster_monitors (s : State) (x : Roster) : (State.changeRoster s x).monitors = s.monitors := by
  unfold State.changeRoster; (try dsimp only); (repeat' split) <;> simp
@[simp] theorem State.changeRoster_holds (s : State) (x : Roster) : (State.changeRoster s x).holds = s.holds := by
  unfold State.changeRoster; (try dsimp only); (repeat' split) <;> simp
@[simp] theorem State.changeRoster_plan (s : State) (x : Roster) : (State.changeRoster s x).plan = s.plan := by
  unfold State.changeRoster; (try dsimp only); (repeat' split) <;> simp
@[simp] theorem State.changeRoster_switch (s : State) (x : Roster) : (State.changeRoster s x).switch = s.switch := by
  unfold State.changeRoster; (try dsimp only); (repeat' split) <;> simp
@[simp] theorem State.changeRoster_lockout (s : State) (x : Roster) : (State.changeRoster s x).lockout = s.lockout := by
  unfold State.changeRoster; (try dsimp only); (repeat' split) <;> simp
@[simp] theorem State.changeRoster_store (s : State) (x : Roster) : (State.changeRoster s x).store = s.store := by
  unfold State.changeRoster; (try dsimp only); (repeat' split) <;> simp
@[simp] theorem State.changeRoster_link (s : State) (x : Roster) : (State.changeRoster s x).link = s.link := by
  unfold State.changeRoster; (try dsimp only); (repeat' split) <;> simp
@[simp] theorem State.changeRoster_orders (s : State) (x : Roster) : (State.changeRoster s x).orders = s.orders := by
  unfold State.changeRoster; (try dsimp only); (repeat' split) <;> simp
@[simp] theorem State.changeRoster_free (s : State) (x : Roster) : (State.changeRoster s x).free = s.free := by
  unfold State.changeRoster; (try dsimp only); (repeat' split) <;> simp

/-! ### `State.changeBallot` -/

@[simp] theorem State.changeBallot_pending (s : State) (x : BallotUnit) : (State.changeBallot s x).pending = s.pending := by
  unfold State.changeBallot; (try dsimp only); (repeat' split) <;> simp
@[simp] theorem State.changeBallot_pins (s : State) (x : BallotUnit) : (State.changeBallot s x).pins = s.pins := by
  unfold State.changeBallot; (try dsimp only); (repeat' split) <;> simp
@[simp] theorem State.changeBallot_clock (s : State) (x : BallotUnit) : (State.changeBallot s x).clock = s.clock := by
  unfold State.changeBallot; (try dsimp only); (repeat' split) <;> simp
@[simp] theorem State.changeBallot_startup (s : State) (x : BallotUnit) : (State.changeBallot s x).startup = s.startup := by
  unfold State.changeBallot; (try dsimp only); (repeat' split) <;> simp
@[simp] theorem State.changeBallot_sweep (s : State) (x : BallotUnit) : (State.changeBallot s x).sweep = s.sweep := by
  unfold State.changeBallot; (try dsimp only); (repeat' split) <;> simp
@[simp] theorem State.changeBallot_monitors (s : State) (x : BallotUnit) : (State.changeBallot s x).monitors = s.monitors := by
  unfold State.changeBallot; (try dsimp only); (repeat' split) <;> simp
@[simp] theorem State.changeBallot_holds (s : State) (x : BallotUnit) : (State.changeBallot s x).holds = s.holds := by
  unfold State.changeBallot; (try dsimp only); (repeat' split) <;> simp
@[simp] theorem State.changeBallot_roster (s : State) (x : BallotUnit) : (State.changeBallot s x).roster = s.roster := by
  unfold State.changeBallot; (try dsimp only); (repeat' split) <;> simp
@[simp] theorem State.changeBallot_plan (s : State) (x : BallotUnit) : (State.changeBallot s x).plan = s.plan := by
  unfold State.changeBallot; (try dsimp only); (repeat' split) <;> simp
@[simp] theorem State.changeBallot_switch (s : State) (x : BallotUnit) : (State.changeBallot s x).switch = s.switch := by
  unfold State.changeBallot; (try dsimp only); (repeat' split) <;> simp
@[simp] theorem State.changeBallot_lockout (s : State) (x : BallotUnit) : (State.changeBallot s x).lockout = s.lockout := by
  unfold State.changeBallot; (try dsimp only); (repeat' split) <;> simp
@[simp] theorem State.changeBallot_store (s : State) (x : BallotUnit) : (State.changeBallot s x).store = s.store := by
  unfold State.changeBallot; (try dsimp only); (repeat' split) <;> simp
@[simp] theorem State.changeBallot_link (s : State) (x : BallotUnit) : (State.changeBallot s x).link = s.link := by
  unfold State.changeBallot; (try dsimp only); (repeat' split) <;> simp
@[simp] theorem State.changeBallot_orders (s : State) (x : BallotUnit) : (State.changeBallot s x).orders = s.orders := by
  unfold State.changeBallot; (try dsimp only); (repeat' split) <;> simp
@[simp] theorem State.changeBallot_free (s : State) (x : BallotUnit) : (State.changeBallot s x).free = s.free := by
  unfold State.changeBallot; (try dsimp only); (repeat' split) <;> simp

/-! ### What the judgement of readiness leaves of the ballot, and what a change stores -/

@[simp] theorem settleReadiness_ballot_mode (r s : State) : (settleReadiness r s).ballot.mode = s.ballot.mode := by
  unfold settleReadiness; (repeat' split) <;> simp
@[simp] theorem settleReadiness_ballot_current (r s : State) : (settleReadiness r s).ballot.current = s.ballot.current := by
  unfold settleReadiness; (repeat' split) <;> simp
@[simp] theorem settleReadiness_ballot_role (r s : State) : (settleReadiness r s).ballot.role = s.ballot.role := by
  unfold settleReadiness; (repeat' split) <;> simp
@[simp] theorem settleReadiness_ballot_votes (r s : State) : (settleReadiness r s).ballot.votes = s.ballot.votes := by
  unfold settleReadiness; (repeat' split) <;> simp
@[simp] theorem settleReadiness_ballot_commitClaimed (r s : State) : (settleReadiness r s).ballot.commitClaimed = s.ballot.commitClaimed := by
  unfold settleReadiness; (repeat' split) <;> simp
@[simp] theorem settleReadiness_ballot_highest (r s : State) : (settleReadiness r s).ballot.highest = s.ballot.highest := by
  unfold settleReadiness; (repeat' split) <;> simp
@[simp] theorem settleReadiness_ballot_proposal (r s : State) : (settleReadiness r s).ballot.proposal = s.ballot.proposal := by
  unfold settleReadiness; (repeat' split) <;> simp
@[simp] theorem settleReadiness_ballot_pledge (r s : State) : (settleReadiness r s).ballot.pledge = s.ballot.pledge := by
  unfold settleReadiness; (repeat' split) <;> simp
@[simp] theorem settleReadiness_ballot_confirm (r s : State) : (settleReadiness r s).ballot.confirm = s.ballot.confirm := by
  unfold settleReadiness; (repeat' split) <;> simp
@[simp] theorem State.changeHolds_holds (s : State) (x : HoldUnit) : (s.changeHolds x).holds = x := by
  unfold State.changeHolds; simp
@[simp] theorem State.changeRoster_roster (s : State) (x : Roster) : (s.changeRoster x).roster = x := by
  unfold State.changeRoster; simp
@[simp] theorem State.changeHolds_ballot_mode (s : State) (x : HoldUnit) : (s.changeHolds x).ballot.mode = s.ballot.mode := by
  unfold State.changeHolds; simp
@[simp] theorem State.changeHolds_ballot_current (s : State) (x : HoldUnit) : (s.changeHolds x).ballot.current = s.ballot.current := by
  unfold State.changeHolds; simp
@[simp] theorem State.changeHolds_ballot_role (s : State) (x : HoldUnit) : (s.changeHolds x).ballot.role = s.ballot.role := by
  unfold State.changeHolds; simp
@[simp] theorem State.changeHolds_ballot_votes (s : State) (x : HoldUnit) : (s.changeHolds x).ballot.votes = s.ballot.votes := by
  unfold State.changeHolds; simp
@[simp] theorem State.changeHolds_ballot_commitClaimed (s : State) (x : HoldUnit) : (s.changeHolds x).ballot.commitClaimed = s.ballot.commitClaimed := by
  unfold State.changeHolds; simp
@[simp] theorem State.changeHolds_ballot_highest (s : State) (x : HoldUnit) : (s.changeHolds x).ballot.highest = s.ballot.highest := by
  unfold State.changeHolds; simp
@[simp] theorem State.changeHolds_ballot_proposal (s : State) (x : HoldUnit) : (s.changeHolds x).ballot.proposal = s.ballot.proposal := by
  unfold State.changeHolds; simp
@[simp] theorem State.changeHolds_ballot_pledge (s : State) (x : HoldUnit) : (s.changeHolds x).ballot.pledge = s.ballot.pledge := by
  unfold State.changeHolds; simp
@[simp] theorem State.changeHolds_ballot_confirm (s : State) (x : HoldUnit) : (s.changeHolds x).ballot.confirm = s.ballot.confirm := by
  unfold State.changeHolds; simp
@[simp] theorem State.changeRoster_ballot_mode (s : State) (x : Roster) : (s.changeRoster x).ballot.mode = s.ballot.mode := by
  unfold State.changeRoster; simp
@[simp] theorem State.changeRoster_ballot_current (s : State) (x : Roster) : (s.changeRoster x).ballot.current = s.ballot.current := by
  unfold State.changeRoster; simp
@[simp] theorem State.changeRoster_ballot_role (s : State) (x : Roster) : (s.changeRoster x).ballot.role = s.ballot.role := by
  unfold State.changeRoster; simp
@[simp] theorem State.changeRoster_ballot_votes (s : State) (x : Roster) : (s.changeRoster x).ballot.votes = s.ballot.votes := by
  unfold State.changeRoster; simp
@[simp] theorem State.changeRoster_ballot_commitClaimed (s : State) (x : Roster) : (s.changeRoster x).ballot.commitClaimed = s.ballot.commitClaimed := by
  unfold State.changeRoster; simp
@[simp] theorem State.changeRoster_ballot_highest (s : State) (x : Roster) : (s.changeRoster x).ballot.highest = s.ballot.highest := by
  unfold State.changeRoster; simp
@[simp] theorem State.changeRoster_ballot_proposal (s : State) (x : Roster) : (s.changeRoster x).ballot.proposal = s.ballot.proposal := by
  unfold State.changeRoster; simp
@[simp] theorem State.changeRoster_ballot_pledge (s : State) (x : Roster) : (s.changeRoster x).ballot.pledge = s.ballot.pledge := by
  unfold State.changeRoster; simp
@[simp] theorem State.changeRoster_ballot_confirm (s : State) (x : Roster) : (s.changeRoster x).ballot.confirm = s.ballot.confirm := by
  unfold State.changeRoster; simp
@[simp] theorem State.changeBallot_ballot_mode (s : State) (x : BallotUnit) : (s.changeBallot x).ballot.mode = x.mode := by
  unfold State.changeBallot; simp
@[simp] theorem State.changeBallot_ballot_current (s : State) (x : BallotUnit) : (s.changeBallot x).ballot.current = x.current := by
  unfold State.changeBallot; simp
@[simp] theorem State.changeBallot_ballot_role (s : State) (x : BallotUnit) : (s.changeBallot x).ballot.role = x.role := by
  unfold State.changeBallot; simp
@[simp] theorem State.changeBallot_ballot_votes (s : State) (x : BallotUnit) : (s.changeBallot x).ballot.votes = x.votes := by
  unfold State.changeBallot; simp
@[simp] theorem State.changeBallot_ballot_commitClaimed (s : State) (x : BallotUnit) : (s.changeBallot x).ballot.commitClaimed = x.commitClaimed := by
  unfold State.changeBallot; simp
@[simp] theorem State.changeBallot_ballot_highest (s : State) (x : BallotUnit) : (s.changeBallot x).ballot.highest = x.highest := by
  unfold State.changeBallot; simp
@[simp] theorem State.changeBallot_ballot_proposal (s : State) (x : BallotUnit) : (s.changeBallot x).ballot.proposal = x.proposal := by
  unfold State.changeBallot; simp
@[simp] theorem State.changeBallot_ballot_pledge (s : State) (x : BallotUnit) : (s.changeBallot x).ballot.pledge = x.pledge := by
  unfold State.changeBallot; simp
@[simp] theorem State.changeBallot_ballot_confirm (s : State) (x : BallotUnit) : (s.changeBallot x).ballot.confirm = x.confirm := by
  unfold State.changeBallot; simp

/-- A change of readiness starts the settle timer under AUTO, readiness lost stops it, and readiness kept leaves it (R54). -/
theorem settleReadiness_settle (r s : State) :
    (settleReadiness r s).ballot.settle =
      if s.ready then
        if !r.ready && decide (s.cfg.shared.policy = .auto) then Timer.startMs s.cfg.shared.settleTime else s.ballot.settle
      else .stopped := by
  unfold settleReadiness; (repeat' split) <;> simp_all

/-! ### `State.updateEntry` -/

@[simp] theorem State.updateEntry_pending (s : State) (a : Nat) (f : RosterEntry → RosterEntry) : (State.updateEntry s a f).pending = s.pending := by
  unfold State.updateEntry; (try dsimp only); (repeat' split) <;> simp
@[simp] theorem State.updateEntry_pins (s : State) (a : Nat) (f : RosterEntry → RosterEntry) : (State.updateEntry s a f).pins = s.pins := by
  unfold State.updateEntry; (try dsimp only); (repeat' split) <;> simp
@[simp] theorem State.updateEntry_clock (s : State) (a : Nat) (f : RosterEntry → RosterEntry) : (State.updateEntry s a f).clock = s.clock := by
  unfold State.updateEntry; (try dsimp only); (repeat' split) <;> simp
@[simp] theorem State.updateEntry_startup (s : State) (a : Nat) (f : RosterEntry → RosterEntry) : (State.updateEntry s a f).startup = s.startup := by
  unfold State.updateEntry; (try dsimp only); (repeat' split) <;> simp
@[simp] theorem State.updateEntry_sweep (s : State) (a : Nat) (f : RosterEntry → RosterEntry) : (State.updateEntry s a f).sweep = s.sweep := by
  unfold State.updateEntry; (try dsimp only); (repeat' split) <;> simp
@[simp] theorem State.updateEntry_monitors (s : State) (a : Nat) (f : RosterEntry → RosterEntry) : (State.updateEntry s a f).monitors = s.monitors := by
  unfold State.updateEntry; (try dsimp only); (repeat' split) <;> simp
@[simp] theorem State.updateEntry_holds (s : State) (a : Nat) (f : RosterEntry → RosterEntry) : (State.updateEntry s a f).holds = s.holds := by
  unfold State.updateEntry; (try dsimp only); (repeat' split) <;> simp
@[simp] theorem State.updateEntry_plan (s : State) (a : Nat) (f : RosterEntry → RosterEntry) : (State.updateEntry s a f).plan = s.plan := by
  unfold State.updateEntry; (try dsimp only); (repeat' split) <;> simp
@[simp] theorem State.updateEntry_switch (s : State) (a : Nat) (f : RosterEntry → RosterEntry) : (State.updateEntry s a f).switch = s.switch := by
  unfold State.updateEntry; (try dsimp only); (repeat' split) <;> simp
@[simp] theorem State.updateEntry_lockout (s : State) (a : Nat) (f : RosterEntry → RosterEntry) : (State.updateEntry s a f).lockout = s.lockout := by
  unfold State.updateEntry; (try dsimp only); (repeat' split) <;> simp
@[simp] theorem State.updateEntry_store (s : State) (a : Nat) (f : RosterEntry → RosterEntry) : (State.updateEntry s a f).store = s.store := by
  unfold State.updateEntry; (try dsimp only); (repeat' split) <;> simp
@[simp] theorem State.updateEntry_link (s : State) (a : Nat) (f : RosterEntry → RosterEntry) : (State.updateEntry s a f).link = s.link := by
  unfold State.updateEntry; (try dsimp only); (repeat' split) <;> simp
@[simp] theorem State.updateEntry_orders (s : State) (a : Nat) (f : RosterEntry → RosterEntry) : (State.updateEntry s a f).orders = s.orders := by
  unfold State.updateEntry; (try dsimp only); (repeat' split) <;> simp
@[simp] theorem State.updateEntry_free (s : State) (a : Nat) (f : RosterEntry → RosterEntry) : (State.updateEntry s a f).free = s.free := by
  unfold State.updateEntry; (try dsimp only); (repeat' split) <;> simp

/-! ### `settleWait` -/

@[simp] theorem settleWait_pending (s : State) : (settleWait s).pending = s.pending := by
  unfold settleWait; (try dsimp only); (repeat' split) <;> simp
@[simp] theorem settleWait_pins (s : State) : (settleWait s).pins = s.pins := by
  unfold settleWait; (try dsimp only); (repeat' split) <;> simp
@[simp] theorem settleWait_clock (s : State) : (settleWait s).clock = s.clock := by
  unfold settleWait; (try dsimp only); (repeat' split) <;> simp
@[simp] theorem settleWait_startup (s : State) : (settleWait s).startup = s.startup := by
  unfold settleWait; (try dsimp only); (repeat' split) <;> simp
@[simp] theorem settleWait_sweep (s : State) : (settleWait s).sweep = s.sweep := by
  unfold settleWait; (try dsimp only); (repeat' split) <;> simp
@[simp] theorem settleWait_monitors (s : State) : (settleWait s).monitors = s.monitors := by
  unfold settleWait; (try dsimp only); (repeat' split) <;> simp
@[simp] theorem settleWait_holds (s : State) : (settleWait s).holds = s.holds := by
  unfold settleWait; (try dsimp only); (repeat' split) <;> simp
@[simp] theorem settleWait_roster (s : State) : (settleWait s).roster = s.roster := by
  unfold settleWait; (try dsimp only); (repeat' split) <;> simp
@[simp] theorem settleWait_ballot (s : State) : (settleWait s).ballot = s.ballot := by
  unfold settleWait; (try dsimp only); (repeat' split) <;> simp
@[simp] theorem settleWait_plan (s : State) : (settleWait s).plan = s.plan := by
  unfold settleWait; (try dsimp only); (repeat' split) <;> simp
@[simp] theorem settleWait_switch (s : State) : (settleWait s).switch = s.switch := by
  unfold settleWait; (try dsimp only); (repeat' split) <;> simp
@[simp] theorem settleWait_lockout (s : State) : (settleWait s).lockout = s.lockout := by
  unfold settleWait; (try dsimp only); (repeat' split) <;> simp
@[simp] theorem settleWait_store (s : State) : (settleWait s).store = s.store := by
  unfold settleWait; (try dsimp only); (repeat' split) <;> simp
@[simp] theorem settleWait_orders (s : State) : (settleWait s).orders = s.orders := by
  unfold settleWait; (try dsimp only); (repeat' split) <;> simp
@[simp] theorem settleWait_free (s : State) : (settleWait s).free = s.free := by
  unfold settleWait; (try dsimp only); (repeat' split) <;> simp

/-! ### `claim` -/

@[simp] theorem claim_pending (c : Claim) (s : State) : (claim c s).pending = s.pending := by
  unfold claim; (try dsimp only); (repeat' split) <;> simp
@[simp] theorem claim_pins (c : Claim) (s : State) : (claim c s).pins = s.pins := by
  unfold claim; (try dsimp only); (repeat' split) <;> simp
@[simp] theorem claim_clock (c : Claim) (s : State) : (claim c s).clock = s.clock := by
  unfold claim; (try dsimp only); (repeat' split) <;> simp
@[simp] theorem claim_startup (c : Claim) (s : State) : (claim c s).startup = s.startup := by
  unfold claim; (try dsimp only); (repeat' split) <;> simp
@[simp] theorem claim_sweep (c : Claim) (s : State) : (claim c s).sweep = s.sweep := by
  unfold claim; (try dsimp only); (repeat' split) <;> simp
@[simp] theorem claim_monitors (c : Claim) (s : State) : (claim c s).monitors = s.monitors := by
  unfold claim; (try dsimp only); (repeat' split) <;> simp
@[simp] theorem claim_holds (c : Claim) (s : State) : (claim c s).holds = s.holds := by
  unfold claim; (try dsimp only); (repeat' split) <;> simp
@[simp] theorem claim_roster (c : Claim) (s : State) : (claim c s).roster = s.roster := by
  unfold claim; (try dsimp only); (repeat' split) <;> simp
@[simp] theorem claim_ballot (c : Claim) (s : State) : (claim c s).ballot = s.ballot := by
  unfold claim; (try dsimp only); (repeat' split) <;> simp
@[simp] theorem claim_plan (c : Claim) (s : State) : (claim c s).plan = s.plan := by
  unfold claim; (try dsimp only); (repeat' split) <;> simp
@[simp] theorem claim_switch (c : Claim) (s : State) : (claim c s).switch = s.switch := by
  unfold claim; (try dsimp only); (repeat' split) <;> simp
@[simp] theorem claim_lockout (c : Claim) (s : State) : (claim c s).lockout = s.lockout := by
  unfold claim; (try dsimp only); (repeat' split) <;> simp
@[simp] theorem claim_store (c : Claim) (s : State) : (claim c s).store = s.store := by
  unfold claim; (try dsimp only); (repeat' split) <;> simp
@[simp] theorem claim_orders (c : Claim) (s : State) : (claim c s).orders = s.orders := by
  unfold claim; (try dsimp only); (repeat' split) <;> simp
@[simp] theorem claim_free (c : Claim) (s : State) : (claim c s).free = s.free := by
  unfold claim; (try dsimp only); (repeat' split) <;> simp

/-! ### `forgetCounted` -/

@[simp] theorem forgetCounted_pending (s : State) : (forgetCounted s).pending = s.pending := by
  unfold forgetCounted; (try dsimp only); (repeat' split) <;> simp
@[simp] theorem forgetCounted_pins (s : State) : (forgetCounted s).pins = s.pins := by
  unfold forgetCounted; (try dsimp only); (repeat' split) <;> simp
@[simp] theorem forgetCounted_clock (s : State) : (forgetCounted s).clock = s.clock := by
  unfold forgetCounted; (try dsimp only); (repeat' split) <;> simp
@[simp] theorem forgetCounted_startup (s : State) : (forgetCounted s).startup = s.startup := by
  unfold forgetCounted; (try dsimp only); (repeat' split) <;> simp
@[simp] theorem forgetCounted_sweep (s : State) : (forgetCounted s).sweep = s.sweep := by
  unfold forgetCounted; (try dsimp only); (repeat' split) <;> simp
@[simp] theorem forgetCounted_monitors (s : State) : (forgetCounted s).monitors = s.monitors := by
  unfold forgetCounted; (try dsimp only); (repeat' split) <;> simp
@[simp] theorem forgetCounted_holds (s : State) : (forgetCounted s).holds = s.holds := by
  unfold forgetCounted; (try dsimp only); (repeat' split) <;> simp
@[simp] theorem forgetCounted_roster (s : State) : (forgetCounted s).roster = s.roster := by
  unfold forgetCounted; (try dsimp only); (repeat' split) <;> simp
@[simp] theorem forgetCounted_ballot (s : State) : (forgetCounted s).ballot = s.ballot := by
  unfold forgetCounted; (try dsimp only); (repeat' split) <;> simp
@[simp] theorem forgetCounted_plan (s : State) : (forgetCounted s).plan = s.plan := by
  unfold forgetCounted; (try dsimp only); (repeat' split) <;> simp
@[simp] theorem forgetCounted_switch (s : State) : (forgetCounted s).switch = s.switch := by
  unfold forgetCounted; (try dsimp only); (repeat' split) <;> simp
@[simp] theorem forgetCounted_lockout (s : State) : (forgetCounted s).lockout = s.lockout := by
  unfold forgetCounted; (try dsimp only); (repeat' split) <;> simp
@[simp] theorem forgetCounted_store (s : State) : (forgetCounted s).store = s.store := by
  unfold forgetCounted; (try dsimp only); (repeat' split) <;> simp
@[simp] theorem forgetCounted_orders (s : State) : (forgetCounted s).orders = s.orders := by
  unfold forgetCounted; (try dsimp only); (repeat' split) <;> simp
@[simp] theorem forgetCounted_free (s : State) : (forgetCounted s).free = s.free := by
  unfold forgetCounted; (try dsimp only); (repeat' split) <;> simp

/-! ### `appendNotice` -/

@[simp] theorem appendNotice_pending (k : NoticeKind) (n : Byte) (r : Bool) (s : State) : (appendNotice k n r s).pending = s.pending := by
  unfold appendNotice; (try dsimp only); (repeat' split) <;> simp
@[simp] theorem appendNotice_pins (k : NoticeKind) (n : Byte) (r : Bool) (s : State) : (appendNotice k n r s).pins = s.pins := by
  unfold appendNotice; (try dsimp only); (repeat' split) <;> simp
@[simp] theorem appendNotice_clock (k : NoticeKind) (n : Byte) (r : Bool) (s : State) : (appendNotice k n r s).clock = s.clock := by
  unfold appendNotice; (try dsimp only); (repeat' split) <;> simp
@[simp] theorem appendNotice_startup (k : NoticeKind) (n : Byte) (r : Bool) (s : State) : (appendNotice k n r s).startup = s.startup := by
  unfold appendNotice; (try dsimp only); (repeat' split) <;> simp
@[simp] theorem appendNotice_sweep (k : NoticeKind) (n : Byte) (r : Bool) (s : State) : (appendNotice k n r s).sweep = s.sweep := by
  unfold appendNotice; (try dsimp only); (repeat' split) <;> simp
@[simp] theorem appendNotice_monitors (k : NoticeKind) (n : Byte) (r : Bool) (s : State) : (appendNotice k n r s).monitors = s.monitors := by
  unfold appendNotice; (try dsimp only); (repeat' split) <;> simp
@[simp] theorem appendNotice_roster (k : NoticeKind) (n : Byte) (r : Bool) (s : State) : (appendNotice k n r s).roster = s.roster := by
  unfold appendNotice; (try dsimp only); (repeat' split) <;> simp
@[simp] theorem appendNotice_ballot (k : NoticeKind) (n : Byte) (r : Bool) (s : State) : (appendNotice k n r s).ballot = s.ballot := by
  unfold appendNotice; (try dsimp only); (repeat' split) <;> simp
@[simp] theorem appendNotice_plan (k : NoticeKind) (n : Byte) (r : Bool) (s : State) : (appendNotice k n r s).plan = s.plan := by
  unfold appendNotice; (try dsimp only); (repeat' split) <;> simp
@[simp] theorem appendNotice_switch (k : NoticeKind) (n : Byte) (r : Bool) (s : State) : (appendNotice k n r s).switch = s.switch := by
  unfold appendNotice; (try dsimp only); (repeat' split) <;> simp
@[simp] theorem appendNotice_lockout (k : NoticeKind) (n : Byte) (r : Bool) (s : State) : (appendNotice k n r s).lockout = s.lockout := by
  unfold appendNotice; (try dsimp only); (repeat' split) <;> simp
@[simp] theorem appendNotice_store (k : NoticeKind) (n : Byte) (r : Bool) (s : State) : (appendNotice k n r s).store = s.store := by
  unfold appendNotice; (try dsimp only); (repeat' split) <;> simp
@[simp] theorem appendNotice_orders (k : NoticeKind) (n : Byte) (r : Bool) (s : State) : (appendNotice k n r s).orders = s.orders := by
  unfold appendNotice; (try dsimp only); (repeat' split) <;> simp
@[simp] theorem appendNotice_free (k : NoticeKind) (n : Byte) (r : Bool) (s : State) : (appendNotice k n r s).free = s.free := by
  unfold appendNotice; (try dsimp only); (repeat' split) <;> simp

/-! ### `removeNotice` -/

@[simp] theorem removeNotice_pending (n : Nat) (s : State) : (removeNotice n s).pending = s.pending := by
  unfold removeNotice; (try dsimp only); (repeat' split) <;> simp
@[simp] theorem removeNotice_pins (n : Nat) (s : State) : (removeNotice n s).pins = s.pins := by
  unfold removeNotice; (try dsimp only); (repeat' split) <;> simp
@[simp] theorem removeNotice_clock (n : Nat) (s : State) : (removeNotice n s).clock = s.clock := by
  unfold removeNotice; (try dsimp only); (repeat' split) <;> simp
@[simp] theorem removeNotice_startup (n : Nat) (s : State) : (removeNotice n s).startup = s.startup := by
  unfold removeNotice; (try dsimp only); (repeat' split) <;> simp
@[simp] theorem removeNotice_sweep (n : Nat) (s : State) : (removeNotice n s).sweep = s.sweep := by
  unfold removeNotice; (try dsimp only); (repeat' split) <;> simp
@[simp] theorem removeNotice_monitors (n : Nat) (s : State) : (removeNotice n s).monitors = s.monitors := by
  unfold removeNotice; (try dsimp only); (repeat' split) <;> simp
@[simp] theorem removeNotice_roster (n : Nat) (s : State) : (removeNotice n s).roster = s.roster := by
  unfold removeNotice; (try dsimp only); (repeat' split) <;> simp
@[simp] theorem removeNotice_ballot (n : Nat) (s : State) : (removeNotice n s).ballot = s.ballot := by
  unfold removeNotice; (try dsimp only); (repeat' split) <;> simp
@[simp] theorem removeNotice_plan (n : Nat) (s : State) : (removeNotice n s).plan = s.plan := by
  unfold removeNotice; (try dsimp only); (repeat' split) <;> simp
@[simp] theorem removeNotice_switch (n : Nat) (s : State) : (removeNotice n s).switch = s.switch := by
  unfold removeNotice; (try dsimp only); (repeat' split) <;> simp
@[simp] theorem removeNotice_lockout (n : Nat) (s : State) : (removeNotice n s).lockout = s.lockout := by
  unfold removeNotice; (try dsimp only); (repeat' split) <;> simp
@[simp] theorem removeNotice_store (n : Nat) (s : State) : (removeNotice n s).store = s.store := by
  unfold removeNotice; (try dsimp only); (repeat' split) <;> simp
@[simp] theorem removeNotice_link (n : Nat) (s : State) : (removeNotice n s).link = s.link := by
  unfold removeNotice; (try dsimp only); (repeat' split) <;> simp
@[simp] theorem removeNotice_orders (n : Nat) (s : State) : (removeNotice n s).orders = s.orders := by
  unfold removeNotice; (try dsimp only); (repeat' split) <;> simp
@[simp] theorem removeNotice_free (n : Nat) (s : State) : (removeNotice n s).free = s.free := by
  unfold removeNotice; (try dsimp only); (repeat' split) <;> simp

/-! ### `startCommandCheck` -/

@[simp] theorem startCommandCheck_pending (s : State) : (startCommandCheck s).pending = s.pending := by
  unfold startCommandCheck; (try dsimp only); (repeat' split) <;> simp
@[simp] theorem startCommandCheck_pins (s : State) : (startCommandCheck s).pins = s.pins := by
  unfold startCommandCheck; (try dsimp only); (repeat' split) <;> simp
@[simp] theorem startCommandCheck_clock (s : State) : (startCommandCheck s).clock = s.clock := by
  unfold startCommandCheck; (try dsimp only); (repeat' split) <;> simp
@[simp] theorem startCommandCheck_startup (s : State) : (startCommandCheck s).startup = s.startup := by
  unfold startCommandCheck; (try dsimp only); (repeat' split) <;> simp
@[simp] theorem startCommandCheck_sweep (s : State) : (startCommandCheck s).sweep = s.sweep := by
  unfold startCommandCheck; (try dsimp only); (repeat' split) <;> simp
@[simp] theorem startCommandCheck_monitors (s : State) : (startCommandCheck s).monitors = s.monitors := by
  unfold startCommandCheck; (try dsimp only); (repeat' split) <;> simp
@[simp] theorem startCommandCheck_holds (s : State) : (startCommandCheck s).holds = s.holds := by
  unfold startCommandCheck; (try dsimp only); (repeat' split) <;> simp
@[simp] theorem startCommandCheck_roster (s : State) : (startCommandCheck s).roster = s.roster := by
  unfold startCommandCheck; (try dsimp only); (repeat' split) <;> simp
@[simp] theorem startCommandCheck_ballot (s : State) : (startCommandCheck s).ballot = s.ballot := by
  unfold startCommandCheck; (try dsimp only); (repeat' split) <;> simp
@[simp] theorem startCommandCheck_plan (s : State) : (startCommandCheck s).plan = s.plan := by
  unfold startCommandCheck; (try dsimp only); (repeat' split) <;> simp
@[simp] theorem startCommandCheck_lockout (s : State) : (startCommandCheck s).lockout = s.lockout := by
  unfold startCommandCheck; (try dsimp only); (repeat' split) <;> simp
@[simp] theorem startCommandCheck_store (s : State) : (startCommandCheck s).store = s.store := by
  unfold startCommandCheck; (try dsimp only); (repeat' split) <;> simp
@[simp] theorem startCommandCheck_link (s : State) : (startCommandCheck s).link = s.link := by
  unfold startCommandCheck; (try dsimp only); (repeat' split) <;> simp
@[simp] theorem startCommandCheck_orders (s : State) : (startCommandCheck s).orders = s.orders := by
  unfold startCommandCheck; (try dsimp only); (repeat' split) <;> simp
@[simp] theorem startCommandCheck_free (s : State) : (startCommandCheck s).free = s.free := by
  unfold startCommandCheck; (try dsimp only); (repeat' split) <;> simp

/-! ### `startFeedbackCheck` -/

@[simp] theorem startFeedbackCheck_pending (s : State) : (startFeedbackCheck s).pending = s.pending := by
  unfold startFeedbackCheck; (try dsimp only); (repeat' split) <;> simp
@[simp] theorem startFeedbackCheck_pins (s : State) : (startFeedbackCheck s).pins = s.pins := by
  unfold startFeedbackCheck; (try dsimp only); (repeat' split) <;> simp
@[simp] theorem startFeedbackCheck_clock (s : State) : (startFeedbackCheck s).clock = s.clock := by
  unfold startFeedbackCheck; (try dsimp only); (repeat' split) <;> simp
@[simp] theorem startFeedbackCheck_startup (s : State) : (startFeedbackCheck s).startup = s.startup := by
  unfold startFeedbackCheck; (try dsimp only); (repeat' split) <;> simp
@[simp] theorem startFeedbackCheck_sweep (s : State) : (startFeedbackCheck s).sweep = s.sweep := by
  unfold startFeedbackCheck; (try dsimp only); (repeat' split) <;> simp
@[simp] theorem startFeedbackCheck_monitors (s : State) : (startFeedbackCheck s).monitors = s.monitors := by
  unfold startFeedbackCheck; (try dsimp only); (repeat' split) <;> simp
@[simp] theorem startFeedbackCheck_holds (s : State) : (startFeedbackCheck s).holds = s.holds := by
  unfold startFeedbackCheck; (try dsimp only); (repeat' split) <;> simp
@[simp] theorem startFeedbackCheck_roster (s : State) : (startFeedbackCheck s).roster = s.roster := by
  unfold startFeedbackCheck; (try dsimp only); (repeat' split) <;> simp
@[simp] theorem startFeedbackCheck_ballot (s : State) : (startFeedbackCheck s).ballot = s.ballot := by
  unfold startFeedbackCheck; (try dsimp only); (repeat' split) <;> simp
@[simp] theorem startFeedbackCheck_plan (s : State) : (startFeedbackCheck s).plan = s.plan := by
  unfold startFeedbackCheck; (try dsimp only); (repeat' split) <;> simp
@[simp] theorem startFeedbackCheck_lockout (s : State) : (startFeedbackCheck s).lockout = s.lockout := by
  unfold startFeedbackCheck; (try dsimp only); (repeat' split) <;> simp
@[simp] theorem startFeedbackCheck_store (s : State) : (startFeedbackCheck s).store = s.store := by
  unfold startFeedbackCheck; (try dsimp only); (repeat' split) <;> simp
@[simp] theorem startFeedbackCheck_link (s : State) : (startFeedbackCheck s).link = s.link := by
  unfold startFeedbackCheck; (try dsimp only); (repeat' split) <;> simp
@[simp] theorem startFeedbackCheck_orders (s : State) : (startFeedbackCheck s).orders = s.orders := by
  unfold startFeedbackCheck; (try dsimp only); (repeat' split) <;> simp
@[simp] theorem startFeedbackCheck_free (s : State) : (startFeedbackCheck s).free = s.free := by
  unfold startFeedbackCheck; (try dsimp only); (repeat' split) <;> simp

/-! ### `deliverToDriver` -/

@[simp] theorem deliverToDriver_pending (m : Mode) (s : State) : (deliverToDriver m s).pending = s.pending := by
  unfold deliverToDriver; (try dsimp only); (repeat' split) <;> simp
@[simp] theorem deliverToDriver_pins (m : Mode) (s : State) : (deliverToDriver m s).pins = s.pins := by
  unfold deliverToDriver; (try dsimp only); (repeat' split) <;> simp
@[simp] theorem deliverToDriver_clock (m : Mode) (s : State) : (deliverToDriver m s).clock = s.clock := by
  unfold deliverToDriver; (try dsimp only); (repeat' split) <;> simp
@[simp] theorem deliverToDriver_startup (m : Mode) (s : State) : (deliverToDriver m s).startup = s.startup := by
  unfold deliverToDriver; (try dsimp only); (repeat' split) <;> simp
@[simp] theorem deliverToDriver_sweep (m : Mode) (s : State) : (deliverToDriver m s).sweep = s.sweep := by
  unfold deliverToDriver; (try dsimp only); (repeat' split) <;> simp
@[simp] theorem deliverToDriver_monitors (m : Mode) (s : State) : (deliverToDriver m s).monitors = s.monitors := by
  unfold deliverToDriver; (try dsimp only); (repeat' split) <;> simp
@[simp] theorem deliverToDriver_holds (m : Mode) (s : State) : (deliverToDriver m s).holds = s.holds := by
  unfold deliverToDriver; (try dsimp only); (repeat' split) <;> simp
@[simp] theorem deliverToDriver_roster (m : Mode) (s : State) : (deliverToDriver m s).roster = s.roster := by
  unfold deliverToDriver; (try dsimp only); (repeat' split) <;> simp
@[simp] theorem deliverToDriver_ballot (m : Mode) (s : State) : (deliverToDriver m s).ballot = s.ballot := by
  unfold deliverToDriver; (try dsimp only); (repeat' split) <;> simp
@[simp] theorem deliverToDriver_plan (m : Mode) (s : State) : (deliverToDriver m s).plan = s.plan := by
  unfold deliverToDriver; (try dsimp only); (repeat' split) <;> simp
@[simp] theorem deliverToDriver_lockout (m : Mode) (s : State) : (deliverToDriver m s).lockout = s.lockout := by
  unfold deliverToDriver; (try dsimp only); (repeat' split) <;> simp
@[simp] theorem deliverToDriver_store (m : Mode) (s : State) : (deliverToDriver m s).store = s.store := by
  unfold deliverToDriver; (try dsimp only); (repeat' split) <;> simp
@[simp] theorem deliverToDriver_link (m : Mode) (s : State) : (deliverToDriver m s).link = s.link := by
  unfold deliverToDriver; (try dsimp only); (repeat' split) <;> simp
@[simp] theorem deliverToDriver_orders (m : Mode) (s : State) : (deliverToDriver m s).orders = s.orders := by
  unfold deliverToDriver; (try dsimp only); (repeat' split) <;> simp
@[simp] theorem deliverToDriver_free (m : Mode) (s : State) : (deliverToDriver m s).free = s.free := by
  unfold deliverToDriver; (try dsimp only); (repeat' split) <;> simp

/-! ### `deliverToPlanner` -/

@[simp] theorem deliverToPlanner_pending (m : Mode) (s : State) : (deliverToPlanner m s).pending = s.pending := by
  unfold deliverToPlanner; (try dsimp only); (repeat' split) <;> simp
@[simp] theorem deliverToPlanner_pins (m : Mode) (s : State) : (deliverToPlanner m s).pins = s.pins := by
  unfold deliverToPlanner; (try dsimp only); (repeat' split) <;> simp
@[simp] theorem deliverToPlanner_clock (m : Mode) (s : State) : (deliverToPlanner m s).clock = s.clock := by
  unfold deliverToPlanner; (try dsimp only); (repeat' split) <;> simp
@[simp] theorem deliverToPlanner_startup (m : Mode) (s : State) : (deliverToPlanner m s).startup = s.startup := by
  unfold deliverToPlanner; (try dsimp only); (repeat' split) <;> simp
@[simp] theorem deliverToPlanner_sweep (m : Mode) (s : State) : (deliverToPlanner m s).sweep = s.sweep := by
  unfold deliverToPlanner; (try dsimp only); (repeat' split) <;> simp
@[simp] theorem deliverToPlanner_monitors (m : Mode) (s : State) : (deliverToPlanner m s).monitors = s.monitors := by
  unfold deliverToPlanner; (try dsimp only); (repeat' split) <;> simp
@[simp] theorem deliverToPlanner_holds (m : Mode) (s : State) : (deliverToPlanner m s).holds = s.holds := by
  unfold deliverToPlanner; (try dsimp only); (repeat' split) <;> simp
@[simp] theorem deliverToPlanner_roster (m : Mode) (s : State) : (deliverToPlanner m s).roster = s.roster := by
  unfold deliverToPlanner; (try dsimp only); (repeat' split) <;> simp
@[simp] theorem deliverToPlanner_ballot (m : Mode) (s : State) : (deliverToPlanner m s).ballot = s.ballot := by
  unfold deliverToPlanner; (try dsimp only); (repeat' split) <;> simp
@[simp] theorem deliverToPlanner_switch (m : Mode) (s : State) : (deliverToPlanner m s).switch = s.switch := by
  unfold deliverToPlanner; (try dsimp only); (repeat' split) <;> simp
@[simp] theorem deliverToPlanner_lockout (m : Mode) (s : State) : (deliverToPlanner m s).lockout = s.lockout := by
  unfold deliverToPlanner; (try dsimp only); (repeat' split) <;> simp
@[simp] theorem deliverToPlanner_store (m : Mode) (s : State) : (deliverToPlanner m s).store = s.store := by
  unfold deliverToPlanner; (try dsimp only); (repeat' split) <;> simp
@[simp] theorem deliverToPlanner_link (m : Mode) (s : State) : (deliverToPlanner m s).link = s.link := by
  unfold deliverToPlanner; (try dsimp only); (repeat' split) <;> simp
@[simp] theorem deliverToPlanner_orders (m : Mode) (s : State) : (deliverToPlanner m s).orders = s.orders := by
  unfold deliverToPlanner; (try dsimp only); (repeat' split) <;> simp
@[simp] theorem deliverToPlanner_free (m : Mode) (s : State) : (deliverToPlanner m s).free = s.free := by
  unfold deliverToPlanner; (try dsimp only); (repeat' split) <;> simp

/-! ### `setMode` -/

@[simp] theorem setMode_pending (m : Mode) (s : State) : (setMode m s).pending = s.pending := by
  unfold setMode; (try dsimp only); (repeat' split) <;> simp
@[simp] theorem setMode_pins (m : Mode) (s : State) : (setMode m s).pins = s.pins := by
  unfold setMode; (try dsimp only); (repeat' split) <;> simp
@[simp] theorem setMode_clock (m : Mode) (s : State) : (setMode m s).clock = s.clock := by
  unfold setMode; (try dsimp only); (repeat' split) <;> simp
@[simp] theorem setMode_startup (m : Mode) (s : State) : (setMode m s).startup = s.startup := by
  unfold setMode; (try dsimp only); (repeat' split) <;> simp
@[simp] theorem setMode_sweep (m : Mode) (s : State) : (setMode m s).sweep = s.sweep := by
  unfold setMode; (try dsimp only); (repeat' split) <;> simp
@[simp] theorem setMode_monitors (m : Mode) (s : State) : (setMode m s).monitors = s.monitors := by
  unfold setMode; (try dsimp only); (repeat' split) <;> simp
@[simp] theorem setMode_holds (m : Mode) (s : State) : (setMode m s).holds = s.holds := by
  unfold setMode; (try dsimp only); (repeat' split) <;> simp
@[simp] theorem setMode_roster (m : Mode) (s : State) : (setMode m s).roster = s.roster := by
  unfold setMode; (try dsimp only); (repeat' split) <;> simp
@[simp] theorem setMode_lockout (m : Mode) (s : State) : (setMode m s).lockout = s.lockout := by
  unfold setMode; (try dsimp only); (repeat' split) <;> simp
@[simp] theorem setMode_store (m : Mode) (s : State) : (setMode m s).store = s.store := by
  unfold setMode; (try dsimp only); (repeat' split) <;> simp
@[simp] theorem setMode_link (m : Mode) (s : State) : (setMode m s).link = s.link := by
  unfold setMode; (try dsimp only); (repeat' split) <;> simp
@[simp] theorem setMode_orders (m : Mode) (s : State) : (setMode m s).orders = s.orders := by
  unfold setMode; (try dsimp only); (repeat' split) <;> simp
@[simp] theorem setMode_free (m : Mode) (s : State) : (setMode m s).free = s.free := by
  unfold setMode; (try dsimp only); (repeat' split) <;> simp
@[simp] theorem setMode_opened_plan (s : State) : (setMode .opened s).plan = s.plan := by
  unfold setMode; split <;> simp [deliverToPlanner]
@[simp] theorem setMode_pledged_plan (s : State) : (setMode .pledged s).plan = s.plan := by
  unfold setMode; split <;> simp [deliverToPlanner]
@[simp] theorem setMode_closed_plan (s : State) : (setMode .closed s).plan = s.plan := by
  unfold setMode; split <;> simp [deliverToPlanner]
@[simp] theorem setMode_mode (m : Mode) (s : State) : (setMode m s).ballot.mode = m := by
  unfold setMode; split
  · assumption
  · simp

/-! ### `withdrawClaim` -/

@[simp] theorem withdrawClaim_pending (s : State) : (withdrawClaim s).pending = s.pending := by
  unfold withdrawClaim; (try dsimp only); (repeat' split) <;> simp
@[simp] theorem withdrawClaim_pins (s : State) : (withdrawClaim s).pins = s.pins := by
  unfold withdrawClaim; (try dsimp only); (repeat' split) <;> simp
@[simp] theorem withdrawClaim_clock (s : State) : (withdrawClaim s).clock = s.clock := by
  unfold withdrawClaim; (try dsimp only); (repeat' split) <;> simp
@[simp] theorem withdrawClaim_startup (s : State) : (withdrawClaim s).startup = s.startup := by
  unfold withdrawClaim; (try dsimp only); (repeat' split) <;> simp
@[simp] theorem withdrawClaim_sweep (s : State) : (withdrawClaim s).sweep = s.sweep := by
  unfold withdrawClaim; (try dsimp only); (repeat' split) <;> simp
@[simp] theorem withdrawClaim_monitors (s : State) : (withdrawClaim s).monitors = s.monitors := by
  unfold withdrawClaim; (try dsimp only); (repeat' split) <;> simp
@[simp] theorem withdrawClaim_holds (s : State) : (withdrawClaim s).holds = s.holds := by
  unfold withdrawClaim; (try dsimp only); (repeat' split) <;> simp
@[simp] theorem withdrawClaim_roster (s : State) : (withdrawClaim s).roster = s.roster := by
  unfold withdrawClaim; (try dsimp only); (repeat' split) <;> simp
@[simp] theorem withdrawClaim_ballot (s : State) : (withdrawClaim s).ballot = s.ballot := by
  unfold withdrawClaim; (try dsimp only); (repeat' split) <;> simp
@[simp] theorem withdrawClaim_plan (s : State) : (withdrawClaim s).plan = s.plan := by
  unfold withdrawClaim; (try dsimp only); (repeat' split) <;> simp
@[simp] theorem withdrawClaim_switch (s : State) : (withdrawClaim s).switch = s.switch := by
  unfold withdrawClaim; (try dsimp only); (repeat' split) <;> simp
@[simp] theorem withdrawClaim_lockout (s : State) : (withdrawClaim s).lockout = s.lockout := by
  unfold withdrawClaim; (try dsimp only); (repeat' split) <;> simp
@[simp] theorem withdrawClaim_store (s : State) : (withdrawClaim s).store = s.store := by
  unfold withdrawClaim; (try dsimp only); (repeat' split) <;> simp
@[simp] theorem withdrawClaim_orders (s : State) : (withdrawClaim s).orders = s.orders := by
  unfold withdrawClaim; (try dsimp only); (repeat' split) <;> simp
@[simp] theorem withdrawClaim_free (s : State) : (withdrawClaim s).free = s.free := by
  unfold withdrawClaim; (try dsimp only); (repeat' split) <;> simp

/-! ### `leave` -/

@[simp] theorem leave_pending (s : State) : (leave s).pending = s.pending := by
  unfold leave; (try dsimp only); (repeat' split) <;> simp
@[simp] theorem leave_pins (s : State) : (leave s).pins = s.pins := by
  unfold leave; (try dsimp only); (repeat' split) <;> simp
@[simp] theorem leave_clock (s : State) : (leave s).clock = s.clock := by
  unfold leave; (try dsimp only); (repeat' split) <;> simp
@[simp] theorem leave_startup (s : State) : (leave s).startup = s.startup := by
  unfold leave; (try dsimp only); (repeat' split) <;> simp
@[simp] theorem leave_sweep (s : State) : (leave s).sweep = s.sweep := by
  unfold leave; (try dsimp only); (repeat' split) <;> simp
@[simp] theorem leave_monitors (s : State) : (leave s).monitors = s.monitors := by
  unfold leave; (try dsimp only); (repeat' split) <;> simp
@[simp] theorem leave_holds (s : State) : (leave s).holds = s.holds := by
  unfold leave; (try dsimp only); (repeat' split) <;> simp
@[simp] theorem leave_roster (s : State) : (leave s).roster = s.roster := by
  unfold leave; (try dsimp only); (repeat' split) <;> simp
@[simp] theorem leave_plan (s : State) : (leave s).plan = s.plan := by
  unfold leave; split <;> simp [setMode, deliverToPlanner] <;> split <;> simp
@[simp] theorem leave_lockout (s : State) : (leave s).lockout = s.lockout := by
  unfold leave; (try dsimp only); (repeat' split) <;> simp
@[simp] theorem leave_store (s : State) : (leave s).store = s.store := by
  unfold leave; (try dsimp only); (repeat' split) <;> simp
@[simp] theorem leave_orders (s : State) : (leave s).orders = s.orders := by
  unfold leave; (try dsimp only); (repeat' split) <;> simp
@[simp] theorem leave_free (s : State) : (leave s).free = s.free := by
  unfold leave; (try dsimp only); (repeat' split) <;> simp

/-! ### `offer` -/

@[simp] theorem offer_pending (b : Ballot) (s : State) : (offer b s).pending = s.pending := by
  unfold offer; (try dsimp only); (repeat' split) <;> simp
@[simp] theorem offer_pins (b : Ballot) (s : State) : (offer b s).pins = s.pins := by
  unfold offer; (try dsimp only); (repeat' split) <;> simp
@[simp] theorem offer_clock (b : Ballot) (s : State) : (offer b s).clock = s.clock := by
  unfold offer; (try dsimp only); (repeat' split) <;> simp
@[simp] theorem offer_startup (b : Ballot) (s : State) : (offer b s).startup = s.startup := by
  unfold offer; (try dsimp only); (repeat' split) <;> simp
@[simp] theorem offer_sweep (b : Ballot) (s : State) : (offer b s).sweep = s.sweep := by
  unfold offer; (try dsimp only); (repeat' split) <;> simp
@[simp] theorem offer_monitors (b : Ballot) (s : State) : (offer b s).monitors = s.monitors := by
  unfold offer; (try dsimp only); (repeat' split) <;> simp
@[simp] theorem offer_holds (b : Ballot) (s : State) : (offer b s).holds = s.holds := by
  unfold offer; (try dsimp only); (repeat' split) <;> simp
@[simp] theorem offer_roster (b : Ballot) (s : State) : (offer b s).roster = s.roster := by
  unfold offer; (try dsimp only); (repeat' split) <;> simp
@[simp] theorem offer_plan (b : Ballot) (s : State) : (offer b s).plan = s.plan := by
  unfold offer; (try dsimp only); (repeat' split) <;> simp
@[simp] theorem offer_lockout (b : Ballot) (s : State) : (offer b s).lockout = s.lockout := by
  unfold offer; (try dsimp only); (repeat' split) <;> simp
@[simp] theorem offer_store (b : Ballot) (s : State) : (offer b s).store = s.store := by
  unfold offer; (try dsimp only); (repeat' split) <;> simp
@[simp] theorem offer_orders (b : Ballot) (s : State) : (offer b s).orders = s.orders := by
  unfold offer; (try dsimp only); (repeat' split) <;> simp
@[simp] theorem offer_free (b : Ballot) (s : State) : (offer b s).free = s.free := by
  unfold offer; (try dsimp only); (repeat' split) <;> simp

/-! ### `reportHold` -/

@[simp] theorem reportHold_pending (s : State) : (reportHold s).pending = s.pending := by
  unfold reportHold; (try dsimp only); (repeat' split) <;> simp
@[simp] theorem reportHold_pins (s : State) : (reportHold s).pins = s.pins := by
  unfold reportHold; (try dsimp only); (repeat' split) <;> simp
@[simp] theorem reportHold_clock (s : State) : (reportHold s).clock = s.clock := by
  unfold reportHold; (try dsimp only); (repeat' split) <;> simp
@[simp] theorem reportHold_startup (s : State) : (reportHold s).startup = s.startup := by
  unfold reportHold; (try dsimp only); (repeat' split) <;> simp
@[simp] theorem reportHold_sweep (s : State) : (reportHold s).sweep = s.sweep := by
  unfold reportHold; (try dsimp only); (repeat' split) <;> simp
@[simp] theorem reportHold_monitors (s : State) : (reportHold s).monitors = s.monitors := by
  unfold reportHold; (try dsimp only); (repeat' split) <;> simp
@[simp] theorem reportHold_holds (s : State) : (reportHold s).holds = s.holds := by
  unfold reportHold; (try dsimp only); (repeat' split) <;> simp
@[simp] theorem reportHold_roster (s : State) : (reportHold s).roster = s.roster := by
  unfold reportHold; (try dsimp only); (repeat' split) <;> simp
@[simp] theorem reportHold_plan (s : State) : (reportHold s).plan = s.plan := by
  unfold reportHold; (try dsimp only); (repeat' split) <;> simp
@[simp] theorem reportHold_lockout (s : State) : (reportHold s).lockout = s.lockout := by
  unfold reportHold; (try dsimp only); (repeat' split) <;> simp
@[simp] theorem reportHold_store (s : State) : (reportHold s).store = s.store := by
  unfold reportHold; (try dsimp only); (repeat' split) <;> simp
@[simp] theorem reportHold_orders (s : State) : (reportHold s).orders = s.orders := by
  unfold reportHold; (try dsimp only); (repeat' split) <;> simp
@[simp] theorem reportHold_free (s : State) : (reportHold s).free = s.free := by
  unfold reportHold; (try dsimp only); (repeat' split) <;> simp

/-! ### `addOwn` -/

@[simp] theorem addOwn_pending (c : Cause) (i : Option Nat) (d : Option Detail) (s : State) : (addOwn c i d s).pending = s.pending := by
  unfold addOwn; (try dsimp only); (repeat' split) <;> simp
@[simp] theorem addOwn_pins (c : Cause) (i : Option Nat) (d : Option Detail) (s : State) : (addOwn c i d s).pins = s.pins := by
  unfold addOwn; (try dsimp only); (repeat' split) <;> simp
@[simp] theorem addOwn_clock (c : Cause) (i : Option Nat) (d : Option Detail) (s : State) : (addOwn c i d s).clock = s.clock := by
  unfold addOwn; (try dsimp only); (repeat' split) <;> simp
@[simp] theorem addOwn_startup (c : Cause) (i : Option Nat) (d : Option Detail) (s : State) : (addOwn c i d s).startup = s.startup := by
  unfold addOwn; (try dsimp only); (repeat' split) <;> simp
@[simp] theorem addOwn_sweep (c : Cause) (i : Option Nat) (d : Option Detail) (s : State) : (addOwn c i d s).sweep = s.sweep := by
  unfold addOwn; (try dsimp only); (repeat' split) <;> simp
@[simp] theorem addOwn_monitors (c : Cause) (i : Option Nat) (d : Option Detail) (s : State) : (addOwn c i d s).monitors = s.monitors := by
  unfold addOwn; (try dsimp only); (repeat' split) <;> simp
@[simp] theorem addOwn_roster (c : Cause) (i : Option Nat) (d : Option Detail) (s : State) : (addOwn c i d s).roster = s.roster := by
  unfold addOwn; (try dsimp only); (repeat' split) <;> simp
@[simp] theorem addOwn_plan (c : Cause) (i : Option Nat) (d : Option Detail) (s : State) : (addOwn c i d s).plan = s.plan := by
  unfold addOwn; (try dsimp only); (repeat' split) <;> simp
@[simp] theorem addOwn_switch (c : Cause) (i : Option Nat) (d : Option Detail) (s : State) : (addOwn c i d s).switch = s.switch := by
  unfold addOwn; (try dsimp only); (repeat' split) <;> simp
@[simp] theorem addOwn_lockout (c : Cause) (i : Option Nat) (d : Option Detail) (s : State) : (addOwn c i d s).lockout = s.lockout := by
  unfold addOwn; (try dsimp only); (repeat' split) <;> simp
@[simp] theorem addOwn_store (c : Cause) (i : Option Nat) (d : Option Detail) (s : State) : (addOwn c i d s).store = s.store := by
  unfold addOwn; (try dsimp only); (repeat' split) <;> simp
@[simp] theorem addOwn_link (c : Cause) (i : Option Nat) (d : Option Detail) (s : State) : (addOwn c i d s).link = s.link := by
  unfold addOwn; (try dsimp only); (repeat' split) <;> simp
@[simp] theorem addOwn_orders (c : Cause) (i : Option Nat) (d : Option Detail) (s : State) : (addOwn c i d s).orders = s.orders := by
  unfold addOwn; (try dsimp only); (repeat' split) <;> simp
@[simp] theorem addOwn_free (c : Cause) (i : Option Nat) (d : Option Detail) (s : State) : (addOwn c i d s).free = s.free := by
  unfold addOwn; (try dsimp only); (repeat' split) <;> simp

/-! ### `changeDetail` -/

@[simp] theorem changeDetail_pending (c : Cause) (i : Option Nat) (d : Option Detail) (s : State) : (changeDetail c i d s).pending = s.pending := by
  unfold changeDetail; (try dsimp only); (repeat' split) <;> simp
@[simp] theorem changeDetail_pins (c : Cause) (i : Option Nat) (d : Option Detail) (s : State) : (changeDetail c i d s).pins = s.pins := by
  unfold changeDetail; (try dsimp only); (repeat' split) <;> simp
@[simp] theorem changeDetail_clock (c : Cause) (i : Option Nat) (d : Option Detail) (s : State) : (changeDetail c i d s).clock = s.clock := by
  unfold changeDetail; (try dsimp only); (repeat' split) <;> simp
@[simp] theorem changeDetail_startup (c : Cause) (i : Option Nat) (d : Option Detail) (s : State) : (changeDetail c i d s).startup = s.startup := by
  unfold changeDetail; (try dsimp only); (repeat' split) <;> simp
@[simp] theorem changeDetail_sweep (c : Cause) (i : Option Nat) (d : Option Detail) (s : State) : (changeDetail c i d s).sweep = s.sweep := by
  unfold changeDetail; (try dsimp only); (repeat' split) <;> simp
@[simp] theorem changeDetail_monitors (c : Cause) (i : Option Nat) (d : Option Detail) (s : State) : (changeDetail c i d s).monitors = s.monitors := by
  unfold changeDetail; (try dsimp only); (repeat' split) <;> simp
@[simp] theorem changeDetail_roster (c : Cause) (i : Option Nat) (d : Option Detail) (s : State) : (changeDetail c i d s).roster = s.roster := by
  unfold changeDetail; (try dsimp only); (repeat' split) <;> simp
@[simp] theorem changeDetail_ballot (c : Cause) (i : Option Nat) (d : Option Detail) (s : State) : (changeDetail c i d s).ballot = s.ballot := by
  unfold changeDetail; (try dsimp only); (repeat' split) <;> simp
@[simp] theorem changeDetail_plan (c : Cause) (i : Option Nat) (d : Option Detail) (s : State) : (changeDetail c i d s).plan = s.plan := by
  unfold changeDetail; (try dsimp only); (repeat' split) <;> simp
@[simp] theorem changeDetail_switch (c : Cause) (i : Option Nat) (d : Option Detail) (s : State) : (changeDetail c i d s).switch = s.switch := by
  unfold changeDetail; (try dsimp only); (repeat' split) <;> simp
@[simp] theorem changeDetail_lockout (c : Cause) (i : Option Nat) (d : Option Detail) (s : State) : (changeDetail c i d s).lockout = s.lockout := by
  unfold changeDetail; (try dsimp only); (repeat' split) <;> simp
@[simp] theorem changeDetail_store (c : Cause) (i : Option Nat) (d : Option Detail) (s : State) : (changeDetail c i d s).store = s.store := by
  unfold changeDetail; (try dsimp only); (repeat' split) <;> simp
@[simp] theorem changeDetail_link (c : Cause) (i : Option Nat) (d : Option Detail) (s : State) : (changeDetail c i d s).link = s.link := by
  unfold changeDetail; (try dsimp only); (repeat' split) <;> simp
@[simp] theorem changeDetail_orders (c : Cause) (i : Option Nat) (d : Option Detail) (s : State) : (changeDetail c i d s).orders = s.orders := by
  unfold changeDetail; (try dsimp only); (repeat' split) <;> simp
@[simp] theorem changeDetail_free (c : Cause) (i : Option Nat) (d : Option Detail) (s : State) : (changeDetail c i d s).free = s.free := by
  unfold changeDetail; (try dsimp only); (repeat' split) <;> simp

/-! ### `raiseHold` -/

@[simp] theorem raiseHold_pending (c : Cause) (i : Option Nat) (d : Option Detail) (s : State) : (raiseHold c i d s).pending = s.pending := by
  unfold raiseHold; (try dsimp only); (repeat' split) <;> simp
@[simp] theorem raiseHold_pins (c : Cause) (i : Option Nat) (d : Option Detail) (s : State) : (raiseHold c i d s).pins = s.pins := by
  unfold raiseHold; (try dsimp only); (repeat' split) <;> simp
@[simp] theorem raiseHold_clock (c : Cause) (i : Option Nat) (d : Option Detail) (s : State) : (raiseHold c i d s).clock = s.clock := by
  unfold raiseHold; (try dsimp only); (repeat' split) <;> simp
@[simp] theorem raiseHold_startup (c : Cause) (i : Option Nat) (d : Option Detail) (s : State) : (raiseHold c i d s).startup = s.startup := by
  unfold raiseHold; (try dsimp only); (repeat' split) <;> simp
@[simp] theorem raiseHold_sweep (c : Cause) (i : Option Nat) (d : Option Detail) (s : State) : (raiseHold c i d s).sweep = s.sweep := by
  unfold raiseHold; (try dsimp only); (repeat' split) <;> simp
@[simp] theorem raiseHold_monitors (c : Cause) (i : Option Nat) (d : Option Detail) (s : State) : (raiseHold c i d s).monitors = s.monitors := by
  unfold raiseHold; (try dsimp only); (repeat' split) <;> simp
@[simp] theorem raiseHold_roster (c : Cause) (i : Option Nat) (d : Option Detail) (s : State) : (raiseHold c i d s).roster = s.roster := by
  unfold raiseHold; (try dsimp only); (repeat' split) <;> simp
@[simp] theorem raiseHold_plan (c : Cause) (i : Option Nat) (d : Option Detail) (s : State) : (raiseHold c i d s).plan = s.plan := by
  unfold raiseHold; (try dsimp only); (repeat' split) <;> simp
@[simp] theorem raiseHold_lockout (c : Cause) (i : Option Nat) (d : Option Detail) (s : State) : (raiseHold c i d s).lockout = s.lockout := by
  unfold raiseHold; (try dsimp only); (repeat' split) <;> simp
@[simp] theorem raiseHold_store (c : Cause) (i : Option Nat) (d : Option Detail) (s : State) : (raiseHold c i d s).store = s.store := by
  unfold raiseHold; (try dsimp only); (repeat' split) <;> simp
@[simp] theorem raiseHold_orders (c : Cause) (i : Option Nat) (d : Option Detail) (s : State) : (raiseHold c i d s).orders = s.orders := by
  unfold raiseHold; (try dsimp only); (repeat' split) <;> simp
@[simp] theorem raiseHold_free (c : Cause) (i : Option Nat) (d : Option Detail) (s : State) : (raiseHold c i d s).free = s.free := by
  unfold raiseHold; (try dsimp only); (repeat' split) <;> simp

/-! ### `liftNotices` -/

@[simp] theorem liftNotices_pending (n : Byte) (s : State) : (liftNotices n s).pending = s.pending := by
  unfold liftNotices; (try dsimp only); (repeat' split) <;> simp
@[simp] theorem liftNotices_pins (n : Byte) (s : State) : (liftNotices n s).pins = s.pins := by
  unfold liftNotices; (try dsimp only); (repeat' split) <;> simp
@[simp] theorem liftNotices_clock (n : Byte) (s : State) : (liftNotices n s).clock = s.clock := by
  unfold liftNotices; (try dsimp only); (repeat' split) <;> simp
@[simp] theorem liftNotices_startup (n : Byte) (s : State) : (liftNotices n s).startup = s.startup := by
  unfold liftNotices; (try dsimp only); (repeat' split) <;> simp
@[simp] theorem liftNotices_sweep (n : Byte) (s : State) : (liftNotices n s).sweep = s.sweep := by
  unfold liftNotices; (try dsimp only); (repeat' split) <;> simp
@[simp] theorem liftNotices_monitors (n : Byte) (s : State) : (liftNotices n s).monitors = s.monitors := by
  unfold liftNotices; (try dsimp only); (repeat' split) <;> simp
@[simp] theorem liftNotices_roster (n : Byte) (s : State) : (liftNotices n s).roster = s.roster := by
  unfold liftNotices; (try dsimp only); (repeat' split) <;> simp
@[simp] theorem liftNotices_ballot (n : Byte) (s : State) : (liftNotices n s).ballot = s.ballot := by
  unfold liftNotices; (try dsimp only); (repeat' split) <;> simp
@[simp] theorem liftNotices_plan (n : Byte) (s : State) : (liftNotices n s).plan = s.plan := by
  unfold liftNotices; (try dsimp only); (repeat' split) <;> simp
@[simp] theorem liftNotices_switch (n : Byte) (s : State) : (liftNotices n s).switch = s.switch := by
  unfold liftNotices; (try dsimp only); (repeat' split) <;> simp
@[simp] theorem liftNotices_lockout (n : Byte) (s : State) : (liftNotices n s).lockout = s.lockout := by
  unfold liftNotices; (try dsimp only); (repeat' split) <;> simp
@[simp] theorem liftNotices_store (n : Byte) (s : State) : (liftNotices n s).store = s.store := by
  unfold liftNotices; (try dsimp only); (repeat' split) <;> simp
@[simp] theorem liftNotices_orders (n : Byte) (s : State) : (liftNotices n s).orders = s.orders := by
  unfold liftNotices; (try dsimp only); (repeat' split) <;> simp
@[simp] theorem liftNotices_free (n : Byte) (s : State) : (liftNotices n s).free = s.free := by
  unfold liftNotices; (try dsimp only); (repeat' split) <;> simp

/-! ### `liftHold` -/

@[simp] theorem liftHold_pending (c : Cause) (i : Option Nat) (s : State) : (liftHold c i s).pending = s.pending := by
  unfold liftHold; (try dsimp only); (repeat' split) <;> simp
@[simp] theorem liftHold_pins (c : Cause) (i : Option Nat) (s : State) : (liftHold c i s).pins = s.pins := by
  unfold liftHold; (try dsimp only); (repeat' split) <;> simp
@[simp] theorem liftHold_clock (c : Cause) (i : Option Nat) (s : State) : (liftHold c i s).clock = s.clock := by
  unfold liftHold; (try dsimp only); (repeat' split) <;> simp
@[simp] theorem liftHold_startup (c : Cause) (i : Option Nat) (s : State) : (liftHold c i s).startup = s.startup := by
  unfold liftHold; (try dsimp only); (repeat' split) <;> simp
@[simp] theorem liftHold_sweep (c : Cause) (i : Option Nat) (s : State) : (liftHold c i s).sweep = s.sweep := by
  unfold liftHold; (try dsimp only); (repeat' split) <;> simp
@[simp] theorem liftHold_monitors (c : Cause) (i : Option Nat) (s : State) : (liftHold c i s).monitors = s.monitors := by
  unfold liftHold; (try dsimp only); (repeat' split) <;> simp
@[simp] theorem liftHold_roster (c : Cause) (i : Option Nat) (s : State) : (liftHold c i s).roster = s.roster := by
  unfold liftHold; (try dsimp only); (repeat' split) <;> simp
@[simp] theorem liftHold_plan (c : Cause) (i : Option Nat) (s : State) : (liftHold c i s).plan = s.plan := by
  unfold liftHold; (try dsimp only); (repeat' split) <;> simp
@[simp] theorem liftHold_switch (c : Cause) (i : Option Nat) (s : State) : (liftHold c i s).switch = s.switch := by
  unfold liftHold; (try dsimp only); (repeat' split) <;> simp
@[simp] theorem liftHold_lockout (c : Cause) (i : Option Nat) (s : State) : (liftHold c i s).lockout = s.lockout := by
  unfold liftHold; (try dsimp only); (repeat' split) <;> simp
@[simp] theorem liftHold_store (c : Cause) (i : Option Nat) (s : State) : (liftHold c i s).store = s.store := by
  unfold liftHold; (try dsimp only); (repeat' split) <;> simp
@[simp] theorem liftHold_orders (c : Cause) (i : Option Nat) (s : State) : (liftHold c i s).orders = s.orders := by
  unfold liftHold; (try dsimp only); (repeat' split) <;> simp
@[simp] theorem liftHold_free (c : Cause) (i : Option Nat) (s : State) : (liftHold c i s).free = s.free := by
  unfold liftHold; (try dsimp only); (repeat' split) <;> simp

/-! ### `purge` -/

@[simp] theorem purge_pending (a : Nat) (s : State) : (purge a s).pending = s.pending := by
  unfold purge; (try dsimp only); (repeat' split) <;> simp
@[simp] theorem purge_pins (a : Nat) (s : State) : (purge a s).pins = s.pins := by
  unfold purge; (try dsimp only); (repeat' split) <;> simp
@[simp] theorem purge_clock (a : Nat) (s : State) : (purge a s).clock = s.clock := by
  unfold purge; (try dsimp only); (repeat' split) <;> simp
@[simp] theorem purge_startup (a : Nat) (s : State) : (purge a s).startup = s.startup := by
  unfold purge; (try dsimp only); (repeat' split) <;> simp
@[simp] theorem purge_sweep (a : Nat) (s : State) : (purge a s).sweep = s.sweep := by
  unfold purge; (try dsimp only); (repeat' split) <;> simp
@[simp] theorem purge_monitors (a : Nat) (s : State) : (purge a s).monitors = s.monitors := by
  unfold purge; (try dsimp only); (repeat' split) <;> simp
@[simp] theorem purge_roster (a : Nat) (s : State) : (purge a s).roster = s.roster := by
  unfold purge; (try dsimp only); (repeat' split) <;> simp
@[simp] theorem purge_plan (a : Nat) (s : State) : (purge a s).plan = s.plan := by
  unfold purge; (try dsimp only); (repeat' split) <;> simp
@[simp] theorem purge_switch (a : Nat) (s : State) : (purge a s).switch = s.switch := by
  unfold purge; (try dsimp only); (repeat' split) <;> simp
@[simp] theorem purge_lockout (a : Nat) (s : State) : (purge a s).lockout = s.lockout := by
  unfold purge; (try dsimp only); (repeat' split) <;> simp
@[simp] theorem purge_store (a : Nat) (s : State) : (purge a s).store = s.store := by
  unfold purge; (try dsimp only); (repeat' split) <;> simp
@[simp] theorem purge_link (a : Nat) (s : State) : (purge a s).link = s.link := by
  unfold purge; (try dsimp only); (repeat' split) <;> simp
@[simp] theorem purge_orders (a : Nat) (s : State) : (purge a s).orders = s.orders := by
  unfold purge; (try dsimp only); (repeat' split) <;> simp
@[simp] theorem purge_free (a : Nat) (s : State) : (purge a s).free = s.free := by
  unfold purge; (try dsimp only); (repeat' split) <;> simp

/-! ### `requestRecall` -/

@[simp] theorem requestRecall_pending (a : Nat) (s : State) : (requestRecall a s).pending = s.pending := by
  unfold requestRecall; (try dsimp only); (repeat' split) <;> simp
@[simp] theorem requestRecall_pins (a : Nat) (s : State) : (requestRecall a s).pins = s.pins := by
  unfold requestRecall; (try dsimp only); (repeat' split) <;> simp
@[simp] theorem requestRecall_clock (a : Nat) (s : State) : (requestRecall a s).clock = s.clock := by
  unfold requestRecall; (try dsimp only); (repeat' split) <;> simp
@[simp] theorem requestRecall_startup (a : Nat) (s : State) : (requestRecall a s).startup = s.startup := by
  unfold requestRecall; (try dsimp only); (repeat' split) <;> simp
@[simp] theorem requestRecall_sweep (a : Nat) (s : State) : (requestRecall a s).sweep = s.sweep := by
  unfold requestRecall; (try dsimp only); (repeat' split) <;> simp
@[simp] theorem requestRecall_monitors (a : Nat) (s : State) : (requestRecall a s).monitors = s.monitors := by
  unfold requestRecall; (try dsimp only); (repeat' split) <;> simp
@[simp] theorem requestRecall_plan (a : Nat) (s : State) : (requestRecall a s).plan = s.plan := by
  unfold requestRecall; (try dsimp only); (repeat' split) <;> simp
@[simp] theorem requestRecall_switch (a : Nat) (s : State) : (requestRecall a s).switch = s.switch := by
  unfold requestRecall; (try dsimp only); (repeat' split) <;> simp
@[simp] theorem requestRecall_lockout (a : Nat) (s : State) : (requestRecall a s).lockout = s.lockout := by
  unfold requestRecall; (try dsimp only); (repeat' split) <;> simp
@[simp] theorem requestRecall_store (a : Nat) (s : State) : (requestRecall a s).store = s.store := by
  unfold requestRecall; (try dsimp only); (repeat' split) <;> simp
@[simp] theorem requestRecall_orders (a : Nat) (s : State) : (requestRecall a s).orders = s.orders := by
  unfold requestRecall; (try dsimp only); (repeat' split) <;> simp
@[simp] theorem requestRecall_free (a : Nat) (s : State) : (requestRecall a s).free = s.free := by
  unfold requestRecall; (try dsimp only); (repeat' split) <;> simp

end Sys2Proof.Machine
end

