-- ==== Sys2Proof/Laws/Ballots.lean ====
section
/-! SUPPORT. Which blocks change under the ballot unit's operations: every other block is as it was (one lemma per operation and block). -/

set_option linter.unusedTactic false
set_option linter.unnecessarySeqFocus false
set_option linter.unreachableTactic false
set_option linter.unusedSimpArgs false

namespace Sys2Proof.Machine

/-! ### `propose` -/

@[simp] theorem propose_pending (s : State) : (propose s).pending = s.pending := by
  unfold propose; (try dsimp only); (repeat' split) <;> simp
@[simp] theorem propose_pins (s : State) : (propose s).pins = s.pins := by
  unfold propose; (try dsimp only); (repeat' split) <;> simp
@[simp] theorem propose_clock (s : State) : (propose s).clock = s.clock := by
  unfold propose; (try dsimp only); (repeat' split) <;> simp
@[simp] theorem propose_startup (s : State) : (propose s).startup = s.startup := by
  unfold propose; (try dsimp only); (repeat' split) <;> simp
@[simp] theorem propose_sweep (s : State) : (propose s).sweep = s.sweep := by
  unfold propose; (try dsimp only); (repeat' split) <;> simp
@[simp] theorem propose_monitors (s : State) : (propose s).monitors = s.monitors := by
  unfold propose; (try dsimp only); (repeat' split) <;> simp
@[simp] theorem propose_holds (s : State) : (propose s).holds = s.holds := by
  unfold propose; (try dsimp only); (repeat' split) <;> simp
@[simp] theorem propose_roster (s : State) : (propose s).roster = s.roster := by
  unfold propose; (try dsimp only); (repeat' split) <;> simp
@[simp] theorem propose_plan (s : State) : (propose s).plan = s.plan := by
  unfold propose; (try dsimp only); (repeat' split) <;> simp
@[simp] theorem propose_lockout (s : State) : (propose s).lockout = s.lockout := by
  unfold propose; (try dsimp only); (repeat' split) <;> simp
@[simp] theorem propose_store (s : State) : (propose s).store = s.store := by
  unfold propose; (try dsimp only); (repeat' split) <;> simp
@[simp] theorem propose_orders (s : State) : (propose s).orders = s.orders := by
  unfold propose; (try dsimp only); (repeat' split) <;> simp
@[simp] theorem propose_free (s : State) : (propose s).free = s.free := by
  unfold propose; (try dsimp only); (repeat' split) <;> simp

/-! ### `assent` -/

@[simp] theorem assent_pending (b : Ballot) (s : State) : (assent b s).pending = s.pending := by
  unfold assent; (try dsimp only); (repeat' split) <;> simp
@[simp] theorem assent_pins (b : Ballot) (s : State) : (assent b s).pins = s.pins := by
  unfold assent; (try dsimp only); (repeat' split) <;> simp
@[simp] theorem assent_clock (b : Ballot) (s : State) : (assent b s).clock = s.clock := by
  unfold assent; (try dsimp only); (repeat' split) <;> simp
@[simp] theorem assent_startup (b : Ballot) (s : State) : (assent b s).startup = s.startup := by
  unfold assent; (try dsimp only); (repeat' split) <;> simp
@[simp] theorem assent_sweep (b : Ballot) (s : State) : (assent b s).sweep = s.sweep := by
  unfold assent; (try dsimp only); (repeat' split) <;> simp
@[simp] theorem assent_monitors (b : Ballot) (s : State) : (assent b s).monitors = s.monitors := by
  unfold assent; (try dsimp only); (repeat' split) <;> simp
@[simp] theorem assent_holds (b : Ballot) (s : State) : (assent b s).holds = s.holds := by
  unfold assent; (try dsimp only); (repeat' split) <;> simp
@[simp] theorem assent_roster (b : Ballot) (s : State) : (assent b s).roster = s.roster := by
  unfold assent; (try dsimp only); (repeat' split) <;> simp
@[simp] theorem assent_plan (b : Ballot) (s : State) : (assent b s).plan = s.plan := by
  unfold assent; (try dsimp only); (repeat' split) <;> simp
@[simp] theorem assent_lockout (b : Ballot) (s : State) : (assent b s).lockout = s.lockout := by
  unfold assent; (try dsimp only); (repeat' split) <;> simp
@[simp] theorem assent_store (b : Ballot) (s : State) : (assent b s).store = s.store := by
  unfold assent; (try dsimp only); (repeat' split) <;> simp
@[simp] theorem assent_orders (b : Ballot) (s : State) : (assent b s).orders = s.orders := by
  unfold assent; (try dsimp only); (repeat' split) <;> simp
@[simp] theorem assent_free (b : Ballot) (s : State) : (assent b s).free = s.free := by
  unfold assent; (try dsimp only); (repeat' split) <;> simp

/-! ### `vote` -/

@[simp] theorem vote_pending (b : Ballot) (n : Nat) (d : Digest) (s : State) : (vote b n d s).pending = s.pending := by
  unfold vote; (try dsimp only); (repeat' split) <;> simp
@[simp] theorem vote_pins (b : Ballot) (n : Nat) (d : Digest) (s : State) : (vote b n d s).pins = s.pins := by
  unfold vote; (try dsimp only); (repeat' split) <;> simp
@[simp] theorem vote_clock (b : Ballot) (n : Nat) (d : Digest) (s : State) : (vote b n d s).clock = s.clock := by
  unfold vote; (try dsimp only); (repeat' split) <;> simp
@[simp] theorem vote_startup (b : Ballot) (n : Nat) (d : Digest) (s : State) : (vote b n d s).startup = s.startup := by
  unfold vote; (try dsimp only); (repeat' split) <;> simp
@[simp] theorem vote_sweep (b : Ballot) (n : Nat) (d : Digest) (s : State) : (vote b n d s).sweep = s.sweep := by
  unfold vote; (try dsimp only); (repeat' split) <;> simp
@[simp] theorem vote_monitors (b : Ballot) (n : Nat) (d : Digest) (s : State) : (vote b n d s).monitors = s.monitors := by
  unfold vote; (try dsimp only); (repeat' split) <;> simp
@[simp] theorem vote_holds (b : Ballot) (n : Nat) (d : Digest) (s : State) : (vote b n d s).holds = s.holds := by
  unfold vote; (try dsimp only); (repeat' split) <;> simp
@[simp] theorem vote_roster (b : Ballot) (n : Nat) (d : Digest) (s : State) : (vote b n d s).roster = s.roster := by
  unfold vote; (try dsimp only); (repeat' split) <;> simp
@[simp] theorem vote_plan (b : Ballot) (n : Nat) (d : Digest) (s : State) : (vote b n d s).plan = s.plan := by
  unfold vote; (try dsimp only); (repeat' split) <;> simp
@[simp] theorem vote_lockout (b : Ballot) (n : Nat) (d : Digest) (s : State) : (vote b n d s).lockout = s.lockout := by
  unfold vote; (try dsimp only); (repeat' split) <;> simp
@[simp] theorem vote_store (b : Ballot) (n : Nat) (d : Digest) (s : State) : (vote b n d s).store = s.store := by
  unfold vote; (try dsimp only); (repeat' split) <;> simp
@[simp] theorem vote_orders (b : Ballot) (n : Nat) (d : Digest) (s : State) : (vote b n d s).orders = s.orders := by
  unfold vote; (try dsimp only); (repeat' split) <;> simp
@[simp] theorem vote_free (b : Ballot) (n : Nat) (d : Digest) (s : State) : (vote b n d s).free = s.free := by
  unfold vote; (try dsimp only); (repeat' split) <;> simp

/-! ### `claimCommit` -/

@[simp] theorem claimCommit_pending (b : Ballot) (s : State) : (claimCommit b s).pending = s.pending := by
  unfold claimCommit; (try dsimp only); (repeat' split) <;> simp
@[simp] theorem claimCommit_pins (b : Ballot) (s : State) : (claimCommit b s).pins = s.pins := by
  unfold claimCommit; (try dsimp only); (repeat' split) <;> simp
@[simp] theorem claimCommit_clock (b : Ballot) (s : State) : (claimCommit b s).clock = s.clock := by
  unfold claimCommit; (try dsimp only); (repeat' split) <;> simp
@[simp] theorem claimCommit_startup (b : Ballot) (s : State) : (claimCommit b s).startup = s.startup := by
  unfold claimCommit; (try dsimp only); (repeat' split) <;> simp
@[simp] theorem claimCommit_sweep (b : Ballot) (s : State) : (claimCommit b s).sweep = s.sweep := by
  unfold claimCommit; (try dsimp only); (repeat' split) <;> simp
@[simp] theorem claimCommit_monitors (b : Ballot) (s : State) : (claimCommit b s).monitors = s.monitors := by
  unfold claimCommit; (try dsimp only); (repeat' split) <;> simp
@[simp] theorem claimCommit_holds (b : Ballot) (s : State) : (claimCommit b s).holds = s.holds := by
  unfold claimCommit; (try dsimp only); (repeat' split) <;> simp
@[simp] theorem claimCommit_roster (b : Ballot) (s : State) : (claimCommit b s).roster = s.roster := by
  unfold claimCommit; (try dsimp only); (repeat' split) <;> simp
@[simp] theorem claimCommit_plan (b : Ballot) (s : State) : (claimCommit b s).plan = s.plan := by
  unfold claimCommit; (try dsimp only); (repeat' split) <;> simp
@[simp] theorem claimCommit_switch (b : Ballot) (s : State) : (claimCommit b s).switch = s.switch := by
  unfold claimCommit; (try dsimp only); (repeat' split) <;> simp
@[simp] theorem claimCommit_lockout (b : Ballot) (s : State) : (claimCommit b s).lockout = s.lockout := by
  unfold claimCommit; (try dsimp only); (repeat' split) <;> simp
@[simp] theorem claimCommit_store (b : Ballot) (s : State) : (claimCommit b s).store = s.store := by
  unfold claimCommit; (try dsimp only); (repeat' split) <;> simp
@[simp] theorem claimCommit_orders (b : Ballot) (s : State) : (claimCommit b s).orders = s.orders := by
  unfold claimCommit; (try dsimp only); (repeat' split) <;> simp
@[simp] theorem claimCommit_free (b : Ballot) (s : State) : (claimCommit b s).free = s.free := by
  unfold claimCommit; (try dsimp only); (repeat' split) <;> simp

/-! ### `addVote` -/

@[simp] theorem addVote_pending (a : Nat) (s : State) : (addVote a s).pending = s.pending := by
  unfold addVote; (try dsimp only); (repeat' split) <;> simp
@[simp] theorem addVote_pins (a : Nat) (s : State) : (addVote a s).pins = s.pins := by
  unfold addVote; (try dsimp only); (repeat' split) <;> simp
@[simp] theorem addVote_clock (a : Nat) (s : State) : (addVote a s).clock = s.clock := by
  unfold addVote; (try dsimp only); (repeat' split) <;> simp
@[simp] theorem addVote_startup (a : Nat) (s : State) : (addVote a s).startup = s.startup := by
  unfold addVote; (try dsimp only); (repeat' split) <;> simp
@[simp] theorem addVote_sweep (a : Nat) (s : State) : (addVote a s).sweep = s.sweep := by
  unfold addVote; (try dsimp only); (repeat' split) <;> simp
@[simp] theorem addVote_monitors (a : Nat) (s : State) : (addVote a s).monitors = s.monitors := by
  unfold addVote; (try dsimp only); (repeat' split) <;> simp
@[simp] theorem addVote_holds (a : Nat) (s : State) : (addVote a s).holds = s.holds := by
  unfold addVote; (try dsimp only); (repeat' split) <;> simp
@[simp] theorem addVote_roster (a : Nat) (s : State) : (addVote a s).roster = s.roster := by
  unfold addVote; (try dsimp only); (repeat' split) <;> simp
@[simp] theorem addVote_plan (a : Nat) (s : State) : (addVote a s).plan = s.plan := by
  unfold addVote; (try dsimp only); (repeat' split) <;> simp
@[simp] theorem addVote_switch (a : Nat) (s : State) : (addVote a s).switch = s.switch := by
  unfold addVote; (try dsimp only); (repeat' split) <;> simp
@[simp] theorem addVote_lockout (a : Nat) (s : State) : (addVote a s).lockout = s.lockout := by
  unfold addVote; (try dsimp only); (repeat' split) <;> simp
@[simp] theorem addVote_store (a : Nat) (s : State) : (addVote a s).store = s.store := by
  unfold addVote; (try dsimp only); (repeat' split) <;> simp
@[simp] theorem addVote_link (a : Nat) (s : State) : (addVote a s).link = s.link := by
  unfold addVote; (try dsimp only); (repeat' split) <;> simp
@[simp] theorem addVote_orders (a : Nat) (s : State) : (addVote a s).orders = s.orders := by
  unfold addVote; (try dsimp only); (repeat' split) <;> simp
@[simp] theorem addVote_free (a : Nat) (s : State) : (addVote a s).free = s.free := by
  unfold addVote; (try dsimp only); (repeat' split) <;> simp

/-! ### `enterClosed` -/

@[simp] theorem enterClosed_pending (s : State) : (enterClosed s).pending = s.pending := by
  unfold enterClosed; (try dsimp only); (repeat' split) <;> simp
@[simp] theorem enterClosed_pins (s : State) : (enterClosed s).pins = s.pins := by
  unfold enterClosed; (try dsimp only); (repeat' split) <;> simp
@[simp] theorem enterClosed_clock (s : State) : (enterClosed s).clock = s.clock := by
  unfold enterClosed; (try dsimp only); (repeat' split) <;> simp
@[simp] theorem enterClosed_startup (s : State) : (enterClosed s).startup = s.startup := by
  unfold enterClosed; (try dsimp only); (repeat' split) <;> simp
@[simp] theorem enterClosed_sweep (s : State) : (enterClosed s).sweep = s.sweep := by
  unfold enterClosed; (try dsimp only); (repeat' split) <;> simp
@[simp] theorem enterClosed_monitors (s : State) : (enterClosed s).monitors = s.monitors := by
  unfold enterClosed; (try dsimp only); (repeat' split) <;> simp
@[simp] theorem enterClosed_holds (s : State) : (enterClosed s).holds = s.holds := by
  unfold enterClosed; (try dsimp only); (repeat' split) <;> simp
@[simp] theorem enterClosed_plan (s : State) : (enterClosed s).plan = s.plan := by
  unfold enterClosed; (try dsimp only); (repeat' split) <;> simp
@[simp] theorem enterClosed_lockout (s : State) : (enterClosed s).lockout = s.lockout := by
  unfold enterClosed; (try dsimp only); (repeat' split) <;> simp
@[simp] theorem enterClosed_store (s : State) : (enterClosed s).store = s.store := by
  unfold enterClosed; (try dsimp only); (repeat' split) <;> simp
@[simp] theorem enterClosed_orders (s : State) : (enterClosed s).orders = s.orders := by
  unfold enterClosed; (try dsimp only); (repeat' split) <;> simp
@[simp] theorem enterClosed_free (s : State) : (enterClosed s).free = s.free := by
  unfold enterClosed; (try dsimp only); (repeat' split) <;> simp

/-! ### `confirmOffer` -/

@[simp] theorem confirmOffer_pending (a : Nat) (m : Mode) (b : Ballot) (s : State) : (confirmOffer a m b s).pending = s.pending := by
  unfold confirmOffer; (try dsimp only); (repeat' split) <;> simp
@[simp] theorem confirmOffer_pins (a : Nat) (m : Mode) (b : Ballot) (s : State) : (confirmOffer a m b s).pins = s.pins := by
  unfold confirmOffer; (try dsimp only); (repeat' split) <;> simp
@[simp] theorem confirmOffer_clock (a : Nat) (m : Mode) (b : Ballot) (s : State) : (confirmOffer a m b s).clock = s.clock := by
  unfold confirmOffer; (try dsimp only); (repeat' split) <;> simp
@[simp] theorem confirmOffer_startup (a : Nat) (m : Mode) (b : Ballot) (s : State) : (confirmOffer a m b s).startup = s.startup := by
  unfold confirmOffer; (try dsimp only); (repeat' split) <;> simp
@[simp] theorem confirmOffer_sweep (a : Nat) (m : Mode) (b : Ballot) (s : State) : (confirmOffer a m b s).sweep = s.sweep := by
  unfold confirmOffer; (try dsimp only); (repeat' split) <;> simp
@[simp] theorem confirmOffer_monitors (a : Nat) (m : Mode) (b : Ballot) (s : State) : (confirmOffer a m b s).monitors = s.monitors := by
  unfold confirmOffer; (try dsimp only); (repeat' split) <;> simp
@[simp] theorem confirmOffer_holds (a : Nat) (m : Mode) (b : Ballot) (s : State) : (confirmOffer a m b s).holds = s.holds := by
  unfold confirmOffer; (try dsimp only); (repeat' split) <;> simp
@[simp] theorem confirmOffer_plan (a : Nat) (m : Mode) (b : Ballot) (s : State) : (confirmOffer a m b s).plan = s.plan := by
  unfold confirmOffer; (try dsimp only); (repeat' split) <;> simp
@[simp] theorem confirmOffer_lockout (a : Nat) (m : Mode) (b : Ballot) (s : State) : (confirmOffer a m b s).lockout = s.lockout := by
  unfold confirmOffer; (try dsimp only); (repeat' split) <;> simp
@[simp] theorem confirmOffer_store (a : Nat) (m : Mode) (b : Ballot) (s : State) : (confirmOffer a m b s).store = s.store := by
  unfold confirmOffer; (try dsimp only); (repeat' split) <;> simp
@[simp] theorem confirmOffer_orders (a : Nat) (m : Mode) (b : Ballot) (s : State) : (confirmOffer a m b s).orders = s.orders := by
  unfold confirmOffer; (try dsimp only); (repeat' split) <;> simp
@[simp] theorem confirmOffer_free (a : Nat) (m : Mode) (b : Ballot) (s : State) : (confirmOffer a m b s).free = s.free := by
  unfold confirmOffer; (try dsimp only); (repeat' split) <;> simp

/-! ### `endEvent` -/

@[simp] theorem endEvent_pending (r s : State) : (endEvent r s).pending = s.pending := by
  unfold endEvent; (try dsimp only); (repeat' split) <;> simp
@[simp] theorem endEvent_pins (r s : State) : (endEvent r s).pins = s.pins := by
  unfold endEvent; (try dsimp only); (repeat' split) <;> simp
@[simp] theorem endEvent_clock (r s : State) : (endEvent r s).clock = s.clock := by
  unfold endEvent; (try dsimp only); (repeat' split) <;> simp
@[simp] theorem endEvent_startup (r s : State) : (endEvent r s).startup = s.startup := by
  unfold endEvent; (try dsimp only); (repeat' split) <;> simp
@[simp] theorem endEvent_sweep (r s : State) : (endEvent r s).sweep = s.sweep := by
  unfold endEvent; (try dsimp only); (repeat' split) <;> simp
@[simp] theorem endEvent_monitors (r s : State) : (endEvent r s).monitors = s.monitors := by
  unfold endEvent; (try dsimp only); (repeat' split) <;> simp
@[simp] theorem endEvent_holds (r s : State) : (endEvent r s).holds = s.holds := by
  unfold endEvent; (try dsimp only); (repeat' split) <;> simp
@[simp] theorem endEvent_roster (r s : State) : (endEvent r s).roster = s.roster := by
  unfold endEvent; (try dsimp only); (repeat' split) <;> simp
@[simp] theorem endEvent_plan (r s : State) : (endEvent r s).plan = s.plan := by
  unfold endEvent; (try dsimp only); (repeat' split) <;> simp
@[simp] theorem endEvent_switch (r s : State) : (endEvent r s).switch = s.switch := by
  unfold endEvent; (try dsimp only); (repeat' split) <;> simp
@[simp] theorem endEvent_lockout (r s : State) : (endEvent r s).lockout = s.lockout := by
  unfold endEvent; (try dsimp only); (repeat' split) <;> simp
@[simp] theorem endEvent_store (r s : State) : (endEvent r s).store = s.store := by
  unfold endEvent; (try dsimp only); (repeat' split) <;> simp
@[simp] theorem endEvent_orders (r s : State) : (endEvent r s).orders = s.orders := by
  unfold endEvent; (try dsimp only); (repeat' split) <;> simp
@[simp] theorem endEvent_free (r s : State) : (endEvent r s).free = s.free := by
  unfold endEvent; (try dsimp only); (repeat' split) <;> simp

end Sys2Proof.Machine
end

