-- ==== Sys2Proof/Laws/Rosters.lean ====
section
/-! SUPPORT. Which blocks change under the roster's operations and the arrival of a frame: every other block is as it was (one lemma per operation and block). -/

set_option linter.unusedTactic false
set_option linter.unnecessarySeqFocus false
set_option linter.unreachableTactic false
set_option linter.unusedSimpArgs false

namespace Sys2Proof.Machine

/-! ### `judgeLink` -/

@[simp] theorem judgeLink_pending (s : State) : (judgeLink s).pending = s.pending := by
  unfold judgeLink; (try dsimp only); (repeat' split) <;> simp
@[simp] theorem judgeLink_pins (s : State) : (judgeLink s).pins = s.pins := by
  unfold judgeLink; (try dsimp only); (repeat' split) <;> simp
@[simp] theorem judgeLink_clock (s : State) : (judgeLink s).clock = s.clock := by
  unfold judgeLink; (try dsimp only); (repeat' split) <;> simp
@[simp] theorem judgeLink_startup (s : State) : (judgeLink s).startup = s.startup := by
  unfold judgeLink; (try dsimp only); (repeat' split) <;> simp
@[simp] theorem judgeLink_sweep (s : State) : (judgeLink s).sweep = s.sweep := by
  unfold judgeLink; (try dsimp only); (repeat' split) <;> simp
@[simp] theorem judgeLink_monitors (s : State) : (judgeLink s).monitors = s.monitors := by
  unfold judgeLink; (try dsimp only); (repeat' split) <;> simp
@[simp] theorem judgeLink_roster (s : State) : (judgeLink s).roster = s.roster := by
  unfold judgeLink; (try dsimp only); (repeat' split) <;> simp
@[simp] theorem judgeLink_plan (s : State) : (judgeLink s).plan = s.plan := by
  unfold judgeLink; (try dsimp only); (repeat' split) <;> simp
@[simp] theorem judgeLink_lockout (s : State) : (judgeLink s).lockout = s.lockout := by
  unfold judgeLink; (try dsimp only); (repeat' split) <;> simp
@[simp] theorem judgeLink_store (s : State) : (judgeLink s).store = s.store := by
  unfold judgeLink; (try dsimp only); (repeat' split) <;> simp
@[simp] theorem judgeLink_orders (s : State) : (judgeLink s).orders = s.orders := by
  unfold judgeLink; (try dsimp only); (repeat' split) <;> simp
@[simp] theorem judgeLink_free (s : State) : (judgeLink s).free = s.free := by
  unfold judgeLink; (try dsimp only); (repeat' split) <;> simp

/-! ### `judgeDiscord` -/

@[simp] theorem judgeDiscord_pending (s : State) : (judgeDiscord s).pending = s.pending := by
  unfold judgeDiscord; (try dsimp only); (repeat' split) <;> simp
@[simp] theorem judgeDiscord_pins (s : State) : (judgeDiscord s).pins = s.pins := by
  unfold judgeDiscord; (try dsimp only); (repeat' split) <;> simp
@[simp] theorem judgeDiscord_clock (s : State) : (judgeDiscord s).clock = s.clock := by
  unfold judgeDiscord; (try dsimp only); (repeat' split) <;> simp
@[simp] theorem judgeDiscord_startup (s : State) : (judgeDiscord s).startup = s.startup := by
  unfold judgeDiscord; (try dsimp only); (repeat' split) <;> simp
@[simp] theorem judgeDiscord_sweep (s : State) : (judgeDiscord s).sweep = s.sweep := by
  unfold judgeDiscord; (try dsimp only); (repeat' split) <;> simp
@[simp] theorem judgeDiscord_monitors (s : State) : (judgeDiscord s).monitors = s.monitors := by
  unfold judgeDiscord; (try dsimp only); (repeat' split) <;> simp
@[simp] theorem judgeDiscord_roster (s : State) : (judgeDiscord s).roster = s.roster := by
  unfold judgeDiscord; (try dsimp only); (repeat' split) <;> simp
@[simp] theorem judgeDiscord_plan (s : State) : (judgeDiscord s).plan = s.plan := by
  unfold judgeDiscord; (try dsimp only); (repeat' split) <;> simp
@[simp] theorem judgeDiscord_lockout (s : State) : (judgeDiscord s).lockout = s.lockout := by
  unfold judgeDiscord; (try dsimp only); (repeat' split) <;> simp
@[simp] theorem judgeDiscord_store (s : State) : (judgeDiscord s).store = s.store := by
  unfold judgeDiscord; (try dsimp only); (repeat' split) <;> simp
@[simp] theorem judgeDiscord_orders (s : State) : (judgeDiscord s).orders = s.orders := by
  unfold judgeDiscord; (try dsimp only); (repeat' split) <;> simp
@[simp] theorem judgeDiscord_free (s : State) : (judgeDiscord s).free = s.free := by
  unfold judgeDiscord; (try dsimp only); (repeat' split) <;> simp

/-! ### `judgeView` -/

@[simp] theorem judgeView_pending (s : State) : (judgeView s).pending = s.pending := by
  unfold judgeView; (try dsimp only); (repeat' split) <;> simp
@[simp] theorem judgeView_pins (s : State) : (judgeView s).pins = s.pins := by
  unfold judgeView; (try dsimp only); (repeat' split) <;> simp
@[simp] theorem judgeView_clock (s : State) : (judgeView s).clock = s.clock := by
  unfold judgeView; (try dsimp only); (repeat' split) <;> simp
@[simp] theorem judgeView_startup (s : State) : (judgeView s).startup = s.startup := by
  unfold judgeView; (try dsimp only); (repeat' split) <;> simp
@[simp] theorem judgeView_sweep (s : State) : (judgeView s).sweep = s.sweep := by
  unfold judgeView; (try dsimp only); (repeat' split) <;> simp
@[simp] theorem judgeView_monitors (s : State) : (judgeView s).monitors = s.monitors := by
  unfold judgeView; (try dsimp only); (repeat' split) <;> simp
@[simp] theorem judgeView_roster (s : State) : (judgeView s).roster = s.roster := by
  unfold judgeView; (try dsimp only); (repeat' split) <;> simp
@[simp] theorem judgeView_plan (s : State) : (judgeView s).plan = s.plan := by
  unfold judgeView; (try dsimp only); (repeat' split) <;> simp
@[simp] theorem judgeView_lockout (s : State) : (judgeView s).lockout = s.lockout := by
  unfold judgeView; (try dsimp only); (repeat' split) <;> simp
@[simp] theorem judgeView_store (s : State) : (judgeView s).store = s.store := by
  unfold judgeView; (try dsimp only); (repeat' split) <;> simp
@[simp] theorem judgeView_orders (s : State) : (judgeView s).orders = s.orders := by
  unfold judgeView; (try dsimp only); (repeat' split) <;> simp
@[simp] theorem judgeView_free (s : State) : (judgeView s).free = s.free := by
  unfold judgeView; (try dsimp only); (repeat' split) <;> simp

/-! ### `hear` -/

@[simp] theorem hear_pending (a : Nat) (s : State) : (hear a s).pending = s.pending := by
  unfold hear; (try dsimp only); (repeat' split) <;> simp
@[simp] theorem hear_pins (a : Nat) (s : State) : (hear a s).pins = s.pins := by
  unfold hear; (try dsimp only); (repeat' split) <;> simp
@[simp] theorem hear_clock (a : Nat) (s : State) : (hear a s).clock = s.clock := by
  unfold hear; (try dsimp only); (repeat' split) <;> simp
@[simp] theorem hear_startup (a : Nat) (s : State) : (hear a s).startup = s.startup := by
  unfold hear; (try dsimp only); (repeat' split) <;> simp
@[simp] theorem hear_sweep (a : Nat) (s : State) : (hear a s).sweep = s.sweep := by
  unfold hear; (try dsimp only); (repeat' split) <;> simp
@[simp] theorem hear_monitors (a : Nat) (s : State) : (hear a s).monitors = s.monitors := by
  unfold hear; (try dsimp only); (repeat' split) <;> simp
@[simp] theorem hear_plan (a : Nat) (s : State) : (hear a s).plan = s.plan := by
  unfold hear; (try dsimp only); (repeat' split) <;> simp
@[simp] theorem hear_switch (a : Nat) (s : State) : (hear a s).switch = s.switch := by
  unfold hear; (try dsimp only); (repeat' split) <;> simp
@[simp] theorem hear_lockout (a : Nat) (s : State) : (hear a s).lockout = s.lockout := by
  unfold hear; (try dsimp only); (repeat' split) <;> simp
@[simp] theorem hear_store (a : Nat) (s : State) : (hear a s).store = s.store := by
  unfold hear; (try dsimp only); (repeat' split) <;> simp
@[simp] theorem hear_orders (a : Nat) (s : State) : (hear a s).orders = s.orders := by
  unfold hear; (try dsimp only); (repeat' split) <;> simp
@[simp] theorem hear_free (a : Nat) (s : State) : (hear a s).free = s.free := by
  unfold hear; (try dsimp only); (repeat' split) <;> simp

/-! ### `ageTick` -/

@[simp] theorem ageTick_pending (s : State) : (ageTick s).pending = s.pending := by
  unfold ageTick; (try dsimp only); (repeat' split) <;> simp
@[simp] theorem ageTick_pins (s : State) : (ageTick s).pins = s.pins := by
  unfold ageTick; (try dsimp only); (repeat' split) <;> simp
@[simp] theorem ageTick_clock (s : State) : (ageTick s).clock = s.clock := by
  unfold ageTick; (try dsimp only); (repeat' split) <;> simp
@[simp] theorem ageTick_startup (s : State) : (ageTick s).startup = s.startup := by
  unfold ageTick; (try dsimp only); (repeat' split) <;> simp
@[simp] theorem ageTick_sweep (s : State) : (ageTick s).sweep = s.sweep := by
  unfold ageTick; (try dsimp only); (repeat' split) <;> simp
@[simp] theorem ageTick_monitors (s : State) : (ageTick s).monitors = s.monitors := by
  unfold ageTick; (try dsimp only); (repeat' split) <;> simp
@[simp] theorem ageTick_plan (s : State) : (ageTick s).plan = s.plan := by
  unfold ageTick; (try dsimp only); (repeat' split) <;> simp
@[simp] theorem ageTick_switch (s : State) : (ageTick s).switch = s.switch := by
  unfold ageTick; (try dsimp only); (repeat' split) <;> simp
@[simp] theorem ageTick_lockout (s : State) : (ageTick s).lockout = s.lockout := by
  unfold ageTick; (try dsimp only); (repeat' split) <;> simp
@[simp] theorem ageTick_store (s : State) : (ageTick s).store = s.store := by
  unfold ageTick; (try dsimp only); (repeat' split) <;> simp
@[simp] theorem ageTick_link (s : State) : (ageTick s).link = s.link := by
  unfold ageTick; (try dsimp only); (repeat' split) <;> simp
@[simp] theorem ageTick_orders (s : State) : (ageTick s).orders = s.orders := by
  unfold ageTick; (try dsimp only); (repeat' split) <;> simp
@[simp] theorem ageTick_free (s : State) : (ageTick s).free = s.free := by
  unfold ageTick; (try dsimp only); (repeat' split) <;> simp

/-! ### `reconcile` -/

@[simp] theorem reconcile_pending (p n : Nat) (b : Bool) (s : State) : (reconcile p n b s).pending = s.pending := by
  unfold reconcile; (try dsimp only); (repeat' split) <;> simp
@[simp] theorem reconcile_pins (p n : Nat) (b : Bool) (s : State) : (reconcile p n b s).pins = s.pins := by
  unfold reconcile; (try dsimp only); (repeat' split) <;> simp
@[simp] theorem reconcile_clock (p n : Nat) (b : Bool) (s : State) : (reconcile p n b s).clock = s.clock := by
  unfold reconcile; (try dsimp only); (repeat' split) <;> simp
@[simp] theorem reconcile_startup (p n : Nat) (b : Bool) (s : State) : (reconcile p n b s).startup = s.startup := by
  unfold reconcile; (try dsimp only); (repeat' split) <;> simp
@[simp] theorem reconcile_sweep (p n : Nat) (b : Bool) (s : State) : (reconcile p n b s).sweep = s.sweep := by
  unfold reconcile; (try dsimp only); (repeat' split) <;> simp
@[simp] theorem reconcile_monitors (p n : Nat) (b : Bool) (s : State) : (reconcile p n b s).monitors = s.monitors := by
  unfold reconcile; (try dsimp only); (repeat' split) <;> simp
@[simp] theorem reconcile_plan (p n : Nat) (b : Bool) (s : State) : (reconcile p n b s).plan = s.plan := by
  unfold reconcile; (try dsimp only); (repeat' split) <;> simp
@[simp] theorem reconcile_switch (p n : Nat) (b : Bool) (s : State) : (reconcile p n b s).switch = s.switch := by
  unfold reconcile; (try dsimp only); (repeat' split) <;> simp
@[simp] theorem reconcile_lockout (p n : Nat) (b : Bool) (s : State) : (reconcile p n b s).lockout = s.lockout := by
  unfold reconcile; (try dsimp only); (repeat' split) <;> simp
@[simp] theorem reconcile_store (p n : Nat) (b : Bool) (s : State) : (reconcile p n b s).store = s.store := by
  unfold reconcile; (try dsimp only); (repeat' split) <;> simp
@[simp] theorem reconcile_orders (p n : Nat) (b : Bool) (s : State) : (reconcile p n b s).orders = s.orders := by
  unfold reconcile; (try dsimp only); (repeat' split) <;> simp
@[simp] theorem reconcile_free (p n : Nat) (b : Bool) (s : State) : (reconcile p n b s).free = s.free := by
  unfold reconcile; (try dsimp only); (repeat' split) <;> simp

/-! ### `takeTally` -/

@[simp] theorem takeTally_pending (a : Nat) (t : Summary) (w : Bool) (s : State) : (takeTally a t w s).pending = s.pending := by
  unfold takeTally; (try dsimp only); (repeat' split) <;> simp
@[simp] theorem takeTally_pins (a : Nat) (t : Summary) (w : Bool) (s : State) : (takeTally a t w s).pins = s.pins := by
  unfold takeTally; (try dsimp only); (repeat' split) <;> simp
@[simp] theorem takeTally_clock (a : Nat) (t : Summary) (w : Bool) (s : State) : (takeTally a t w s).clock = s.clock := by
  unfold takeTally; (try dsimp only); (repeat' split) <;> simp
@[simp] theorem takeTally_startup (a : Nat) (t : Summary) (w : Bool) (s : State) : (takeTally a t w s).startup = s.startup := by
  unfold takeTally; (try dsimp only); (repeat' split) <;> simp
@[simp] theorem takeTally_sweep (a : Nat) (t : Summary) (w : Bool) (s : State) : (takeTally a t w s).sweep = s.sweep := by
  unfold takeTally; (try dsimp only); (repeat' split) <;> simp
@[simp] theorem takeTally_monitors (a : Nat) (t : Summary) (w : Bool) (s : State) : (takeTally a t w s).monitors = s.monitors := by
  unfold takeTally; (try dsimp only); (repeat' split) <;> simp
@[simp] theorem takeTally_plan (a : Nat) (t : Summary) (w : Bool) (s : State) : (takeTally a t w s).plan = s.plan := by
  unfold takeTally; (try dsimp only); (repeat' split) <;> simp
@[simp] theorem takeTally_lockout (a : Nat) (t : Summary) (w : Bool) (s : State) : (takeTally a t w s).lockout = s.lockout := by
  unfold takeTally; (try dsimp only); (repeat' split) <;> simp
@[simp] theorem takeTally_store (a : Nat) (t : Summary) (w : Bool) (s : State) : (takeTally a t w s).store = s.store := by
  unfold takeTally; (try dsimp only); (repeat' split) <;> simp
@[simp] theorem takeTally_orders (a : Nat) (t : Summary) (w : Bool) (s : State) : (takeTally a t w s).orders = s.orders := by
  unfold takeTally; (try dsimp only); (repeat' split) <;> simp
@[simp] theorem takeTally_free (a : Nat) (t : Summary) (w : Bool) (s : State) : (takeTally a t w s).free = s.free := by
  unfold takeTally; (try dsimp only); (repeat' split) <;> simp

/-! ### `takeAnnounce` -/

@[simp] theorem takeAnnounce_pending (a : Nat) (d : AnnounceData) (s : State) : (takeAnnounce a d s).pending = s.pending := by
  unfold takeAnnounce; (try dsimp only); (repeat' split) <;> simp
@[simp] theorem takeAnnounce_pins (a : Nat) (d : AnnounceData) (s : State) : (takeAnnounce a d s).pins = s.pins := by
  unfold takeAnnounce; (try dsimp only); (repeat' split) <;> simp
@[simp] theorem takeAnnounce_clock (a : Nat) (d : AnnounceData) (s : State) : (takeAnnounce a d s).clock = s.clock := by
  unfold takeAnnounce; (try dsimp only); (repeat' split) <;> simp
@[simp] theorem takeAnnounce_startup (a : Nat) (d : AnnounceData) (s : State) : (takeAnnounce a d s).startup = s.startup := by
  unfold takeAnnounce; (try dsimp only); (repeat' split) <;> simp
@[simp] theorem takeAnnounce_sweep (a : Nat) (d : AnnounceData) (s : State) : (takeAnnounce a d s).sweep = s.sweep := by
  unfold takeAnnounce; (try dsimp only); (repeat' split) <;> simp
@[simp] theorem takeAnnounce_monitors (a : Nat) (d : AnnounceData) (s : State) : (takeAnnounce a d s).monitors = s.monitors := by
  unfold takeAnnounce; (try dsimp only); (repeat' split) <;> simp
@[simp] theorem takeAnnounce_plan (a : Nat) (d : AnnounceData) (s : State) : (takeAnnounce a d s).plan = s.plan := by
  unfold takeAnnounce; (try dsimp only); (repeat' split) <;> simp
@[simp] theorem takeAnnounce_lockout (a : Nat) (d : AnnounceData) (s : State) : (takeAnnounce a d s).lockout = s.lockout := by
  unfold takeAnnounce; (try dsimp only); (repeat' split) <;> simp
@[simp] theorem takeAnnounce_store (a : Nat) (d : AnnounceData) (s : State) : (takeAnnounce a d s).store = s.store := by
  unfold takeAnnounce; (try dsimp only); (repeat' split) <;> simp
@[simp] theorem takeAnnounce_orders (a : Nat) (d : AnnounceData) (s : State) : (takeAnnounce a d s).orders = s.orders := by
  unfold takeAnnounce; (try dsimp only); (repeat' split) <;> simp
@[simp] theorem takeAnnounce_free (a : Nat) (d : AnnounceData) (s : State) : (takeAnnounce a d s).free = s.free := by
  unfold takeAnnounce; (try dsimp only); (repeat' split) <;> simp

/-! ### `storeRemote` -/

@[simp] theorem storeRemote_pending (r : RemoteHold) (s : State) : (storeRemote r s).pending = s.pending := by
  unfold storeRemote; (try dsimp only); (repeat' split) <;> simp
@[simp] theorem storeRemote_pins (r : RemoteHold) (s : State) : (storeRemote r s).pins = s.pins := by
  unfold storeRemote; (try dsimp only); (repeat' split) <;> simp
@[simp] theorem storeRemote_clock (r : RemoteHold) (s : State) : (storeRemote r s).clock = s.clock := by
  unfold storeRemote; (try dsimp only); (repeat' split) <;> simp
@[simp] theorem storeRemote_startup (r : RemoteHold) (s : State) : (storeRemote r s).startup = s.startup := by
  unfold storeRemote; (try dsimp only); (repeat' split) <;> simp
@[simp] theorem storeRemote_sweep (r : RemoteHold) (s : State) : (storeRemote r s).sweep = s.sweep := by
  unfold storeRemote; (try dsimp only); (repeat' split) <;> simp
@[simp] theorem storeRemote_monitors (r : RemoteHold) (s : State) : (storeRemote r s).monitors = s.monitors := by
  unfold storeRemote; (try dsimp only); (repeat' split) <;> simp
@[simp] theorem storeRemote_plan (r : RemoteHold) (s : State) : (storeRemote r s).plan = s.plan := by
  unfold storeRemote; (try dsimp only); (repeat' split) <;> simp
@[simp] theorem storeRemote_switch (r : RemoteHold) (s : State) : (storeRemote r s).switch = s.switch := by
  unfold storeRemote; (try dsimp only); (repeat' split) <;> simp
@[simp] theorem storeRemote_lockout (r : RemoteHold) (s : State) : (storeRemote r s).lockout = s.lockout := by
  unfold storeRemote; (try dsimp only); (repeat' split) <;> simp
@[simp] theorem storeRemote_store (r : RemoteHold) (s : State) : (storeRemote r s).store = s.store := by
  unfold storeRemote; (try dsimp only); (repeat' split) <;> simp
@[simp] theorem storeRemote_orders (r : RemoteHold) (s : State) : (storeRemote r s).orders = s.orders := by
  unfold storeRemote; (try dsimp only); (repeat' split) <;> simp
@[simp] theorem storeRemote_free (r : RemoteHold) (s : State) : (storeRemote r s).free = s.free := by
  unfold storeRemote; (try dsimp only); (repeat' split) <;> simp

/-! ### `takeHold` -/

@[simp] theorem takeHold_pending (r : RemoteHold) (s : State) : (takeHold r s).pending = s.pending := by
  unfold takeHold; (try dsimp only); (repeat' split) <;> simp
@[simp] theorem takeHold_pins (r : RemoteHold) (s : State) : (takeHold r s).pins = s.pins := by
  unfold takeHold; (try dsimp only); (repeat' split) <;> simp
@[simp] theorem takeHold_clock (r : RemoteHold) (s : State) : (takeHold r s).clock = s.clock := by
  unfold takeHold; (try dsimp only); (repeat' split) <;> simp
@[simp] theorem takeHold_startup (r : RemoteHold) (s : State) : (takeHold r s).startup = s.startup := by
  unfold takeHold; (try dsimp only); (repeat' split) <;> simp
@[simp] theorem takeHold_sweep (r : RemoteHold) (s : State) : (takeHold r s).sweep = s.sweep := by
  unfold takeHold; (try dsimp only); (repeat' split) <;> simp
@[simp] theorem takeHold_monitors (r : RemoteHold) (s : State) : (takeHold r s).monitors = s.monitors := by
  unfold takeHold; (try dsimp only); (repeat' split) <;> simp
@[simp] theorem takeHold_plan (r : RemoteHold) (s : State) : (takeHold r s).plan = s.plan := by
  unfold takeHold; (try dsimp only); (repeat' split) <;> simp
@[simp] theorem takeHold_lockout (r : RemoteHold) (s : State) : (takeHold r s).lockout = s.lockout := by
  unfold takeHold; (try dsimp only); (repeat' split) <;> simp
@[simp] theorem takeHold_store (r : RemoteHold) (s : State) : (takeHold r s).store = s.store := by
  unfold takeHold; (try dsimp only); (repeat' split) <;> simp
@[simp] theorem takeHold_orders (r : RemoteHold) (s : State) : (takeHold r s).orders = s.orders := by
  unfold takeHold; (try dsimp only); (repeat' split) <;> simp
@[simp] theorem takeHold_free (r : RemoteHold) (s : State) : (takeHold r s).free = s.free := by
  unfold takeHold; (try dsimp only); (repeat' split) <;> simp

/-! ### `takeLift` -/

@[simp] theorem takeLift_pending (o : Nat) (n : Byte) (s : State) : (takeLift o n s).pending = s.pending := by
  unfold takeLift; (try dsimp only); (repeat' split) <;> simp
@[simp] theorem takeLift_pins (o : Nat) (n : Byte) (s : State) : (takeLift o n s).pins = s.pins := by
  unfold takeLift; (try dsimp only); (repeat' split) <;> simp
@[simp] theorem takeLift_clock (o : Nat) (n : Byte) (s : State) : (takeLift o n s).clock = s.clock := by
  unfold takeLift; (try dsimp only); (repeat' split) <;> simp
@[simp] theorem takeLift_startup (o : Nat) (n : Byte) (s : State) : (takeLift o n s).startup = s.startup := by
  unfold takeLift; (try dsimp only); (repeat' split) <;> simp
@[simp] theorem takeLift_sweep (o : Nat) (n : Byte) (s : State) : (takeLift o n s).sweep = s.sweep := by
  unfold takeLift; (try dsimp only); (repeat' split) <;> simp
@[simp] theorem takeLift_monitors (o : Nat) (n : Byte) (s : State) : (takeLift o n s).monitors = s.monitors := by
  unfold takeLift; (try dsimp only); (repeat' split) <;> simp
@[simp] theorem takeLift_roster (o : Nat) (n : Byte) (s : State) : (takeLift o n s).roster = s.roster := by
  unfold takeLift; (try dsimp only); (repeat' split) <;> simp
@[simp] theorem takeLift_plan (o : Nat) (n : Byte) (s : State) : (takeLift o n s).plan = s.plan := by
  unfold takeLift; (try dsimp only); (repeat' split) <;> simp
@[simp] theorem takeLift_switch (o : Nat) (n : Byte) (s : State) : (takeLift o n s).switch = s.switch := by
  unfold takeLift; (try dsimp only); (repeat' split) <;> simp
@[simp] theorem takeLift_lockout (o : Nat) (n : Byte) (s : State) : (takeLift o n s).lockout = s.lockout := by
  unfold takeLift; (try dsimp only); (repeat' split) <;> simp
@[simp] theorem takeLift_store (o : Nat) (n : Byte) (s : State) : (takeLift o n s).store = s.store := by
  unfold takeLift; (try dsimp only); (repeat' split) <;> simp
@[simp] theorem takeLift_link (o : Nat) (n : Byte) (s : State) : (takeLift o n s).link = s.link := by
  unfold takeLift; (try dsimp only); (repeat' split) <;> simp
@[simp] theorem takeLift_orders (o : Nat) (n : Byte) (s : State) : (takeLift o n s).orders = s.orders := by
  unfold takeLift; (try dsimp only); (repeat' split) <;> simp
@[simp] theorem takeLift_free (o : Nat) (n : Byte) (s : State) : (takeLift o n s).free = s.free := by
  unfold takeLift; (try dsimp only); (repeat' split) <;> simp

/-! ### `replayNotice` -/

@[simp] theorem replayNotice_pending (s : State) (h : OwnHold) : (replayNotice s h).pending = s.pending := by
  unfold replayNotice; (try dsimp only); (repeat' split) <;> simp
@[simp] theorem replayNotice_pins (s : State) (h : OwnHold) : (replayNotice s h).pins = s.pins := by
  unfold replayNotice; (try dsimp only); (repeat' split) <;> simp
@[simp] theorem replayNotice_clock (s : State) (h : OwnHold) : (replayNotice s h).clock = s.clock := by
  unfold replayNotice; (try dsimp only); (repeat' split) <;> simp
@[simp] theorem replayNotice_startup (s : State) (h : OwnHold) : (replayNotice s h).startup = s.startup := by
  unfold replayNotice; (try dsimp only); (repeat' split) <;> simp
@[simp] theorem replayNotice_sweep (s : State) (h : OwnHold) : (replayNotice s h).sweep = s.sweep := by
  unfold replayNotice; (try dsimp only); (repeat' split) <;> simp
@[simp] theorem replayNotice_monitors (s : State) (h : OwnHold) : (replayNotice s h).monitors = s.monitors := by
  unfold replayNotice; (try dsimp only); (repeat' split) <;> simp
@[simp] theorem replayNotice_roster (s : State) (h : OwnHold) : (replayNotice s h).roster = s.roster := by
  unfold replayNotice; (try dsimp only); (repeat' split) <;> simp
@[simp] theorem replayNotice_ballot (s : State) (h : OwnHold) : (replayNotice s h).ballot = s.ballot := by
  unfold replayNotice; (try dsimp only); (repeat' split) <;> simp
@[simp] theorem replayNotice_plan (s : State) (h : OwnHold) : (replayNotice s h).plan = s.plan := by
  unfold replayNotice; (try dsimp only); (repeat' split) <;> simp
@[simp] theorem replayNotice_switch (s : State) (h : OwnHold) : (replayNotice s h).switch = s.switch := by
  unfold replayNotice; (try dsimp only); (repeat' split) <;> simp
@[simp] theorem replayNotice_lockout (s : State) (h : OwnHold) : (replayNotice s h).lockout = s.lockout := by
  unfold replayNotice; (try dsimp only); (repeat' split) <;> simp
@[simp] theorem replayNotice_store (s : State) (h : OwnHold) : (replayNotice s h).store = s.store := by
  unfold replayNotice; (try dsimp only); (repeat' split) <;> simp
@[simp] theorem replayNotice_orders (s : State) (h : OwnHold) : (replayNotice s h).orders = s.orders := by
  unfold replayNotice; (try dsimp only); (repeat' split) <;> simp
@[simp] theorem replayNotice_free (s : State) (h : OwnHold) : (replayNotice s h).free = s.free := by
  unfold replayNotice; (try dsimp only); (repeat' split) <;> simp

/-! ### `takeRecall` -/

@[simp] theorem takeRecall_pending (t : Nat) (s : State) : (takeRecall t s).pending = s.pending := by
  unfold takeRecall; split
  · exact foldl_keeps (fun x : State => x.pending) replayNotice (fun x h => replayNotice_pending x h) _ s
  · rfl
@[simp] theorem takeRecall_pins (t : Nat) (s : State) : (takeRecall t s).pins = s.pins := by
  unfold takeRecall; split
  · exact foldl_keeps (fun x : State => x.pins) replayNotice (fun x h => replayNotice_pins x h) _ s
  · rfl
@[simp] theorem takeRecall_clock (t : Nat) (s : State) : (takeRecall t s).clock = s.clock := by
  unfold takeRecall; split
  · exact foldl_keeps (fun x : State => x.clock) replayNotice (fun x h => replayNotice_clock x h) _ s
  · rfl
@[simp] theorem takeRecall_startup (t : Nat) (s : State) : (takeRecall t s).startup = s.startup := by
  unfold takeRecall; split
  · exact foldl_keeps (fun x : State => x.startup) replayNotice (fun x h => replayNotice_startup x h) _ s
  · rfl
@[simp] theorem takeRecall_sweep (t : Nat) (s : State) : (takeRecall t s).sweep = s.sweep := by
  unfold takeRecall; split
  · exact foldl_keeps (fun x : State => x.sweep) replayNotice (fun x h => replayNotice_sweep x h) _ s
  · rfl
@[simp] theorem takeRecall_monitors (t : Nat) (s : State) : (takeRecall t s).monitors = s.monitors := by
  unfold takeRecall; split
  · exact foldl_keeps (fun x : State => x.monitors) replayNotice (fun x h => replayNotice_monitors x h) _ s
  · rfl
@[simp] theorem takeRecall_roster (t : Nat) (s : State) : (takeRecall t s).roster = s.roster := by
  unfold takeRecall; split
  · exact foldl_keeps (fun x : State => x.roster) replayNotice (fun x h => replayNotice_roster x h) _ s
  · rfl
@[simp] theorem takeRecall_ballot (t : Nat) (s : State) : (takeRecall t s).ballot = s.ballot := by
  unfold takeRecall; split
  · exact foldl_keeps (fun x : State => x.ballot) replayNotice (fun x h => replayNotice_ballot x h) _ s
  · rfl
@[simp] theorem takeRecall_plan (t : Nat) (s : State) : (takeRecall t s).plan = s.plan := by
  unfold takeRecall; split
  · exact foldl_keeps (fun x : State => x.plan) replayNotice (fun x h => replayNotice_plan x h) _ s
  · rfl
@[simp] theorem takeRecall_switch (t : Nat) (s : State) : (takeRecall t s).switch = s.switch := by
  unfold takeRecall; split
  · exact foldl_keeps (fun x : State => x.switch) replayNotice (fun x h => replayNotice_switch x h) _ s
  · rfl
@[simp] theorem takeRecall_lockout (t : Nat) (s : State) : (takeRecall t s).lockout = s.lockout := by
  unfold takeRecall; split
  · exact foldl_keeps (fun x : State => x.lockout) replayNotice (fun x h => replayNotice_lockout x h) _ s
  · rfl
@[simp] theorem takeRecall_store (t : Nat) (s : State) : (takeRecall t s).store = s.store := by
  unfold takeRecall; split
  · exact foldl_keeps (fun x : State => x.store) replayNotice (fun x h => replayNotice_store x h) _ s
  · rfl
@[simp] theorem takeRecall_orders (t : Nat) (s : State) : (takeRecall t s).orders = s.orders := by
  unfold takeRecall; split
  · exact foldl_keeps (fun x : State => x.orders) replayNotice (fun x h => replayNotice_orders x h) _ s
  · rfl
@[simp] theorem takeRecall_free (t : Nat) (s : State) : (takeRecall t s).free = s.free := by
  unfold takeRecall; split
  · exact foldl_keeps (fun x : State => x.free) replayNotice (fun x h => replayNotice_free x h) _ s
  · rfl

/-! ### `takePropose` -/

@[simp] theorem takePropose_pending (a : Nat) (b : Ballot) (n : Nat) (d : Digest) (s : State) : (takePropose a b n d s).pending = s.pending := by
  unfold takePropose; (try dsimp only); (repeat' split) <;> simp
@[simp] theorem takePropose_pins (a : Nat) (b : Ballot) (n : Nat) (d : Digest) (s : State) : (takePropose a b n d s).pins = s.pins := by
  unfold takePropose; (try dsimp only); (repeat' split) <;> simp
@[simp] theorem takePropose_clock (a : Nat) (b : Ballot) (n : Nat) (d : Digest) (s : State) : (takePropose a b n d s).clock = s.clock := by
  unfold takePropose; (try dsimp only); (repeat' split) <;> simp
@[simp] theorem takePropose_startup (a : Nat) (b : Ballot) (n : Nat) (d : Digest) (s : State) : (takePropose a b n d s).startup = s.startup := by
  unfold takePropose; (try dsimp only); (repeat' split) <;> simp
@[simp] theorem takePropose_sweep (a : Nat) (b : Ballot) (n : Nat) (d : Digest) (s : State) : (takePropose a b n d s).sweep = s.sweep := by
  unfold takePropose; (try dsimp only); (repeat' split) <;> simp
@[simp] theorem takePropose_monitors (a : Nat) (b : Ballot) (n : Nat) (d : Digest) (s : State) : (takePropose a b n d s).monitors = s.monitors := by
  unfold takePropose; (try dsimp only); (repeat' split) <;> simp
@[simp] theorem takePropose_holds (a : Nat) (b : Ballot) (n : Nat) (d : Digest) (s : State) : (takePropose a b n d s).holds = s.holds := by
  unfold takePropose; (try dsimp only); (repeat' split) <;> simp
@[simp] theorem takePropose_roster (a : Nat) (b : Ballot) (n : Nat) (d : Digest) (s : State) : (takePropose a b n d s).roster = s.roster := by
  unfold takePropose; (try dsimp only); (repeat' split) <;> simp
@[simp] theorem takePropose_plan (a : Nat) (b : Ballot) (n : Nat) (d : Digest) (s : State) : (takePropose a b n d s).plan = s.plan := by
  unfold takePropose; (try dsimp only); (repeat' split) <;> simp
@[simp] theorem takePropose_lockout (a : Nat) (b : Ballot) (n : Nat) (d : Digest) (s : State) : (takePropose a b n d s).lockout = s.lockout := by
  unfold takePropose; (try dsimp only); (repeat' split) <;> simp
@[simp] theorem takePropose_store (a : Nat) (b : Ballot) (n : Nat) (d : Digest) (s : State) : (takePropose a b n d s).store = s.store := by
  unfold takePropose; (try dsimp only); (repeat' split) <;> simp
@[simp] theorem takePropose_orders (a : Nat) (b : Ballot) (n : Nat) (d : Digest) (s : State) : (takePropose a b n d s).orders = s.orders := by
  unfold takePropose; (try dsimp only); (repeat' split) <;> simp
@[simp] theorem takePropose_free (a : Nat) (b : Ballot) (n : Nat) (d : Digest) (s : State) : (takePropose a b n d s).free = s.free := by
  unfold takePropose; (try dsimp only); (repeat' split) <;> simp

/-! ### `takeAssent` -/

@[simp] theorem takeAssent_pending (a : Nat) (b : Ballot) (s : State) : (takeAssent a b s).pending = s.pending := by
  unfold takeAssent; (try dsimp only); (repeat' split) <;> simp
@[simp] theorem takeAssent_pins (a : Nat) (b : Ballot) (s : State) : (takeAssent a b s).pins = s.pins := by
  unfold takeAssent; (try dsimp only); (repeat' split) <;> simp
@[simp] theorem takeAssent_clock (a : Nat) (b : Ballot) (s : State) : (takeAssent a b s).clock = s.clock := by
  unfold takeAssent; (try dsimp only); (repeat' split) <;> simp
@[simp] theorem takeAssent_startup (a : Nat) (b : Ballot) (s : State) : (takeAssent a b s).startup = s.startup := by
  unfold takeAssent; (try dsimp only); (repeat' split) <;> simp
@[simp] theorem takeAssent_sweep (a : Nat) (b : Ballot) (s : State) : (takeAssent a b s).sweep = s.sweep := by
  unfold takeAssent; (try dsimp only); (repeat' split) <;> simp
@[simp] theorem takeAssent_monitors (a : Nat) (b : Ballot) (s : State) : (takeAssent a b s).monitors = s.monitors := by
  unfold takeAssent; (try dsimp only); (repeat' split) <;> simp
@[simp] theorem takeAssent_holds (a : Nat) (b : Ballot) (s : State) : (takeAssent a b s).holds = s.holds := by
  unfold takeAssent; (try dsimp only); (repeat' split) <;> simp
@[simp] theorem takeAssent_roster (a : Nat) (b : Ballot) (s : State) : (takeAssent a b s).roster = s.roster := by
  unfold takeAssent; (try dsimp only); (repeat' split) <;> simp
@[simp] theorem takeAssent_plan (a : Nat) (b : Ballot) (s : State) : (takeAssent a b s).plan = s.plan := by
  unfold takeAssent; (try dsimp only); (repeat' split) <;> simp
@[simp] theorem takeAssent_lockout (a : Nat) (b : Ballot) (s : State) : (takeAssent a b s).lockout = s.lockout := by
  unfold takeAssent; (try dsimp only); (repeat' split) <;> simp
@[simp] theorem takeAssent_store (a : Nat) (b : Ballot) (s : State) : (takeAssent a b s).store = s.store := by
  unfold takeAssent; (try dsimp only); (repeat' split) <;> simp
@[simp] theorem takeAssent_orders (a : Nat) (b : Ballot) (s : State) : (takeAssent a b s).orders = s.orders := by
  unfold takeAssent; (try dsimp only); (repeat' split) <;> simp
@[simp] theorem takeAssent_free (a : Nat) (b : Ballot) (s : State) : (takeAssent a b s).free = s.free := by
  unfold takeAssent; (try dsimp only); (repeat' split) <;> simp

/-! ### `takeDemur` -/

@[simp] theorem takeDemur_pending (b : Ballot) (s : State) : (takeDemur b s).pending = s.pending := by
  unfold takeDemur; (try dsimp only); (repeat' split) <;> simp
@[simp] theorem takeDemur_pins (b : Ballot) (s : State) : (takeDemur b s).pins = s.pins := by
  unfold takeDemur; (try dsimp only); (repeat' split) <;> simp
@[simp] theorem takeDemur_clock (b : Ballot) (s : State) : (takeDemur b s).clock = s.clock := by
  unfold takeDemur; (try dsimp only); (repeat' split) <;> simp
@[simp] theorem takeDemur_startup (b : Ballot) (s : State) : (takeDemur b s).startup = s.startup := by
  unfold takeDemur; (try dsimp only); (repeat' split) <;> simp
@[simp] theorem takeDemur_sweep (b : Ballot) (s : State) : (takeDemur b s).sweep = s.sweep := by
  unfold takeDemur; (try dsimp only); (repeat' split) <;> simp
@[simp] theorem takeDemur_monitors (b : Ballot) (s : State) : (takeDemur b s).monitors = s.monitors := by
  unfold takeDemur; (try dsimp only); (repeat' split) <;> simp
@[simp] theorem takeDemur_holds (b : Ballot) (s : State) : (takeDemur b s).holds = s.holds := by
  unfold takeDemur; (try dsimp only); (repeat' split) <;> simp
@[simp] theorem takeDemur_roster (b : Ballot) (s : State) : (takeDemur b s).roster = s.roster := by
  unfold takeDemur; (try dsimp only); (repeat' split) <;> simp
@[simp] theorem takeDemur_plan (b : Ballot) (s : State) : (takeDemur b s).plan = s.plan := by
  unfold takeDemur; (try dsimp only); (repeat' split) <;> simp
@[simp] theorem takeDemur_lockout (b : Ballot) (s : State) : (takeDemur b s).lockout = s.lockout := by
  unfold takeDemur; (try dsimp only); (repeat' split) <;> simp
@[simp] theorem takeDemur_store (b : Ballot) (s : State) : (takeDemur b s).store = s.store := by
  unfold takeDemur; (try dsimp only); (repeat' split) <;> simp
@[simp] theorem takeDemur_orders (b : Ballot) (s : State) : (takeDemur b s).orders = s.orders := by
  unfold takeDemur; (try dsimp only); (repeat' split) <;> simp
@[simp] theorem takeDemur_free (b : Ballot) (s : State) : (takeDemur b s).free = s.free := by
  unfold takeDemur; (try dsimp only); (repeat' split) <;> simp

/-! ### `takeCommit` -/

@[simp] theorem takeCommit_pending (b : Ballot) (s : State) : (takeCommit b s).pending = s.pending := by
  unfold takeCommit; (try dsimp only); (repeat' split) <;> simp
@[simp] theorem takeCommit_pins (b : Ballot) (s : State) : (takeCommit b s).pins = s.pins := by
  unfold takeCommit; (try dsimp only); (repeat' split) <;> simp
@[simp] theorem takeCommit_clock (b : Ballot) (s : State) : (takeCommit b s).clock = s.clock := by
  unfold takeCommit; (try dsimp only); (repeat' split) <;> simp
@[simp] theorem takeCommit_startup (b : Ballot) (s : State) : (takeCommit b s).startup = s.startup := by
  unfold takeCommit; (try dsimp only); (repeat' split) <;> simp
@[simp] theorem takeCommit_sweep (b : Ballot) (s : State) : (takeCommit b s).sweep = s.sweep := by
  unfold takeCommit; (try dsimp only); (repeat' split) <;> simp
@[simp] theorem takeCommit_monitors (b : Ballot) (s : State) : (takeCommit b s).monitors = s.monitors := by
  unfold takeCommit; (try dsimp only); (repeat' split) <;> simp
@[simp] theorem takeCommit_holds (b : Ballot) (s : State) : (takeCommit b s).holds = s.holds := by
  unfold takeCommit; (try dsimp only); (repeat' split) <;> simp
@[simp] theorem takeCommit_plan (b : Ballot) (s : State) : (takeCommit b s).plan = s.plan := by
  unfold takeCommit; (try dsimp only); (repeat' split) <;> simp
@[simp] theorem takeCommit_lockout (b : Ballot) (s : State) : (takeCommit b s).lockout = s.lockout := by
  unfold takeCommit; (try dsimp only); (repeat' split) <;> simp
@[simp] theorem takeCommit_store (b : Ballot) (s : State) : (takeCommit b s).store = s.store := by
  unfold takeCommit; (try dsimp only); (repeat' split) <;> simp
@[simp] theorem takeCommit_orders (b : Ballot) (s : State) : (takeCommit b s).orders = s.orders := by
  unfold takeCommit; (try dsimp only); (repeat' split) <;> simp
@[simp] theorem takeCommit_free (b : Ballot) (s : State) : (takeCommit b s).free = s.free := by
  unfold takeCommit; (try dsimp only); (repeat' split) <;> simp

/-! ### `takeWithdraw` -/

@[simp] theorem takeWithdraw_pending (b : Ballot) (s : State) : (takeWithdraw b s).pending = s.pending := by
  unfold takeWithdraw; (try dsimp only); (repeat' split) <;> simp
@[simp] theorem takeWithdraw_pins (b : Ballot) (s : State) : (takeWithdraw b s).pins = s.pins := by
  unfold takeWithdraw; (try dsimp only); (repeat' split) <;> simp
@[simp] theorem takeWithdraw_clock (b : Ballot) (s : State) : (takeWithdraw b s).clock = s.clock := by
  unfold takeWithdraw; (try dsimp only); (repeat' split) <;> simp
@[simp] theorem takeWithdraw_startup (b : Ballot) (s : State) : (takeWithdraw b s).startup = s.startup := by
  unfold takeWithdraw; (try dsimp only); (repeat' split) <;> simp
@[simp] theorem takeWithdraw_sweep (b : Ballot) (s : State) : (takeWithdraw b s).sweep = s.sweep := by
  unfold takeWithdraw; (try dsimp only); (repeat' split) <;> simp
@[simp] theorem takeWithdraw_monitors (b : Ballot) (s : State) : (takeWithdraw b s).monitors = s.monitors := by
  unfold takeWithdraw; (try dsimp only); (repeat' split) <;> simp
@[simp] theorem takeWithdraw_holds (b : Ballot) (s : State) : (takeWithdraw b s).holds = s.holds := by
  unfold takeWithdraw; (try dsimp only); (repeat' split) <;> simp
@[simp] theorem takeWithdraw_roster (b : Ballot) (s : State) : (takeWithdraw b s).roster = s.roster := by
  unfold takeWithdraw; (try dsimp only); (repeat' split) <;> simp
@[simp] theorem takeWithdraw_plan (b : Ballot) (s : State) : (takeWithdraw b s).plan = s.plan := by
  unfold takeWithdraw; (try dsimp only); (repeat' split) <;> simp
@[simp] theorem takeWithdraw_lockout (b : Ballot) (s : State) : (takeWithdraw b s).lockout = s.lockout := by
  unfold takeWithdraw; (try dsimp only); (repeat' split) <;> simp
@[simp] theorem takeWithdraw_store (b : Ballot) (s : State) : (takeWithdraw b s).store = s.store := by
  unfold takeWithdraw; (try dsimp only); (repeat' split) <;> simp
@[simp] theorem takeWithdraw_orders (b : Ballot) (s : State) : (takeWithdraw b s).orders = s.orders := by
  unfold takeWithdraw; (try dsimp only); (repeat' split) <;> simp
@[simp] theorem takeWithdraw_free (b : Ballot) (s : State) : (takeWithdraw b s).free = s.free := by
  unfold takeWithdraw; (try dsimp only); (repeat' split) <;> simp

/-! ### `enterMute` -/

@[simp] theorem enterMute_pending (s : State) : (enterMute s).pending = s.pending := by
  unfold enterMute; (try dsimp only); (repeat' split) <;> simp
@[simp] theorem enterMute_pins (s : State) : (enterMute s).pins = s.pins := by
  unfold enterMute; (try dsimp only); (repeat' split) <;> simp
@[simp] theorem enterMute_clock (s : State) : (enterMute s).clock = s.clock := by
  unfold enterMute; (try dsimp only); (repeat' split) <;> simp
@[simp] theorem enterMute_startup (s : State) : (enterMute s).startup = s.startup := by
  unfold enterMute; (try dsimp only); (repeat' split) <;> simp
@[simp] theorem enterMute_sweep (s : State) : (enterMute s).sweep = s.sweep := by
  unfold enterMute; (try dsimp only); (repeat' split) <;> simp
@[simp] theorem enterMute_monitors (s : State) : (enterMute s).monitors = s.monitors := by
  unfold enterMute; (try dsimp only); (repeat' split) <;> simp
@[simp] theorem enterMute_roster (s : State) : (enterMute s).roster = s.roster := by
  unfold enterMute; (try dsimp only); (repeat' split) <;> simp
@[simp] theorem enterMute_ballot (s : State) : (enterMute s).ballot = s.ballot := by
  unfold enterMute; (try dsimp only); (repeat' split) <;> simp
@[simp] theorem enterMute_plan (s : State) : (enterMute s).plan = s.plan := by
  unfold enterMute; (try dsimp only); (repeat' split) <;> simp
@[simp] theorem enterMute_switch (s : State) : (enterMute s).switch = s.switch := by
  unfold enterMute; (try dsimp only); (repeat' split) <;> simp
@[simp] theorem enterMute_lockout (s : State) : (enterMute s).lockout = s.lockout := by
  unfold enterMute; (try dsimp only); (repeat' split) <;> simp
@[simp] theorem enterMute_store (s : State) : (enterMute s).store = s.store := by
  unfold enterMute; (try dsimp only); (repeat' split) <;> simp
@[simp] theorem enterMute_orders (s : State) : (enterMute s).orders = s.orders := by
  unfold enterMute; (try dsimp only); (repeat' split) <;> simp
@[simp] theorem enterMute_free (s : State) : (enterMute s).free = s.free := by
  unfold enterMute; (try dsimp only); (repeat' split) <;> simp

/-! ### `lineQuiet` -/

@[simp] theorem lineQuiet_pending (s : State) : (lineQuiet s).pending = s.pending := by
  unfold lineQuiet; (try dsimp only); (repeat' split) <;> simp
@[simp] theorem lineQuiet_pins (s : State) : (lineQuiet s).pins = s.pins := by
  unfold lineQuiet; (try dsimp only); (repeat' split) <;> simp
@[simp] theorem lineQuiet_clock (s : State) : (lineQuiet s).clock = s.clock := by
  unfold lineQuiet; (try dsimp only); (repeat' split) <;> simp
@[simp] theorem lineQuiet_startup (s : State) : (lineQuiet s).startup = s.startup := by
  unfold lineQuiet; (try dsimp only); (repeat' split) <;> simp
@[simp] theorem lineQuiet_sweep (s : State) : (lineQuiet s).sweep = s.sweep := by
  unfold lineQuiet; (try dsimp only); (repeat' split) <;> simp
@[simp] theorem lineQuiet_monitors (s : State) : (lineQuiet s).monitors = s.monitors := by
  unfold lineQuiet; (try dsimp only); (repeat' split) <;> simp
@[simp] theorem lineQuiet_holds (s : State) : (lineQuiet s).holds = s.holds := by
  unfold lineQuiet; (try dsimp only); (repeat' split) <;> simp
@[simp] theorem lineQuiet_roster (s : State) : (lineQuiet s).roster = s.roster := by
  unfold lineQuiet; (try dsimp only); (repeat' split) <;> simp
@[simp] theorem lineQuiet_ballot (s : State) : (lineQuiet s).ballot = s.ballot := by
  unfold lineQuiet; (try dsimp only); (repeat' split) <;> simp
@[simp] theorem lineQuiet_plan (s : State) : (lineQuiet s).plan = s.plan := by
  unfold lineQuiet; (try dsimp only); (repeat' split) <;> simp
@[simp] theorem lineQuiet_switch (s : State) : (lineQuiet s).switch = s.switch := by
  unfold lineQuiet; (try dsimp only); (repeat' split) <;> simp
@[simp] theorem lineQuiet_lockout (s : State) : (lineQuiet s).lockout = s.lockout := by
  unfold lineQuiet; (try dsimp only); (repeat' split) <;> simp
@[simp] theorem lineQuiet_store (s : State) : (lineQuiet s).store = s.store := by
  unfold lineQuiet; (try dsimp only); (repeat' split) <;> simp
@[simp] theorem lineQuiet_orders (s : State) : (lineQuiet s).orders = s.orders := by
  unfold lineQuiet; (try dsimp only); (repeat' split) <;> simp
@[simp] theorem lineQuiet_free (s : State) : (lineQuiet s).free = s.free := by
  unfold lineQuiet; (try dsimp only); (repeat' split) <;> simp

/-! ### `setLastSender` -/

@[simp] theorem setLastSender_pending (a : Nat) (s : State) : (setLastSender a s).pending = s.pending := by
  unfold setLastSender; (try dsimp only); (repeat' split) <;> simp
@[simp] theorem setLastSender_pins (a : Nat) (s : State) : (setLastSender a s).pins = s.pins := by
  unfold setLastSender; (try dsimp only); (repeat' split) <;> simp
@[simp] theorem setLastSender_clock (a : Nat) (s : State) : (setLastSender a s).clock = s.clock := by
  unfold setLastSender; (try dsimp only); (repeat' split) <;> simp
@[simp] theorem setLastSender_startup (a : Nat) (s : State) : (setLastSender a s).startup = s.startup := by
  unfold setLastSender; (try dsimp only); (repeat' split) <;> simp
@[simp] theorem setLastSender_sweep (a : Nat) (s : State) : (setLastSender a s).sweep = s.sweep := by
  unfold setLastSender; (try dsimp only); (repeat' split) <;> simp
@[simp] theorem setLastSender_monitors (a : Nat) (s : State) : (setLastSender a s).monitors = s.monitors := by
  unfold setLastSender; (try dsimp only); (repeat' split) <;> simp
@[simp] theorem setLastSender_holds (a : Nat) (s : State) : (setLastSender a s).holds = s.holds := by
  unfold setLastSender; (try dsimp only); (repeat' split) <;> simp
@[simp] theorem setLastSender_roster (a : Nat) (s : State) : (setLastSender a s).roster = s.roster := by
  unfold setLastSender; (try dsimp only); (repeat' split) <;> simp
@[simp] theorem setLastSender_ballot (a : Nat) (s : State) : (setLastSender a s).ballot = s.ballot := by
  unfold setLastSender; (try dsimp only); (repeat' split) <;> simp
@[simp] theorem setLastSender_plan (a : Nat) (s : State) : (setLastSender a s).plan = s.plan := by
  unfold setLastSender; (try dsimp only); (repeat' split) <;> simp
@[simp] theorem setLastSender_switch (a : Nat) (s : State) : (setLastSender a s).switch = s.switch := by
  unfold setLastSender; (try dsimp only); (repeat' split) <;> simp
@[simp] theorem setLastSender_lockout (a : Nat) (s : State) : (setLastSender a s).lockout = s.lockout := by
  unfold setLastSender; (try dsimp only); (repeat' split) <;> simp
@[simp] theorem setLastSender_store (a : Nat) (s : State) : (setLastSender a s).store = s.store := by
  unfold setLastSender; (try dsimp only); (repeat' split) <;> simp
@[simp] theorem setLastSender_orders (a : Nat) (s : State) : (setLastSender a s).orders = s.orders := by
  unfold setLastSender; (try dsimp only); (repeat' split) <;> simp
@[simp] theorem setLastSender_free (a : Nat) (s : State) : (setLastSender a s).free = s.free := by
  unfold setLastSender; (try dsimp only); (repeat' split) <;> simp

/-! ### `moveToHead` -/

@[simp] theorem moveToHead_pending (n : Notice) (s : State) : (moveToHead n s).pending = s.pending := by
  unfold moveToHead; (try dsimp only); (repeat' split) <;> simp
@[simp] theorem moveToHead_pins (n : Notice) (s : State) : (moveToHead n s).pins = s.pins := by
  unfold moveToHead; (try dsimp only); (repeat' split) <;> simp
@[simp] theorem moveToHead_clock (n : Notice) (s : State) : (moveToHead n s).clock = s.clock := by
  unfold moveToHead; (try dsimp only); (repeat' split) <;> simp
@[simp] theorem moveToHead_startup (n : Notice) (s : State) : (moveToHead n s).startup = s.startup := by
  unfold moveToHead; (try dsimp only); (repeat' split) <;> simp
@[simp] theorem moveToHead_sweep (n : Notice) (s : State) : (moveToHead n s).sweep = s.sweep := by
  unfold moveToHead; (try dsimp only); (repeat' split) <;> simp
@[simp] theorem moveToHead_monitors (n : Notice) (s : State) : (moveToHead n s).monitors = s.monitors := by
  unfold moveToHead; (try dsimp only); (repeat' split) <;> simp
@[simp] theorem moveToHead_roster (n : Notice) (s : State) : (moveToHead n s).roster = s.roster := by
  unfold moveToHead; (try dsimp only); (repeat' split) <;> simp
@[simp] theorem moveToHead_ballot (n : Notice) (s : State) : (moveToHead n s).ballot = s.ballot := by
  unfold moveToHead; (try dsimp only); (repeat' split) <;> simp
@[simp] theorem moveToHead_plan (n : Notice) (s : State) : (moveToHead n s).plan = s.plan := by
  unfold moveToHead; (try dsimp only); (repeat' split) <;> simp
@[simp] theorem moveToHead_switch (n : Notice) (s : State) : (moveToHead n s).switch = s.switch := by
  unfold moveToHead; (try dsimp only); (repeat' split) <;> simp
@[simp] theorem moveToHead_lockout (n : Notice) (s : State) : (moveToHead n s).lockout = s.lockout := by
  unfold moveToHead; (try dsimp only); (repeat' split) <;> simp
@[simp] theorem moveToHead_store (n : Notice) (s : State) : (moveToHead n s).store = s.store := by
  unfold moveToHead; (try dsimp only); (repeat' split) <;> simp
@[simp] theorem moveToHead_link (n : Notice) (s : State) : (moveToHead n s).link = s.link := by
  unfold moveToHead; (try dsimp only); (repeat' split) <;> simp
@[simp] theorem moveToHead_orders (n : Notice) (s : State) : (moveToHead n s).orders = s.orders := by
  unfold moveToHead; (try dsimp only); (repeat' split) <;> simp
@[simp] theorem moveToHead_free (n : Notice) (s : State) : (moveToHead n s).free = s.free := by
  unfold moveToHead; (try dsimp only); (repeat' split) <;> simp

/-! ### `duplicate` -/

@[simp] theorem duplicate_pending (s : State) : (duplicate s).pending = s.pending := by
  unfold duplicate; (try dsimp only); (repeat' split) <;> simp
@[simp] theorem duplicate_pins (s : State) : (duplicate s).pins = s.pins := by
  unfold duplicate; (try dsimp only); (repeat' split) <;> simp
@[simp] theorem duplicate_clock (s : State) : (duplicate s).clock = s.clock := by
  unfold duplicate; (try dsimp only); (repeat' split) <;> simp
@[simp] theorem duplicate_startup (s : State) : (duplicate s).startup = s.startup := by
  unfold duplicate; (try dsimp only); (repeat' split) <;> simp
@[simp] theorem duplicate_sweep (s : State) : (duplicate s).sweep = s.sweep := by
  unfold duplicate; (try dsimp only); (repeat' split) <;> simp
@[simp] theorem duplicate_monitors (s : State) : (duplicate s).monitors = s.monitors := by
  unfold duplicate; (try dsimp only); (repeat' split) <;> simp
@[simp] theorem duplicate_roster (s : State) : (duplicate s).roster = s.roster := by
  unfold duplicate; (try dsimp only); (repeat' split) <;> simp
@[simp] theorem duplicate_plan (s : State) : (duplicate s).plan = s.plan := by
  unfold duplicate; (try dsimp only); (repeat' split) <;> simp
@[simp] theorem duplicate_lockout (s : State) : (duplicate s).lockout = s.lockout := by
  unfold duplicate; (try dsimp only); (repeat' split) <;> simp
@[simp] theorem duplicate_store (s : State) : (duplicate s).store = s.store := by
  unfold duplicate; (try dsimp only); (repeat' split) <;> simp
@[simp] theorem duplicate_orders (s : State) : (duplicate s).orders = s.orders := by
  unfold duplicate; (try dsimp only); (repeat' split) <;> simp
@[simp] theorem duplicate_free (s : State) : (duplicate s).free = s.free := by
  unfold duplicate; (try dsimp only); (repeat' split) <;> simp

/-! ### `ownAddressHeard` -/

@[simp] theorem ownAddressHeard_pending (s : State) : (ownAddressHeard s).pending = s.pending := by
  unfold ownAddressHeard; (try dsimp only); (repeat' split) <;> simp
@[simp] theorem ownAddressHeard_pins (s : State) : (ownAddressHeard s).pins = s.pins := by
  unfold ownAddressHeard; (try dsimp only); (repeat' split) <;> simp
@[simp] theorem ownAddressHeard_clock (s : State) : (ownAddressHeard s).clock = s.clock := by
  unfold ownAddressHeard; (try dsimp only); (repeat' split) <;> simp
@[simp] theorem ownAddressHeard_startup (s : State) : (ownAddressHeard s).startup = s.startup := by
  unfold ownAddressHeard; (try dsimp only); (repeat' split) <;> simp
@[simp] theorem ownAddressHeard_sweep (s : State) : (ownAddressHeard s).sweep = s.sweep := by
  unfold ownAddressHeard; (try dsimp only); (repeat' split) <;> simp
@[simp] theorem ownAddressHeard_monitors (s : State) : (ownAddressHeard s).monitors = s.monitors := by
  unfold ownAddressHeard; (try dsimp only); (repeat' split) <;> simp
@[simp] theorem ownAddressHeard_roster (s : State) : (ownAddressHeard s).roster = s.roster := by
  unfold ownAddressHeard; (try dsimp only); (repeat' split) <;> simp
@[simp] theorem ownAddressHeard_plan (s : State) : (ownAddressHeard s).plan = s.plan := by
  unfold ownAddressHeard; (try dsimp only); (repeat' split) <;> simp
@[simp] theorem ownAddressHeard_lockout (s : State) : (ownAddressHeard s).lockout = s.lockout := by
  unfold ownAddressHeard; (try dsimp only); (repeat' split) <;> simp
@[simp] theorem ownAddressHeard_store (s : State) : (ownAddressHeard s).store = s.store := by
  unfold ownAddressHeard; (try dsimp only); (repeat' split) <;> simp
@[simp] theorem ownAddressHeard_orders (s : State) : (ownAddressHeard s).orders = s.orders := by
  unfold ownAddressHeard; (try dsimp only); (repeat' split) <;> simp
@[simp] theorem ownAddressHeard_free (s : State) : (ownAddressHeard s).free = s.free := by
  unfold ownAddressHeard; (try dsimp only); (repeat' split) <;> simp

/-! ### `heardState` -/

@[simp] theorem heardState_pending (a : Nat) (s : State) : (heardState a s).pending = s.pending := by
  unfold heardState; (try dsimp only); (repeat' split) <;> simp
@[simp] theorem heardState_pins (a : Nat) (s : State) : (heardState a s).pins = s.pins := by
  unfold heardState; (try dsimp only); (repeat' split) <;> simp
@[simp] theorem heardState_clock (a : Nat) (s : State) : (heardState a s).clock = s.clock := by
  unfold heardState; (try dsimp only); (repeat' split) <;> simp
@[simp] theorem heardState_startup (a : Nat) (s : State) : (heardState a s).startup = s.startup := by
  unfold heardState; (try dsimp only); (repeat' split) <;> simp
@[simp] theorem heardState_sweep (a : Nat) (s : State) : (heardState a s).sweep = s.sweep := by
  unfold heardState; (try dsimp only); (repeat' split) <;> simp
@[simp] theorem heardState_monitors (a : Nat) (s : State) : (heardState a s).monitors = s.monitors := by
  unfold heardState; (try dsimp only); (repeat' split) <;> simp
@[simp] theorem heardState_plan (a : Nat) (s : State) : (heardState a s).plan = s.plan := by
  unfold heardState; (try dsimp only); (repeat' split) <;> simp
@[simp] theorem heardState_lockout (a : Nat) (s : State) : (heardState a s).lockout = s.lockout := by
  unfold heardState; (try dsimp only); (repeat' split) <;> simp
@[simp] theorem heardState_store (a : Nat) (s : State) : (heardState a s).store = s.store := by
  unfold heardState; (try dsimp only); (repeat' split) <;> simp
@[simp] theorem heardState_orders (a : Nat) (s : State) : (heardState a s).orders = s.orders := by
  unfold heardState; (try dsimp only); (repeat' split) <;> simp
@[simp] theorem heardState_free (a : Nat) (s : State) : (heardState a s).free = s.free := by
  unfold heardState; (try dsimp only); (repeat' split) <;> simp

end Sys2Proof.Machine
end

