-- ==== Sys2Proof/Laws/Lockouts.lean ====
section
/-! SUPPORT. Which blocks change under the lockout unit's operations: every other block is as it was (one lemma per operation and block). -/

set_option linter.unusedTactic false
set_option linter.unnecessarySeqFocus false
set_option linter.unreachableTactic false
set_option linter.unusedSimpArgs false

namespace Sys2Proof.Machine

/-! ### `startWrite` -/

@[simp] theorem startWrite_pending (w : Write) (s : State) : (startWrite w s).pending = s.pending := by
  unfold startWrite; (try dsimp only); (repeat' split) <;> simp
@[simp] theorem startWrite_pins (w : Write) (s : State) : (startWrite w s).pins = s.pins := by
  unfold startWrite; (try dsimp only); (repeat' split) <;> simp
@[simp] theorem startWrite_clock (w : Write) (s : State) : (startWrite w s).clock = s.clock := by
  unfold startWrite; (try dsimp only); (repeat' split) <;> simp
@[simp] theorem startWrite_startup (w : Write) (s : State) : (startWrite w s).startup = s.startup := by
  unfold startWrite; (try dsimp only); (repeat' split) <;> simp
@[simp] theorem startWrite_sweep (w : Write) (s : State) : (startWrite w s).sweep = s.sweep := by
  unfold startWrite; (try dsimp only); (repeat' split) <;> simp
@[simp] theorem startWrite_monitors (w : Write) (s : State) : (startWrite w s).monitors = s.monitors := by
  unfold startWrite; (try dsimp only); (repeat' split) <;> simp
@[simp] theorem startWrite_holds (w : Write) (s : State) : (startWrite w s).holds = s.holds := by
  unfold startWrite; (try dsimp only); (repeat' split) <;> simp
@[simp] theorem startWrite_roster (w : Write) (s : State) : (startWrite w s).roster = s.roster := by
  unfold startWrite; (try dsimp only); (repeat' split) <;> simp
@[simp] theorem startWrite_ballot (w : Write) (s : State) : (startWrite w s).ballot = s.ballot := by
  unfold startWrite; (try dsimp only); (repeat' split) <;> simp
@[simp] theorem startWrite_plan (w : Write) (s : State) : (startWrite w s).plan = s.plan := by
  unfold startWrite; (try dsimp only); (repeat' split) <;> simp
@[simp] theorem startWrite_switch (w : Write) (s : State) : (startWrite w s).switch = s.switch := by
  unfold startWrite; (try dsimp only); (repeat' split) <;> simp
@[simp] theorem startWrite_link (w : Write) (s : State) : (startWrite w s).link = s.link := by
  unfold startWrite; (try dsimp only); (repeat' split) <;> simp
@[simp] theorem startWrite_orders (w : Write) (s : State) : (startWrite w s).orders = s.orders := by
  unfold startWrite; (try dsimp only); (repeat' split) <;> simp
@[simp] theorem startWrite_free (w : Write) (s : State) : (startWrite w s).free = s.free := by
  unfold startWrite; (try dsimp only); (repeat' split) <;> simp

/-! ### `endWrite` -/

@[simp] theorem endWrite_pending (w : Write) (o : WriteOutcome) (s : State) : (endWrite w o s).pending = s.pending := by
  unfold endWrite; (try dsimp only); (repeat' split) <;> simp
@[simp] theorem endWrite_pins (w : Write) (o : WriteOutcome) (s : State) : (endWrite w o s).pins = s.pins := by
  unfold endWrite; (try dsimp only); (repeat' split) <;> simp
@[simp] theorem endWrite_clock (w : Write) (o : WriteOutcome) (s : State) : (endWrite w o s).clock = s.clock := by
  unfold endWrite; (try dsimp only); (repeat' split) <;> simp
@[simp] theorem endWrite_startup (w : Write) (o : WriteOutcome) (s : State) : (endWrite w o s).startup = s.startup := by
  unfold endWrite; (try dsimp only); (repeat' split) <;> simp
@[simp] theorem endWrite_sweep (w : Write) (o : WriteOutcome) (s : State) : (endWrite w o s).sweep = s.sweep := by
  unfold endWrite; (try dsimp only); (repeat' split) <;> simp
@[simp] theorem endWrite_monitors (w : Write) (o : WriteOutcome) (s : State) : (endWrite w o s).monitors = s.monitors := by
  unfold endWrite; (try dsimp only); (repeat' split) <;> simp
@[simp] theorem endWrite_holds (w : Write) (o : WriteOutcome) (s : State) : (endWrite w o s).holds = s.holds := by
  unfold endWrite; (try dsimp only); (repeat' split) <;> simp
@[simp] theorem endWrite_roster (w : Write) (o : WriteOutcome) (s : State) : (endWrite w o s).roster = s.roster := by
  unfold endWrite; (try dsimp only); (repeat' split) <;> simp
@[simp] theorem endWrite_ballot (w : Write) (o : WriteOutcome) (s : State) : (endWrite w o s).ballot = s.ballot := by
  unfold endWrite; (try dsimp only); (repeat' split) <;> simp
@[simp] theorem endWrite_plan (w : Write) (o : WriteOutcome) (s : State) : (endWrite w o s).plan = s.plan := by
  unfold endWrite; (try dsimp only); (repeat' split) <;> simp
@[simp] theorem endWrite_switch (w : Write) (o : WriteOutcome) (s : State) : (endWrite w o s).switch = s.switch := by
  unfold endWrite; (try dsimp only); (repeat' split) <;> simp
@[simp] theorem endWrite_link (w : Write) (o : WriteOutcome) (s : State) : (endWrite w o s).link = s.link := by
  unfold endWrite; (try dsimp only); (repeat' split) <;> simp
@[simp] theorem endWrite_orders (w : Write) (o : WriteOutcome) (s : State) : (endWrite w o s).orders = s.orders := by
  unfold endWrite; (try dsimp only); (repeat' split) <;> simp
@[simp] theorem endWrite_free (w : Write) (o : WriteOutcome) (s : State) : (endWrite w o s).free = s.free := by
  unfold endWrite; (try dsimp only); (repeat' split) <;> simp

/-! ### `startActiveTo` -/

@[simp] theorem startActiveTo_pending (n : SlotName) (k : Nat) (s : State) : (startActiveTo n k s).pending = s.pending := by
  unfold startActiveTo; (try dsimp only); (repeat' split) <;> simp
@[simp] theorem startActiveTo_pins (n : SlotName) (k : Nat) (s : State) : (startActiveTo n k s).pins = s.pins := by
  unfold startActiveTo; (try dsimp only); (repeat' split) <;> simp
@[simp] theorem startActiveTo_clock (n : SlotName) (k : Nat) (s : State) : (startActiveTo n k s).clock = s.clock := by
  unfold startActiveTo; (try dsimp only); (repeat' split) <;> simp
@[simp] theorem startActiveTo_startup (n : SlotName) (k : Nat) (s : State) : (startActiveTo n k s).startup = s.startup := by
  unfold startActiveTo; (try dsimp only); (repeat' split) <;> simp
@[simp] theorem startActiveTo_sweep (n : SlotName) (k : Nat) (s : State) : (startActiveTo n k s).sweep = s.sweep := by
  unfold startActiveTo; (try dsimp only); (repeat' split) <;> simp
@[simp] theorem startActiveTo_monitors (n : SlotName) (k : Nat) (s : State) : (startActiveTo n k s).monitors = s.monitors := by
  unfold startActiveTo; (try dsimp only); (repeat' split) <;> simp
@[simp] theorem startActiveTo_holds (n : SlotName) (k : Nat) (s : State) : (startActiveTo n k s).holds = s.holds := by
  unfold startActiveTo; (try dsimp only); (repeat' split) <;> simp
@[simp] theorem startActiveTo_roster (n : SlotName) (k : Nat) (s : State) : (startActiveTo n k s).roster = s.roster := by
  unfold startActiveTo; (try dsimp only); (repeat' split) <;> simp
@[simp] theorem startActiveTo_ballot (n : SlotName) (k : Nat) (s : State) : (startActiveTo n k s).ballot = s.ballot := by
  unfold startActiveTo; (try dsimp only); (repeat' split) <;> simp
@[simp] theorem startActiveTo_plan (n : SlotName) (k : Nat) (s : State) : (startActiveTo n k s).plan = s.plan := by
  unfold startActiveTo; (try dsimp only); (repeat' split) <;> simp
@[simp] theorem startActiveTo_switch (n : SlotName) (k : Nat) (s : State) : (startActiveTo n k s).switch = s.switch := by
  unfold startActiveTo; (try dsimp only); (repeat' split) <;> simp
@[simp] theorem startActiveTo_link (n : SlotName) (k : Nat) (s : State) : (startActiveTo n k s).link = s.link := by
  unfold startActiveTo; (try dsimp only); (repeat' split) <;> simp
@[simp] theorem startActiveTo_orders (n : SlotName) (k : Nat) (s : State) : (startActiveTo n k s).orders = s.orders := by
  unfold startActiveTo; (try dsimp only); (repeat' split) <;> simp
@[simp] theorem startActiveTo_free (n : SlotName) (k : Nat) (s : State) : (startActiveTo n k s).free = s.free := by
  unfold startActiveTo; (try dsimp only); (repeat' split) <;> simp

/-! ### `startActive` -/

@[simp] theorem startActive_pending (s : State) : (startActive s).pending = s.pending := by
  unfold startActive; (try dsimp only); (repeat' split) <;> simp
@[simp] theorem startActive_pins (s : State) : (startActive s).pins = s.pins := by
  unfold startActive; (try dsimp only); (repeat' split) <;> simp
@[simp] theorem startActive_clock (s : State) : (startActive s).clock = s.clock := by
  unfold startActive; (try dsimp only); (repeat' split) <;> simp
@[simp] theorem startActive_startup (s : State) : (startActive s).startup = s.startup := by
  unfold startActive; (try dsimp only); (repeat' split) <;> simp
@[simp] theorem startActive_sweep (s : State) : (startActive s).sweep = s.sweep := by
  unfold startActive; (try dsimp only); (repeat' split) <;> simp
@[simp] theorem startActive_monitors (s : State) : (startActive s).monitors = s.monitors := by
  unfold startActive; (try dsimp only); (repeat' split) <;> simp
@[simp] theorem startActive_holds (s : State) : (startActive s).holds = s.holds := by
  unfold startActive; (try dsimp only); (repeat' split) <;> simp
@[simp] theorem startActive_roster (s : State) : (startActive s).roster = s.roster := by
  unfold startActive; (try dsimp only); (repeat' split) <;> simp
@[simp] theorem startActive_ballot (s : State) : (startActive s).ballot = s.ballot := by
  unfold startActive; (try dsimp only); (repeat' split) <;> simp
@[simp] theorem startActive_plan (s : State) : (startActive s).plan = s.plan := by
  unfold startActive; (try dsimp only); (repeat' split) <;> simp
@[simp] theorem startActive_switch (s : State) : (startActive s).switch = s.switch := by
  unfold startActive; (try dsimp only); (repeat' split) <;> simp
@[simp] theorem startActive_link (s : State) : (startActive s).link = s.link := by
  unfold startActive; (try dsimp only); (repeat' split) <;> simp
@[simp] theorem startActive_orders (s : State) : (startActive s).orders = s.orders := by
  unfold startActive; (try dsimp only); (repeat' split) <;> simp
@[simp] theorem startActive_free (s : State) : (startActive s).free = s.free := by
  unfold startActive; (try dsimp only); (repeat' split) <;> simp

/-! ### `startPending` -/

@[simp] theorem startPending_pending (s : State) : (startPending s).pending = s.pending := by
  unfold startPending; (try dsimp only); (repeat' split) <;> simp
@[simp] theorem startPending_pins (s : State) : (startPending s).pins = s.pins := by
  unfold startPending; (try dsimp only); (repeat' split) <;> simp
@[simp] theorem startPending_clock (s : State) : (startPending s).clock = s.clock := by
  unfold startPending; (try dsimp only); (repeat' split) <;> simp
@[simp] theorem startPending_startup (s : State) : (startPending s).startup = s.startup := by
  unfold startPending; (try dsimp only); (repeat' split) <;> simp
@[simp] theorem startPending_sweep (s : State) : (startPending s).sweep = s.sweep := by
  unfold startPending; (try dsimp only); (repeat' split) <;> simp
@[simp] theorem startPending_monitors (s : State) : (startPending s).monitors = s.monitors := by
  unfold startPending; (try dsimp only); (repeat' split) <;> simp
@[simp] theorem startPending_holds (s : State) : (startPending s).holds = s.holds := by
  unfold startPending; (try dsimp only); (repeat' split) <;> simp
@[simp] theorem startPending_roster (s : State) : (startPending s).roster = s.roster := by
  unfold startPending; (try dsimp only); (repeat' split) <;> simp
@[simp] theorem startPending_ballot (s : State) : (startPending s).ballot = s.ballot := by
  unfold startPending; (try dsimp only); (repeat' split) <;> simp
@[simp] theorem startPending_plan (s : State) : (startPending s).plan = s.plan := by
  unfold startPending; (try dsimp only); (repeat' split) <;> simp
@[simp] theorem startPending_switch (s : State) : (startPending s).switch = s.switch := by
  unfold startPending; (try dsimp only); (repeat' split) <;> simp
@[simp] theorem startPending_link (s : State) : (startPending s).link = s.link := by
  unfold startPending; (try dsimp only); (repeat' split) <;> simp
@[simp] theorem startPending_orders (s : State) : (startPending s).orders = s.orders := by
  unfold startPending; (try dsimp only); (repeat' split) <;> simp
@[simp] theorem startPending_free (s : State) : (startPending s).free = s.free := by
  unfold startPending; (try dsimp only); (repeat' split) <;> simp

/-! ### `beginLockout` -/

@[simp] theorem beginLockout_pending (e : Escalation) (s : State) : (beginLockout e s).pending = s.pending := by
  unfold beginLockout; (try dsimp only); (repeat' split) <;> simp
@[simp] theorem beginLockout_pins (e : Escalation) (s : State) : (beginLockout e s).pins = s.pins := by
  unfold beginLockout; (try dsimp only); (repeat' split) <;> simp
@[simp] theorem beginLockout_clock (e : Escalation) (s : State) : (beginLockout e s).clock = s.clock := by
  unfold beginLockout; (try dsimp only); (repeat' split) <;> simp
@[simp] theorem beginLockout_startup (e : Escalation) (s : State) : (beginLockout e s).startup = s.startup := by
  unfold beginLockout; (try dsimp only); (repeat' split) <;> simp
@[simp] theorem beginLockout_sweep (e : Escalation) (s : State) : (beginLockout e s).sweep = s.sweep := by
  unfold beginLockout; (try dsimp only); (repeat' split) <;> simp
@[simp] theorem beginLockout_monitors (e : Escalation) (s : State) : (beginLockout e s).monitors = s.monitors := by
  unfold beginLockout; (try dsimp only); (repeat' split) <;> simp
@[simp] theorem beginLockout_roster (e : Escalation) (s : State) : (beginLockout e s).roster = s.roster := by
  unfold beginLockout; (try dsimp only); (repeat' split) <;> simp
@[simp] theorem beginLockout_plan (e : Escalation) (s : State) : (beginLockout e s).plan = s.plan := by
  unfold beginLockout; (try dsimp only); (repeat' split) <;> simp
@[simp] theorem beginLockout_orders (e : Escalation) (s : State) : (beginLockout e s).orders = s.orders := by
  unfold beginLockout; (try dsimp only); (repeat' split) <;> simp
@[simp] theorem beginLockout_free (e : Escalation) (s : State) : (beginLockout e s).free = s.free := by
  unfold beginLockout; (try dsimp only); (repeat' split) <;> simp

/-! ### `escalate` -/

@[simp] theorem escalate_pending (e : Escalation) (s : State) : (escalate e s).pending = s.pending := by
  unfold escalate; (try dsimp only); (repeat' split) <;> simp
@[simp] theorem escalate_pins (e : Escalation) (s : State) : (escalate e s).pins = s.pins := by
  unfold escalate; (try dsimp only); (repeat' split) <;> simp
@[simp] theorem escalate_clock (e : Escalation) (s : State) : (escalate e s).clock = s.clock := by
  unfold escalate; (try dsimp only); (repeat' split) <;> simp
@[simp] theorem escalate_startup (e : Escalation) (s : State) : (escalate e s).startup = s.startup := by
  unfold escalate; (try dsimp only); (repeat' split) <;> simp
@[simp] theorem escalate_sweep (e : Escalation) (s : State) : (escalate e s).sweep = s.sweep := by
  unfold escalate; (try dsimp only); (repeat' split) <;> simp
@[simp] theorem escalate_monitors (e : Escalation) (s : State) : (escalate e s).monitors = s.monitors := by
  unfold escalate; (try dsimp only); (repeat' split) <;> simp
@[simp] theorem escalate_roster (e : Escalation) (s : State) : (escalate e s).roster = s.roster := by
  unfold escalate; (try dsimp only); (repeat' split) <;> simp
@[simp] theorem escalate_plan (e : Escalation) (s : State) : (escalate e s).plan = s.plan := by
  unfold escalate; (try dsimp only); (repeat' split) <;> simp
@[simp] theorem escalate_orders (e : Escalation) (s : State) : (escalate e s).orders = s.orders := by
  unfold escalate; (try dsimp only); (repeat' split) <;> simp
@[simp] theorem escalate_free (e : Escalation) (s : State) : (escalate e s).free = s.free := by
  unfold escalate; (try dsimp only); (repeat' split) <;> simp

/-! ### `copySlots` -/

@[simp] theorem copySlots_pending (s : State) : (copySlots s).pending = s.pending := by
  unfold copySlots; (try dsimp only); (repeat' split) <;> simp
@[simp] theorem copySlots_pins (s : State) : (copySlots s).pins = s.pins := by
  unfold copySlots; (try dsimp only); (repeat' split) <;> simp
@[simp] theorem copySlots_clock (s : State) : (copySlots s).clock = s.clock := by
  unfold copySlots; (try dsimp only); (repeat' split) <;> simp
@[simp] theorem copySlots_startup (s : State) : (copySlots s).startup = s.startup := by
  unfold copySlots; (try dsimp only); (repeat' split) <;> simp
@[simp] theorem copySlots_sweep (s : State) : (copySlots s).sweep = s.sweep := by
  unfold copySlots; (try dsimp only); (repeat' split) <;> simp
@[simp] theorem copySlots_monitors (s : State) : (copySlots s).monitors = s.monitors := by
  unfold copySlots; (try dsimp only); (repeat' split) <;> simp
@[simp] theorem copySlots_holds (s : State) : (copySlots s).holds = s.holds := by
  unfold copySlots; (try dsimp only); (repeat' split) <;> simp
@[simp] theorem copySlots_roster (s : State) : (copySlots s).roster = s.roster := by
  unfold copySlots; (try dsimp only); (repeat' split) <;> simp
@[simp] theorem copySlots_ballot (s : State) : (copySlots s).ballot = s.ballot := by
  unfold copySlots; (try dsimp only); (repeat' split) <;> simp
@[simp] theorem copySlots_plan (s : State) : (copySlots s).plan = s.plan := by
  unfold copySlots; (try dsimp only); (repeat' split) <;> simp
@[simp] theorem copySlots_switch (s : State) : (copySlots s).switch = s.switch := by
  unfold copySlots; (try dsimp only); (repeat' split) <;> simp
@[simp] theorem copySlots_store (s : State) : (copySlots s).store = s.store := by
  unfold copySlots; (try dsimp only); (repeat' split) <;> simp
@[simp] theorem copySlots_link (s : State) : (copySlots s).link = s.link := by
  unfold copySlots; (try dsimp only); (repeat' split) <;> simp
@[simp] theorem copySlots_orders (s : State) : (copySlots s).orders = s.orders := by
  unfold copySlots; (try dsimp only); (repeat' split) <;> simp
@[simp] theorem copySlots_free (s : State) : (copySlots s).free = s.free := by
  unfold copySlots; (try dsimp only); (repeat' split) <;> simp

/-! ### `settleConfig` -/

@[simp] theorem settleConfig_pending (s : State) : (settleConfig s).pending = s.pending := by
  unfold settleConfig; (try dsimp only); (repeat' split) <;> simp
@[simp] theorem settleConfig_pins (s : State) : (settleConfig s).pins = s.pins := by
  unfold settleConfig; (try dsimp only); (repeat' split) <;> simp
@[simp] theorem settleConfig_clock (s : State) : (settleConfig s).clock = s.clock := by
  unfold settleConfig; (try dsimp only); (repeat' split) <;> simp
@[simp] theorem settleConfig_sweep (s : State) : (settleConfig s).sweep = s.sweep := by
  unfold settleConfig; (try dsimp only); (repeat' split) <;> simp
@[simp] theorem settleConfig_monitors (s : State) : (settleConfig s).monitors = s.monitors := by
  unfold settleConfig; (try dsimp only); (repeat' split) <;> simp
@[simp] theorem settleConfig_roster (s : State) : (settleConfig s).roster = s.roster := by
  unfold settleConfig; (try dsimp only); (repeat' split) <;> simp
@[simp] theorem settleConfig_plan (s : State) : (settleConfig s).plan = s.plan := by
  unfold settleConfig; (try dsimp only); (repeat' split) <;> simp
@[simp] theorem settleConfig_lockout (s : State) : (settleConfig s).lockout = s.lockout := by
  unfold settleConfig; (try dsimp only); (repeat' split) <;> simp
@[simp] theorem settleConfig_store (s : State) : (settleConfig s).store = s.store := by
  unfold settleConfig; (try dsimp only); (repeat' split) <;> simp
@[simp] theorem settleConfig_orders (s : State) : (settleConfig s).orders = s.orders := by
  unfold settleConfig; (try dsimp only); (repeat' split) <;> simp
@[simp] theorem settleConfig_free (s : State) : (settleConfig s).free = s.free := by
  unfold settleConfig; (try dsimp only); (repeat' split) <;> simp

/-! ### `settleLockout` -/

@[simp] theorem settleLockout_pending (s : State) : (settleLockout s).pending = s.pending := by
  unfold settleLockout; (try dsimp only); (repeat' split) <;> simp
@[simp] theorem settleLockout_pins (s : State) : (settleLockout s).pins = s.pins := by
  unfold settleLockout; (try dsimp only); (repeat' split) <;> simp
@[simp] theorem settleLockout_clock (s : State) : (settleLockout s).clock = s.clock := by
  unfold settleLockout; (try dsimp only); (repeat' split) <;> simp
@[simp] theorem settleLockout_startup (s : State) : (settleLockout s).startup = s.startup := by
  unfold settleLockout; (try dsimp only); (repeat' split) <;> simp
@[simp] theorem settleLockout_sweep (s : State) : (settleLockout s).sweep = s.sweep := by
  unfold settleLockout; (try dsimp only); (repeat' split) <;> simp
@[simp] theorem settleLockout_monitors (s : State) : (settleLockout s).monitors = s.monitors := by
  unfold settleLockout; (try dsimp only); (repeat' split) <;> simp
@[simp] theorem settleLockout_roster (s : State) : (settleLockout s).roster = s.roster := by
  unfold settleLockout; (try dsimp only); (repeat' split) <;> simp
@[simp] theorem settleLockout_plan (s : State) : (settleLockout s).plan = s.plan := by
  unfold settleLockout; (try dsimp only); (repeat' split) <;> simp
@[simp] theorem settleLockout_store (s : State) : (settleLockout s).store = s.store := by
  unfold settleLockout; (try dsimp only); (repeat' split) <;> simp
@[simp] theorem settleLockout_orders (s : State) : (settleLockout s).orders = s.orders := by
  unfold settleLockout; (try dsimp only); (repeat' split) <;> simp
@[simp] theorem settleLockout_free (s : State) : (settleLockout s).free = s.free := by
  unfold settleLockout; (try dsimp only); (repeat' split) <;> simp

end Sys2Proof.Machine
end

