-- ==== Sys2Proof/Laws/Monitors.lean ====
section
/-! SUPPORT. Which blocks change under the monitor bank's operations: every other block is as it was (one lemma per operation and block). -/

set_option linter.unusedTactic false
set_option linter.unnecessarySeqFocus false
set_option linter.unreachableTactic false
set_option linter.unusedSimpArgs false

namespace Sys2Proof.Machine

/-! ### `putMonitor` -/

@[simp] theorem putMonitor_pending (m : Monitor) (s : State) : (putMonitor m s).pending = s.pending := by
  unfold putMonitor; (try dsimp only); (repeat' split) <;> simp
@[simp] theorem putMonitor_pins (m : Monitor) (s : State) : (putMonitor m s).pins = s.pins := by
  unfold putMonitor; (try dsimp only); (repeat' split) <;> simp
@[simp] theorem putMonitor_clock (m : Monitor) (s : State) : (putMonitor m s).clock = s.clock := by
  unfold putMonitor; (try dsimp only); (repeat' split) <;> simp
@[simp] theorem putMonitor_startup (m : Monitor) (s : State) : (putMonitor m s).startup = s.startup := by
  unfold putMonitor; (try dsimp only); (repeat' split) <;> simp
@[simp] theorem putMonitor_sweep (m : Monitor) (s : State) : (putMonitor m s).sweep = s.sweep := by
  unfold putMonitor; (try dsimp only); (repeat' split) <;> simp
@[simp] theorem putMonitor_holds (m : Monitor) (s : State) : (putMonitor m s).holds = s.holds := by
  unfold putMonitor; (try dsimp only); (repeat' split) <;> simp
@[simp] theorem putMonitor_roster (m : Monitor) (s : State) : (putMonitor m s).roster = s.roster := by
  unfold putMonitor; (try dsimp only); (repeat' split) <;> simp
@[simp] theorem putMonitor_ballot (m : Monitor) (s : State) : (putMonitor m s).ballot = s.ballot := by
  unfold putMonitor; (try dsimp only); (repeat' split) <;> simp
@[simp] theorem putMonitor_plan (m : Monitor) (s : State) : (putMonitor m s).plan = s.plan := by
  unfold putMonitor; (try dsimp only); (repeat' split) <;> simp
@[simp] theorem putMonitor_switch (m : Monitor) (s : State) : (putMonitor m s).switch = s.switch := by
  unfold putMonitor; (try dsimp only); (repeat' split) <;> simp
@[simp] theorem putMonitor_lockout (m : Monitor) (s : State) : (putMonitor m s).lockout = s.lockout := by
  unfold putMonitor; (try dsimp only); (repeat' split) <;> simp
@[simp] theorem putMonitor_store (m : Monitor) (s : State) : (putMonitor m s).store = s.store := by
  unfold putMonitor; (try dsimp only); (repeat' split) <;> simp
@[simp] theorem putMonitor_link (m : Monitor) (s : State) : (putMonitor m s).link = s.link := by
  unfold putMonitor; (try dsimp only); (repeat' split) <;> simp
@[simp] theorem putMonitor_orders (m : Monitor) (s : State) : (putMonitor m s).orders = s.orders := by
  unfold putMonitor; (try dsimp only); (repeat' split) <;> simp
@[simp] theorem putMonitor_free (m : Monitor) (s : State) : (putMonitor m s).free = s.free := by
  unfold putMonitor; (try dsimp only); (repeat' split) <;> simp

/-! ### `sendRequest` -/

@[simp] theorem sendRequest_pending (x : SampleSet) (m : Monitor) (s : State) (r : MonitorRequest) : (sendRequest x m s r).pending = s.pending := by
  unfold sendRequest; (try dsimp only); (repeat' split) <;> simp
@[simp] theorem sendRequest_pins (x : SampleSet) (m : Monitor) (s : State) (r : MonitorRequest) : (sendRequest x m s r).pins = s.pins := by
  unfold sendRequest; (try dsimp only); (repeat' split) <;> simp
@[simp] theorem sendRequest_clock (x : SampleSet) (m : Monitor) (s : State) (r : MonitorRequest) : (sendRequest x m s r).clock = s.clock := by
  unfold sendRequest; (try dsimp only); (repeat' split) <;> simp
@[simp] theorem sendRequest_startup (x : SampleSet) (m : Monitor) (s : State) (r : MonitorRequest) : (sendRequest x m s r).startup = s.startup := by
  unfold sendRequest; (try dsimp only); (repeat' split) <;> simp
@[simp] theorem sendRequest_sweep (x : SampleSet) (m : Monitor) (s : State) (r : MonitorRequest) : (sendRequest x m s r).sweep = s.sweep := by
  unfold sendRequest; (try dsimp only); (repeat' split) <;> simp
@[simp] theorem sendRequest_roster (x : SampleSet) (m : Monitor) (s : State) (r : MonitorRequest) : (sendRequest x m s r).roster = s.roster := by
  unfold sendRequest; (try dsimp only); (repeat' split) <;> simp
@[simp] theorem sendRequest_plan (x : SampleSet) (m : Monitor) (s : State) (r : MonitorRequest) : (sendRequest x m s r).plan = s.plan := by
  unfold sendRequest; (try dsimp only); (repeat' split) <;> simp
@[simp] theorem sendRequest_orders (x : SampleSet) (m : Monitor) (s : State) (r : MonitorRequest) : (sendRequest x m s r).orders = s.orders := by
  unfold sendRequest; (try dsimp only); (repeat' split) <;> simp
@[simp] theorem sendRequest_free (x : SampleSet) (m : Monitor) (s : State) (r : MonitorRequest) : (sendRequest x m s r).free = s.free := by
  unfold sendRequest; (try dsimp only); (repeat' split) <;> simp

/-! ### `takeSevere` -/

@[simp] theorem takeSevere_pending (v : Option Bool) (n : Nat) (s : State) : (takeSevere v n s).pending = s.pending := by
  unfold takeSevere; (try dsimp only); (repeat' split) <;> simp
@[simp] theorem takeSevere_pins (v : Option Bool) (n : Nat) (s : State) : (takeSevere v n s).pins = s.pins := by
  unfold takeSevere; (try dsimp only); (repeat' split) <;> simp
@[simp] theorem takeSevere_clock (v : Option Bool) (n : Nat) (s : State) : (takeSevere v n s).clock = s.clock := by
  unfold takeSevere; (try dsimp only); (repeat' split) <;> simp
@[simp] theorem takeSevere_startup (v : Option Bool) (n : Nat) (s : State) : (takeSevere v n s).startup = s.startup := by
  unfold takeSevere; (try dsimp only); (repeat' split) <;> simp
@[simp] theorem takeSevere_sweep (v : Option Bool) (n : Nat) (s : State) : (takeSevere v n s).sweep = s.sweep := by
  unfold takeSevere; (try dsimp only); (repeat' split) <;> simp
@[simp] theorem takeSevere_roster (v : Option Bool) (n : Nat) (s : State) : (takeSevere v n s).roster = s.roster := by
  unfold takeSevere; (try dsimp only); (repeat' split) <;> simp
@[simp] theorem takeSevere_plan (v : Option Bool) (n : Nat) (s : State) : (takeSevere v n s).plan = s.plan := by
  unfold takeSevere; (try dsimp only); (repeat' split) <;> simp
@[simp] theorem takeSevere_orders (v : Option Bool) (n : Nat) (s : State) : (takeSevere v n s).orders = s.orders := by
  unfold takeSevere; (try dsimp only); (repeat' split) <;> simp
@[simp] theorem takeSevere_free (v : Option Bool) (n : Nat) (s : State) : (takeSevere v n s).free = s.free := by
  unfold takeSevere; (try dsimp only); (repeat' split) <;> simp

/-! ### `evaluateOne` -/

@[simp] theorem evaluateOne_pending (x : SampleSet) (s : State) (n : Nat) : (evaluateOne x s n).pending = s.pending := by
  unfold evaluateOne; (try dsimp only); (repeat' split) <;> simp
@[simp] theorem evaluateOne_pins (x : SampleSet) (s : State) (n : Nat) : (evaluateOne x s n).pins = s.pins := by
  unfold evaluateOne; (try dsimp only); (repeat' split) <;> simp
@[simp] theorem evaluateOne_clock (x : SampleSet) (s : State) (n : Nat) : (evaluateOne x s n).clock = s.clock := by
  unfold evaluateOne; (try dsimp only); (repeat' split) <;> simp
@[simp] theorem evaluateOne_startup (x : SampleSet) (s : State) (n : Nat) : (evaluateOne x s n).startup = s.startup := by
  unfold evaluateOne; (try dsimp only); (repeat' split) <;> simp
@[simp] theorem evaluateOne_sweep (x : SampleSet) (s : State) (n : Nat) : (evaluateOne x s n).sweep = s.sweep := by
  unfold evaluateOne; (try dsimp only); (repeat' split) <;> simp
@[simp] theorem evaluateOne_roster (x : SampleSet) (s : State) (n : Nat) : (evaluateOne x s n).roster = s.roster := by
  unfold evaluateOne; (try dsimp only); (repeat' split) <;> simp
@[simp] theorem evaluateOne_plan (x : SampleSet) (s : State) (n : Nat) : (evaluateOne x s n).plan = s.plan := by
  unfold evaluateOne; (try dsimp only); (repeat' split) <;> simp
@[simp] theorem evaluateOne_orders (x : SampleSet) (s : State) (n : Nat) : (evaluateOne x s n).orders = s.orders := by
  unfold evaluateOne; (try dsimp only); (repeat' split) <;> simp
@[simp] theorem evaluateOne_free (x : SampleSet) (s : State) (n : Nat) : (evaluateOne x s n).free = s.free := by
  unfold evaluateOne; (try dsimp only); (repeat' split) <;> simp

/-! ### `evaluateMonitors` -/

@[simp] theorem evaluateMonitors_pending (x : SampleSet) (s : State) : (evaluateMonitors x s).pending = s.pending :=
  foldl_keeps (fun y : State => y.pending) (evaluateOne x) (fun y n => evaluateOne_pending x y n) _ s
@[simp] theorem evaluateMonitors_pins (x : SampleSet) (s : State) : (evaluateMonitors x s).pins = s.pins :=
  foldl_keeps (fun y : State => y.pins) (evaluateOne x) (fun y n => evaluateOne_pins x y n) _ s
@[simp] theorem evaluateMonitors_clock (x : SampleSet) (s : State) : (evaluateMonitors x s).clock = s.clock :=
  foldl_keeps (fun y : State => y.clock) (evaluateOne x) (fun y n => evaluateOne_clock x y n) _ s
@[simp] theorem evaluateMonitors_startup (x : SampleSet) (s : State) : (evaluateMonitors x s).startup = s.startup :=
  foldl_keeps (fun y : State => y.startup) (evaluateOne x) (fun y n => evaluateOne_startup x y n) _ s
@[simp] theorem evaluateMonitors_sweep (x : SampleSet) (s : State) : (evaluateMonitors x s).sweep = s.sweep :=
  foldl_keeps (fun y : State => y.sweep) (evaluateOne x) (fun y n => evaluateOne_sweep x y n) _ s
@[simp] theorem evaluateMonitors_roster (x : SampleSet) (s : State) : (evaluateMonitors x s).roster = s.roster :=
  foldl_keeps (fun y : State => y.roster) (evaluateOne x) (fun y n => evaluateOne_roster x y n) _ s
@[simp] theorem evaluateMonitors_plan (x : SampleSet) (s : State) : (evaluateMonitors x s).plan = s.plan :=
  foldl_keeps (fun y : State => y.plan) (evaluateOne x) (fun y n => evaluateOne_plan x y n) _ s
@[simp] theorem evaluateMonitors_orders (x : SampleSet) (s : State) : (evaluateMonitors x s).orders = s.orders :=
  foldl_keeps (fun y : State => y.orders) (evaluateOne x) (fun y n => evaluateOne_orders x y n) _ s
@[simp] theorem evaluateMonitors_free (x : SampleSet) (s : State) : (evaluateMonitors x s).free = s.free :=
  foldl_keeps (fun y : State => y.free) (evaluateOne x) (fun y n => evaluateOne_free x y n) _ s

end Sys2Proof.Machine
end

