-- ==== Sys2Proof/Laws/Plans.lean ====
section
/-! SUPPORT. Which blocks change under the bleed planner's operations: every other block is as it was (one lemma per operation and block). -/

set_option linter.unusedTactic false
set_option linter.unnecessarySeqFocus false
set_option linter.unreachableTactic false
set_option linter.unusedSimpArgs false

namespace Sys2Proof.Machine

/-! ### `sweepPlanPoint` -/

@[simp] theorem sweepPlanPoint_pending (s : State) : (sweepPlanPoint s).pending = s.pending := by
  unfold sweepPlanPoint; (try dsimp only); (repeat' split) <;> simp
@[simp] theorem sweepPlanPoint_pins (s : State) : (sweepPlanPoint s).pins = s.pins := by
  unfold sweepPlanPoint; (try dsimp only); (repeat' split) <;> simp
@[simp] theorem sweepPlanPoint_clock (s : State) : (sweepPlanPoint s).clock = s.clock := by
  unfold sweepPlanPoint; (try dsimp only); (repeat' split) <;> simp
@[simp] theorem sweepPlanPoint_startup (s : State) : (sweepPlanPoint s).startup = s.startup := by
  unfold sweepPlanPoint; (try dsimp only); (repeat' split) <;> simp
@[simp] theorem sweepPlanPoint_sweep (s : State) : (sweepPlanPoint s).sweep = s.sweep := by
  unfold sweepPlanPoint; (try dsimp only); (repeat' split) <;> simp
@[simp] theorem sweepPlanPoint_monitors (s : State) : (sweepPlanPoint s).monitors = s.monitors := by
  unfold sweepPlanPoint; (try dsimp only); (repeat' split) <;> simp
@[simp] theorem sweepPlanPoint_holds (s : State) : (sweepPlanPoint s).holds = s.holds := by
  unfold sweepPlanPoint; (try dsimp only); (repeat' split) <;> simp
@[simp] theorem sweepPlanPoint_roster (s : State) : (sweepPlanPoint s).roster = s.roster := by
  unfold sweepPlanPoint; (try dsimp only); (repeat' split) <;> simp
@[simp] theorem sweepPlanPoint_ballot (s : State) : (sweepPlanPoint s).ballot = s.ballot := by
  unfold sweepPlanPoint; (try dsimp only); (repeat' split) <;> simp
@[simp] theorem sweepPlanPoint_switch (s : State) : (sweepPlanPoint s).switch = s.switch := by
  unfold sweepPlanPoint; (try dsimp only); (repeat' split) <;> simp
@[simp] theorem sweepPlanPoint_lockout (s : State) : (sweepPlanPoint s).lockout = s.lockout := by
  unfold sweepPlanPoint; (try dsimp only); (repeat' split) <;> simp
@[simp] theorem sweepPlanPoint_store (s : State) : (sweepPlanPoint s).store = s.store := by
  unfold sweepPlanPoint; (try dsimp only); (repeat' split) <;> simp
@[simp] theorem sweepPlanPoint_link (s : State) : (sweepPlanPoint s).link = s.link := by
  unfold sweepPlanPoint; (try dsimp only); (repeat' split) <;> simp
@[simp] theorem sweepPlanPoint_orders (s : State) : (sweepPlanPoint s).orders = s.orders := by
  unfold sweepPlanPoint; (try dsimp only); (repeat' split) <;> simp
@[simp] theorem sweepPlanPoint_free (s : State) : (sweepPlanPoint s).free = s.free := by
  unfold sweepPlanPoint; (try dsimp only); (repeat' split) <;> simp

/-! ### `tallyPlanPoint` -/

@[simp] theorem tallyPlanPoint_pending (a : Nat) (s : State) : (tallyPlanPoint a s).pending = s.pending := by
  unfold tallyPlanPoint; (try dsimp only); (repeat' split) <;> simp
@[simp] theorem tallyPlanPoint_pins (a : Nat) (s : State) : (tallyPlanPoint a s).pins = s.pins := by
  unfold tallyPlanPoint; (try dsimp only); (repeat' split) <;> simp
@[simp] theorem tallyPlanPoint_clock (a : Nat) (s : State) : (tallyPlanPoint a s).clock = s.clock := by
  unfold tallyPlanPoint; (try dsimp only); (repeat' split) <;> simp
@[simp] theorem tallyPlanPoint_startup (a : Nat) (s : State) : (tallyPlanPoint a s).startup = s.startup := by
  unfold tallyPlanPoint; (try dsimp only); (repeat' split) <;> simp
@[simp] theorem tallyPlanPoint_sweep (a : Nat) (s : State) : (tallyPlanPoint a s).sweep = s.sweep := by
  unfold tallyPlanPoint; (try dsimp only); (repeat' split) <;> simp
@[simp] theorem tallyPlanPoint_monitors (a : Nat) (s : State) : (tallyPlanPoint a s).monitors = s.monitors := by
  unfold tallyPlanPoint; (try dsimp only); (repeat' split) <;> simp
@[simp] theorem tallyPlanPoint_holds (a : Nat) (s : State) : (tallyPlanPoint a s).holds = s.holds := by
  unfold tallyPlanPoint; (try dsimp only); (repeat' split) <;> simp
@[simp] theorem tallyPlanPoint_roster (a : Nat) (s : State) : (tallyPlanPoint a s).roster = s.roster := by
  unfold tallyPlanPoint; (try dsimp only); (repeat' split) <;> simp
@[simp] theorem tallyPlanPoint_ballot (a : Nat) (s : State) : (tallyPlanPoint a s).ballot = s.ballot := by
  unfold tallyPlanPoint; (try dsimp only); (repeat' split) <;> simp
@[simp] theorem tallyPlanPoint_switch (a : Nat) (s : State) : (tallyPlanPoint a s).switch = s.switch := by
  unfold tallyPlanPoint; (try dsimp only); (repeat' split) <;> simp
@[simp] theorem tallyPlanPoint_lockout (a : Nat) (s : State) : (tallyPlanPoint a s).lockout = s.lockout := by
  unfold tallyPlanPoint; (try dsimp only); (repeat' split) <;> simp
@[simp] theorem tallyPlanPoint_store (a : Nat) (s : State) : (tallyPlanPoint a s).store = s.store := by
  unfold tallyPlanPoint; (try dsimp only); (repeat' split) <;> simp
@[simp] theorem tallyPlanPoint_link (a : Nat) (s : State) : (tallyPlanPoint a s).link = s.link := by
  unfold tallyPlanPoint; (try dsimp only); (repeat' split) <;> simp
@[simp] theorem tallyPlanPoint_orders (a : Nat) (s : State) : (tallyPlanPoint a s).orders = s.orders := by
  unfold tallyPlanPoint; (try dsimp only); (repeat' split) <;> simp
@[simp] theorem tallyPlanPoint_free (a : Nat) (s : State) : (tallyPlanPoint a s).free = s.free := by
  unfold tallyPlanPoint; (try dsimp only); (repeat' split) <;> simp

/-! ### `suspendBleeding` -/

@[simp] theorem suspendBleeding_pending (s : State) : (suspendBleeding s).pending = s.pending := by
  unfold suspendBleeding; (try dsimp only); (repeat' split) <;> simp
@[simp] theorem suspendBleeding_pins (s : State) : (suspendBleeding s).pins = s.pins := by
  unfold suspendBleeding; (try dsimp only); (repeat' split) <;> simp
@[simp] theorem suspendBleeding_clock (s : State) : (suspendBleeding s).clock = s.clock := by
  unfold suspendBleeding; (try dsimp only); (repeat' split) <;> simp
@[simp] theorem suspendBleeding_startup (s : State) : (suspendBleeding s).startup = s.startup := by
  unfold suspendBleeding; (try dsimp only); (repeat' split) <;> simp
@[simp] theorem suspendBleeding_sweep (s : State) : (suspendBleeding s).sweep = s.sweep := by
  unfold suspendBleeding; (try dsimp only); (repeat' split) <;> simp
@[simp] theorem suspendBleeding_monitors (s : State) : (suspendBleeding s).monitors = s.monitors := by
  unfold suspendBleeding; (try dsimp only); (repeat' split) <;> simp
@[simp] theorem suspendBleeding_holds (s : State) : (suspendBleeding s).holds = s.holds := by
  unfold suspendBleeding; (try dsimp only); (repeat' split) <;> simp
@[simp] theorem suspendBleeding_roster (s : State) : (suspendBleeding s).roster = s.roster := by
  unfold suspendBleeding; (try dsimp only); (repeat' split) <;> simp
@[simp] theorem suspendBleeding_ballot (s : State) : (suspendBleeding s).ballot = s.ballot := by
  unfold suspendBleeding; (try dsimp only); (repeat' split) <;> simp
@[simp] theorem suspendBleeding_switch (s : State) : (suspendBleeding s).switch = s.switch := by
  unfold suspendBleeding; (try dsimp only); (repeat' split) <;> simp
@[simp] theorem suspendBleeding_lockout (s : State) : (suspendBleeding s).lockout = s.lockout := by
  unfold suspendBleeding; (try dsimp only); (repeat' split) <;> simp
@[simp] theorem suspendBleeding_store (s : State) : (suspendBleeding s).store = s.store := by
  unfold suspendBleeding; (try dsimp only); (repeat' split) <;> simp
@[simp] theorem suspendBleeding_link (s : State) : (suspendBleeding s).link = s.link := by
  unfold suspendBleeding; (try dsimp only); (repeat' split) <;> simp
@[simp] theorem suspendBleeding_orders (s : State) : (suspendBleeding s).orders = s.orders := by
  unfold suspendBleeding; (try dsimp only); (repeat' split) <;> simp
@[simp] theorem suspendBleeding_free (s : State) : (suspendBleeding s).free = s.free := by
  unfold suspendBleeding; (try dsimp only); (repeat' split) <;> simp

end Sys2Proof.Machine
end

