-- ==== Sys2Proof/Laws/Starts.lean ====
section
/-! SUPPORT. Which blocks change under a start, sweeps and JOIN entry: every other block is as it was (one lemma per operation and block). -/

set_option linter.unusedTactic false
set_option linter.unnecessarySeqFocus false
set_option linter.unreachableTactic false
set_option linter.unusedSimpArgs false

namespace Sys2Proof.Machine

/-! ### `startSweep` -/

@[simp] theorem startSweep_pending (s : State) : (startSweep s).pending = s.pending := by
  unfold startSweep; (try dsimp only); (repeat' split) <;> simp
@[simp] theorem startSweep_pins (s : State) : (startSweep s).pins = s.pins := by
  unfold startSweep; (try dsimp only); (repeat' split) <;> simp
@[simp] theorem startSweep_clock (s : State) : (startSweep s).clock = s.clock := by
  unfold startSweep; (try dsimp only); (repeat' split) <;> simp
@[simp] theorem startSweep_startup (s : State) : (startSweep s).startup = s.startup := by
  unfold startSweep; (try dsimp only); (repeat' split) <;> simp
@[simp] theorem startSweep_monitors (s : State) : (startSweep s).monitors = s.monitors := by
  unfold startSweep; (try dsimp only); (repeat' split) <;> simp
@[simp] theorem startSweep_holds (s : State) : (startSweep s).holds = s.holds := by
  unfold startSweep; (try dsimp only); (repeat' split) <;> simp
@[simp] theorem startSweep_roster (s : State) : (startSweep s).roster = s.roster := by
  unfold startSweep; (try dsimp only); (repeat' split) <;> simp
@[simp] theorem startSweep_ballot (s : State) : (startSweep s).ballot = s.ballot := by
  unfold startSweep; (try dsimp only); (repeat' split) <;> simp
@[simp] theorem startSweep_switch (s : State) : (startSweep s).switch = s.switch := by
  unfold startSweep; (try dsimp only); (repeat' split) <;> simp
@[simp] theorem startSweep_lockout (s : State) : (startSweep s).lockout = s.lockout := by
  unfold startSweep; (try dsimp only); (repeat' split) <;> simp
@[simp] theorem startSweep_store (s : State) : (startSweep s).store = s.store := by
  unfold startSweep; (try dsimp only); (repeat' split) <;> simp
@[simp] theorem startSweep_link (s : State) : (startSweep s).link = s.link := by
  unfold startSweep; (try dsimp only); (repeat' split) <;> simp
@[simp] theorem startSweep_orders (s : State) : (startSweep s).orders = s.orders := by
  unfold startSweep; (try dsimp only); (repeat' split) <;> simp
@[simp] theorem startSweep_free (s : State) : (startSweep s).free = s.free := by
  unfold startSweep; (try dsimp only); (repeat' split) <;> simp

/-! ### `takeReadings` -/

@[simp] theorem takeReadings_pending (r : Readings) (s : State) : (takeReadings r s).pending = s.pending := by
  unfold takeReadings; (try dsimp only); (repeat' split) <;> simp
@[simp] theorem takeReadings_pins (r : Readings) (s : State) : (takeReadings r s).pins = s.pins := by
  unfold takeReadings; (try dsimp only); (repeat' split) <;> simp
@[simp] theorem takeReadings_clock (r : Readings) (s : State) : (takeReadings r s).clock = s.clock := by
  unfold takeReadings; (try dsimp only); (repeat' split) <;> simp
@[simp] theorem takeReadings_startup (r : Readings) (s : State) : (takeReadings r s).startup = s.startup := by
  unfold takeReadings; (try dsimp only); (repeat' split) <;> simp
@[simp] theorem takeReadings_monitors (r : Readings) (s : State) : (takeReadings r s).monitors = s.monitors := by
  unfold takeReadings; (try dsimp only); (repeat' split) <;> simp
@[simp] theorem takeReadings_holds (r : Readings) (s : State) : (takeReadings r s).holds = s.holds := by
  unfold takeReadings; (try dsimp only); (repeat' split) <;> simp
@[simp] theorem takeReadings_roster (r : Readings) (s : State) : (takeReadings r s).roster = s.roster := by
  unfold takeReadings; (try dsimp only); (repeat' split) <;> simp
@[simp] theorem takeReadings_ballot (r : Readings) (s : State) : (takeReadings r s).ballot = s.ballot := by
  unfold takeReadings; (try dsimp only); (repeat' split) <;> simp
@[simp] theorem takeReadings_plan (r : Readings) (s : State) : (takeReadings r s).plan = s.plan := by
  unfold takeReadings; (try dsimp only); (repeat' split) <;> simp
@[simp] theorem takeReadings_switch (r : Readings) (s : State) : (takeReadings r s).switch = s.switch := by
  unfold takeReadings; (try dsimp only); (repeat' split) <;> simp
@[simp] theorem takeReadings_lockout (r : Readings) (s : State) : (takeReadings r s).lockout = s.lockout := by
  unfold takeReadings; (try dsimp only); (repeat' split) <;> simp
@[simp] theorem takeReadings_store (r : Readings) (s : State) : (takeReadings r s).store = s.store := by
  unfold takeReadings; (try dsimp only); (repeat' split) <;> simp
@[simp] theorem takeReadings_link (r : Readings) (s : State) : (takeReadings r s).link = s.link := by
  unfold takeReadings; (try dsimp only); (repeat' split) <;> simp
@[simp] theorem takeReadings_orders (r : Readings) (s : State) : (takeReadings r s).orders = s.orders := by
  unfold takeReadings; (try dsimp only); (repeat' split) <;> simp
@[simp] theorem takeReadings_free (r : Readings) (s : State) : (takeReadings r s).free = s.free := by
  unfold takeReadings; (try dsimp only); (repeat' split) <;> simp

/-! ### `deliverSweep` -/

@[simp] theorem deliverSweep_pending (s : State) : (deliverSweep s).pending = s.pending := by
  unfold deliverSweep; (try dsimp only); (repeat' split) <;> simp
@[simp] theorem deliverSweep_pins (s : State) : (deliverSweep s).pins = s.pins := by
  unfold deliverSweep; (try dsimp only); (repeat' split) <;> simp
@[simp] theorem deliverSweep_clock (s : State) : (deliverSweep s).clock = s.clock := by
  unfold deliverSweep; (try dsimp only); (repeat' split) <;> simp
@[simp] theorem deliverSweep_startup (s : State) : (deliverSweep s).startup = s.startup := by
  unfold deliverSweep; (try dsimp only); (repeat' split) <;> simp
@[simp] theorem deliverSweep_sweep (s : State) : (deliverSweep s).sweep = s.sweep := by
  unfold deliverSweep; (try dsimp only); (repeat' split) <;> simp
@[simp] theorem deliverSweep_roster (s : State) : (deliverSweep s).roster = s.roster := by
  unfold deliverSweep; (try dsimp only); (repeat' split) <;> simp
@[simp] theorem deliverSweep_orders (s : State) : (deliverSweep s).orders = s.orders := by
  unfold deliverSweep; (try dsimp only); (repeat' split) <;> simp
@[simp] theorem deliverSweep_free (s : State) : (deliverSweep s).free = s.free := by
  unfold deliverSweep; (try dsimp only); (repeat' split) <;> simp

/-! ### `enterRoster` -/

@[simp] theorem enterRoster_pending (s : State) : (enterRoster s).pending = s.pending := by
  unfold enterRoster; (try dsimp only); (repeat' split) <;> simp
@[simp] theorem enterRoster_pins (s : State) : (enterRoster s).pins = s.pins := by
  unfold enterRoster; (try dsimp only); (repeat' split) <;> simp
@[simp] theorem enterRoster_clock (s : State) : (enterRoster s).clock = s.clock := by
  unfold enterRoster; (try dsimp only); (repeat' split) <;> simp
@[simp] theorem enterRoster_startup (s : State) : (enterRoster s).startup = s.startup := by
  unfold enterRoster; (try dsimp only); (repeat' split) <;> simp
@[simp] theorem enterRoster_sweep (s : State) : (enterRoster s).sweep = s.sweep := by
  unfold enterRoster; (try dsimp only); (repeat' split) <;> simp
@[simp] theorem enterRoster_monitors (s : State) : (enterRoster s).monitors = s.monitors := by
  unfold enterRoster; (try dsimp only); (repeat' split) <;> simp
@[simp] theorem enterRoster_holds (s : State) : (enterRoster s).holds = s.holds := by
  unfold enterRoster; (try dsimp only); (repeat' split) <;> simp
@[simp] theorem enterRoster_plan (s : State) : (enterRoster s).plan = s.plan := by
  unfold enterRoster; (try dsimp only); (repeat' split) <;> simp
@[simp] theorem enterRoster_switch (s : State) : (enterRoster s).switch = s.switch := by
  unfold enterRoster; (try dsimp only); (repeat' split) <;> simp
@[simp] theorem enterRoster_lockout (s : State) : (enterRoster s).lockout = s.lockout := by
  unfold enterRoster; (try dsimp only); (repeat' split) <;> simp
@[simp] theorem enterRoster_store (s : State) : (enterRoster s).store = s.store := by
  unfold enterRoster; (try dsimp only); (repeat' split) <;> simp
@[simp] theorem enterRoster_link (s : State) : (enterRoster s).link = s.link := by
  unfold enterRoster; (try dsimp only); (repeat' split) <;> simp
@[simp] theorem enterRoster_orders (s : State) : (enterRoster s).orders = s.orders := by
  unfold enterRoster; (try dsimp only); (repeat' split) <;> simp
@[simp] theorem enterRoster_free (s : State) : (enterRoster s).free = s.free := by
  unfold enterRoster; (try dsimp only); (repeat' split) <;> simp

/-! ### `announceHolds` -/

@[simp] theorem announceHolds_pending (s : State) : (announceHolds s).pending = s.pending :=
  foldl_keeps (fun x : State => x.pending) _ (fun x (h : OwnHold) => appendNotice_pending .hold h.serial false x) _ s
@[simp] theorem announceHolds_pins (s : State) : (announceHolds s).pins = s.pins :=
  foldl_keeps (fun x : State => x.pins) _ (fun x (h : OwnHold) => appendNotice_pins .hold h.serial false x) _ s
@[simp] theorem announceHolds_clock (s : State) : (announceHolds s).clock = s.clock :=
  foldl_keeps (fun x : State => x.clock) _ (fun x (h : OwnHold) => appendNotice_clock .hold h.serial false x) _ s
@[simp] theorem announceHolds_startup (s : State) : (announceHolds s).startup = s.startup :=
  foldl_keeps (fun x : State => x.startup) _ (fun x (h : OwnHold) => appendNotice_startup .hold h.serial false x) _ s
@[simp] theorem announceHolds_sweep (s : State) : (announceHolds s).sweep = s.sweep :=
  foldl_keeps (fun x : State => x.sweep) _ (fun x (h : OwnHold) => appendNotice_sweep .hold h.serial false x) _ s
@[simp] theorem announceHolds_monitors (s : State) : (announceHolds s).monitors = s.monitors :=
  foldl_keeps (fun x : State => x.monitors) _ (fun x (h : OwnHold) => appendNotice_monitors .hold h.serial false x) _ s
@[simp] theorem announceHolds_roster (s : State) : (announceHolds s).roster = s.roster :=
  foldl_keeps (fun x : State => x.roster) _ (fun x (h : OwnHold) => appendNotice_roster .hold h.serial false x) _ s
@[simp] theorem announceHolds_ballot (s : State) : (announceHolds s).ballot = s.ballot :=
  foldl_keeps (fun x : State => x.ballot) _ (fun x (h : OwnHold) => appendNotice_ballot .hold h.serial false x) _ s
@[simp] theorem announceHolds_plan (s : State) : (announceHolds s).plan = s.plan :=
  foldl_keeps (fun x : State => x.plan) _ (fun x (h : OwnHold) => appendNotice_plan .hold h.serial false x) _ s
@[simp] theorem announceHolds_switch (s : State) : (announceHolds s).switch = s.switch :=
  foldl_keeps (fun x : State => x.switch) _ (fun x (h : OwnHold) => appendNotice_switch .hold h.serial false x) _ s
@[simp] theorem announceHolds_lockout (s : State) : (announceHolds s).lockout = s.lockout :=
  foldl_keeps (fun x : State => x.lockout) _ (fun x (h : OwnHold) => appendNotice_lockout .hold h.serial false x) _ s
@[simp] theorem announceHolds_store (s : State) : (announceHolds s).store = s.store :=
  foldl_keeps (fun x : State => x.store) _ (fun x (h : OwnHold) => appendNotice_store .hold h.serial false x) _ s
@[simp] theorem announceHolds_orders (s : State) : (announceHolds s).orders = s.orders :=
  foldl_keeps (fun x : State => x.orders) _ (fun x (h : OwnHold) => appendNotice_orders .hold h.serial false x) _ s
@[simp] theorem announceHolds_free (s : State) : (announceHolds s).free = s.free :=
  foldl_keeps (fun x : State => x.free) _ (fun x (h : OwnHold) => appendNotice_free .hold h.serial false x) _ s

/-! ### `setAnnounce` -/

@[simp] theorem setAnnounce_pending (s : State) : (setAnnounce s).pending = s.pending := by
  unfold setAnnounce; (try dsimp only); (repeat' split) <;> simp
@[simp] theorem setAnnounce_pins (s : State) : (setAnnounce s).pins = s.pins := by
  unfold setAnnounce; (try dsimp only); (repeat' split) <;> simp
@[simp] theorem setAnnounce_clock (s : State) : (setAnnounce s).clock = s.clock := by
  unfold setAnnounce; (try dsimp only); (repeat' split) <;> simp
@[simp] theorem setAnnounce_startup (s : State) : (setAnnounce s).startup = s.startup := by
  unfold setAnnounce; (try dsimp only); (repeat' split) <;> simp
@[simp] theorem setAnnounce_sweep (s : State) : (setAnnounce s).sweep = s.sweep := by
  unfold setAnnounce; (try dsimp only); (repeat' split) <;> simp
@[simp] theorem setAnnounce_monitors (s : State) : (setAnnounce s).monitors = s.monitors := by
  unfold setAnnounce; (try dsimp only); (repeat' split) <;> simp
@[simp] theorem setAnnounce_holds (s : State) : (setAnnounce s).holds = s.holds := by
  unfold setAnnounce; (try dsimp only); (repeat' split) <;> simp
@[simp] theorem setAnnounce_roster (s : State) : (setAnnounce s).roster = s.roster := by
  unfold setAnnounce; (try dsimp only); (repeat' split) <;> simp
@[simp] theorem setAnnounce_ballot (s : State) : (setAnnounce s).ballot = s.ballot := by
  unfold setAnnounce; (try dsimp only); (repeat' split) <;> simp
@[simp] theorem setAnnounce_plan (s : State) : (setAnnounce s).plan = s.plan := by
  unfold setAnnounce; (try dsimp only); (repeat' split) <;> simp
@[simp] theorem setAnnounce_switch (s : State) : (setAnnounce s).switch = s.switch := by
  unfold setAnnounce; (try dsimp only); (repeat' split) <;> simp
@[simp] theorem setAnnounce_lockout (s : State) : (setAnnounce s).lockout = s.lockout := by
  unfold setAnnounce; (try dsimp only); (repeat' split) <;> simp
@[simp] theorem setAnnounce_store (s : State) : (setAnnounce s).store = s.store := by
  unfold setAnnounce; (try dsimp only); (repeat' split) <;> simp
@[simp] theorem setAnnounce_orders (s : State) : (setAnnounce s).orders = s.orders := by
  unfold setAnnounce; (try dsimp only); (repeat' split) <;> simp
@[simp] theorem setAnnounce_free (s : State) : (setAnnounce s).free = s.free := by
  unfold setAnnounce; (try dsimp only); (repeat' split) <;> simp

/-! ### `startTally` -/

@[simp] theorem startTally_pending (s : State) : (startTally s).pending = s.pending := by
  unfold startTally; (try dsimp only); (repeat' split) <;> simp
@[simp] theorem startTally_pins (s : State) : (startTally s).pins = s.pins := by
  unfold startTally; (try dsimp only); (repeat' split) <;> simp
@[simp] theorem startTally_clock (s : State) : (startTally s).clock = s.clock := by
  unfold startTally; (try dsimp only); (repeat' split) <;> simp
@[simp] theorem startTally_startup (s : State) : (startTally s).startup = s.startup := by
  unfold startTally; (try dsimp only); (repeat' split) <;> simp
@[simp] theorem startTally_sweep (s : State) : (startTally s).sweep = s.sweep := by
  unfold startTally; (try dsimp only); (repeat' split) <;> simp
@[simp] theorem startTally_monitors (s : State) : (startTally s).monitors = s.monitors := by
  unfold startTally; (try dsimp only); (repeat' split) <;> simp
@[simp] theorem startTally_holds (s : State) : (startTally s).holds = s.holds := by
  unfold startTally; (try dsimp only); (repeat' split) <;> simp
@[simp] theorem startTally_ballot (s : State) : (startTally s).ballot = s.ballot := by
  unfold startTally; (try dsimp only); (repeat' split) <;> simp
@[simp] theorem startTally_plan (s : State) : (startTally s).plan = s.plan := by
  unfold startTally; (try dsimp only); (repeat' split) <;> simp
@[simp] theorem startTally_switch (s : State) : (startTally s).switch = s.switch := by
  unfold startTally; (try dsimp only); (repeat' split) <;> simp
@[simp] theorem startTally_lockout (s : State) : (startTally s).lockout = s.lockout := by
  unfold startTally; (try dsimp only); (repeat' split) <;> simp
@[simp] theorem startTally_store (s : State) : (startTally s).store = s.store := by
  unfold startTally; (try dsimp only); (repeat' split) <;> simp
@[simp] theorem startTally_link (s : State) : (startTally s).link = s.link := by
  unfold startTally; (try dsimp only); (repeat' split) <;> simp
@[simp] theorem startTally_orders (s : State) : (startTally s).orders = s.orders := by
  unfold startTally; (try dsimp only); (repeat' split) <;> simp
@[simp] theorem startTally_free (s : State) : (startTally s).free = s.free := by
  unfold startTally; (try dsimp only); (repeat' split) <;> simp

/-! ### `joinEntry` -/

@[simp] theorem joinEntry_pending (s : State) : (joinEntry s).pending = s.pending := by
  unfold joinEntry; (try dsimp only); (repeat' split) <;> simp
@[simp] theorem joinEntry_pins (s : State) : (joinEntry s).pins = s.pins := by
  unfold joinEntry; (try dsimp only); (repeat' split) <;> simp
@[simp] theorem joinEntry_clock (s : State) : (joinEntry s).clock = s.clock := by
  unfold joinEntry; (try dsimp only); (repeat' split) <;> simp
@[simp] theorem joinEntry_startup (s : State) : (joinEntry s).startup = s.startup := by
  unfold joinEntry; (try dsimp only); (repeat' split) <;> simp
@[simp] theorem joinEntry_sweep (s : State) : (joinEntry s).sweep = s.sweep := by
  unfold joinEntry; (try dsimp only); (repeat' split) <;> simp
@[simp] theorem joinEntry_monitors (s : State) : (joinEntry s).monitors = s.monitors := by
  unfold joinEntry; (try dsimp only); (repeat' split) <;> simp
@[simp] theorem joinEntry_lockout (s : State) : (joinEntry s).lockout = s.lockout := by
  unfold joinEntry; (try dsimp only); (repeat' split) <;> simp
@[simp] theorem joinEntry_store (s : State) : (joinEntry s).store = s.store := by
  unfold joinEntry; (try dsimp only); (repeat' split) <;> simp
@[simp] theorem joinEntry_orders (s : State) : (joinEntry s).orders = s.orders := by
  unfold joinEntry; (try dsimp only); (repeat' split) <;> simp
@[simp] theorem joinEntry_free (s : State) : (joinEntry s).free = s.free := by
  unfold joinEntry; (try dsimp only); (repeat' split) <;> simp

end Sys2Proof.Machine
end

