-- ==== Sys2Proof/Laws/Fields.lean ====
section
/-! SUPPORT. Which fields change inside the blocks that the shared operations touch, and what leaving, offering and hearing do: one
lemma per operation and field. -/

set_option linter.unusedTactic false
set_option linter.unnecessarySeqFocus false
set_option linter.unreachableTactic false
set_option linter.unusedSimpArgs false

namespace Sys2Proof.Machine

/-! ### Fields of `ballot` under `State.updateEntry` -/

@[simp] theorem State.updateEntry_ballot_mode (s : State) (a : Nat) (f : RosterEntry → RosterEntry) : (State.updateEntry s a f).ballot.mode = s.ballot.mode := by
  unfold State.updateEntry; (try dsimp only); (repeat' split) <;> simp
@[simp] theorem State.updateEntry_ballot_current (s : State) (a : Nat) (f : RosterEntry → RosterEntry) : (State.updateEntry s a f).ballot.current = s.ballot.current := by
  unfold State.updateEntry; (try dsimp only); (repeat' split) <;> simp
@[simp] theorem State.updateEntry_ballot_role (s : State) (a : Nat) (f : RosterEntry → RosterEntry) : (State.updateEntry s a f).ballot.role = s.ballot.role := by
  unfold State.updateEntry; (try dsimp only); (repeat' split) <;> simp
@[simp] theorem State.updateEntry_ballot_votes (s : State) (a : Nat) (f : RosterEntry → RosterEntry) : (State.updateEntry s a f).ballot.votes = s.ballot.votes := by
  unfold State.updateEntry; (try dsimp only); (repeat' split) <;> simp
@[simp] theorem State.updateEntry_ballot_commitClaimed (s : State) (a : Nat) (f : RosterEntry → RosterEntry) : (State.updateEntry s a f).ballot.commitClaimed = s.ballot.commitClaimed := by
  unfold State.updateEntry; (try dsimp only); (repeat' split) <;> simp
@[simp] theorem State.updateEntry_ballot_highest (s : State) (a : Nat) (f : RosterEntry → RosterEntry) : (State.updateEntry s a f).ballot.highest = s.ballot.highest := by
  unfold State.updateEntry; (try dsimp only); (repeat' split) <;> simp
@[simp] theorem State.updateEntry_ballot_proposal (s : State) (a : Nat) (f : RosterEntry → RosterEntry) : (State.updateEntry s a f).ballot.proposal = s.ballot.proposal := by
  unfold State.updateEntry; (try dsimp only); (repeat' split) <;> simp
@[simp] theorem State.updateEntry_ballot_pledge (s : State) (a : Nat) (f : RosterEntry → RosterEntry) : (State.updateEntry s a f).ballot.pledge = s.ballot.pledge := by
  unfold State.updateEntry; (try dsimp only); (repeat' split) <;> simp
@[simp] theorem State.updateEntry_ballot_confirm (s : State) (a : Nat) (f : RosterEntry → RosterEntry) : (State.updateEntry s a f).ballot.confirm = s.ballot.confirm := by
  unfold State.updateEntry; (try dsimp only); (repeat' split) <;> simp

/-! ### Fields of `ballot` under `addOwn` -/

@[simp] theorem addOwn_ballot_mode (c : Cause) (i : Option Nat) (d : Option Detail) (s : State) : (addOwn c i d s).ballot.mode = s.ballot.mode := by
  unfold addOwn; (try dsimp only); (repeat' split) <;> simp
@[simp] theorem addOwn_ballot_current (c : Cause) (i : Option Nat) (d : Option Detail) (s : State) : (addOwn c i d s).ballot.current = s.ballot.current := by
  unfold addOwn; (try dsimp only); (repeat' split) <;> simp
@[simp] theorem addOwn_ballot_role (c : Cause) (i : Option Nat) (d : Option Detail) (s : State) : (addOwn c i d s).ballot.role = s.ballot.role := by
  unfold addOwn; (try dsimp only); (repeat' split) <;> simp
@[simp] theorem addOwn_ballot_votes (c : Cause) (i : Option Nat) (d : Option Detail) (s : State) : (addOwn c i d s).ballot.votes = s.ballot.votes := by
  unfold addOwn; (try dsimp only); (repeat' split) <;> simp
@[simp] theorem addOwn_ballot_commitClaimed (c : Cause) (i : Option Nat) (d : Option Detail) (s : State) : (addOwn c i d s).ballot.commitClaimed = s.ballot.commitClaimed := by
  unfold addOwn; (try dsimp only); (repeat' split) <;> simp
@[simp] theorem addOwn_ballot_highest (c : Cause) (i : Option Nat) (d : Option Detail) (s : State) : (addOwn c i d s).ballot.highest = s.ballot.highest := by
  unfold addOwn; (try dsimp only); (repeat' split) <;> simp
@[simp] theorem addOwn_ballot_proposal (c : Cause) (i : Option Nat) (d : Option Detail) (s : State) : (addOwn c i d s).ballot.proposal = s.ballot.proposal := by
  unfold addOwn; (try dsimp only); (repeat' split) <;> simp
@[simp] theorem addOwn_ballot_pledge (c : Cause) (i : Option Nat) (d : Option Detail) (s : State) : (addOwn c i d s).ballot.pledge = s.ballot.pledge := by
  unfold addOwn; (try dsimp only); (repeat' split) <;> simp
@[simp] theorem addOwn_ballot_confirm (c : Cause) (i : Option Nat) (d : Option Detail) (s : State) : (addOwn c i d s).ballot.confirm = s.ballot.confirm := by
  unfold addOwn; (try dsimp only); (repeat' split) <;> simp

/-! ### Fields of `ballot` under `liftHold` -/

@[simp] theorem liftHold_ballot_mode (c : Cause) (i : Option Nat) (s : State) : (liftHold c i s).ballot.mode = s.ballot.mode := by
  unfold liftHold; (try dsimp only); (repeat' split) <;> simp
@[simp] theorem liftHold_ballot_current (c : Cause) (i : Option Nat) (s : State) : (liftHold c i s).ballot.current = s.ballot.current := by
  unfold liftHold; (try dsimp only); (repeat' split) <;> simp
@[simp] theorem liftHold_ballot_role (c : Cause) (i : Option Nat) (s : State) : (liftHold c i s).ballot.role = s.ballot.role := by
  unfold liftHold; (try dsimp only); (repeat' split) <;> simp
@[simp] theorem liftHold_ballot_votes (c : Cause) (i : Option Nat) (s : State) : (liftHold c i s).ballot.votes = s.ballot.votes := by
  unfold liftHold; (try dsimp only); (repeat' split) <;> simp
@[simp] theorem liftHold_ballot_commitClaimed (c : Cause) (i : Option Nat) (s : State) : (liftHold c i s).ballot.commitClaimed = s.ballot.commitClaimed := by
  unfold liftHold; (try dsimp only); (repeat' split) <;> simp
@[simp] theorem liftHold_ballot_highest (c : Cause) (i : Option Nat) (s : State) : (liftHold c i s).ballot.highest = s.ballot.highest := by
  unfold liftHold; (try dsimp only); (repeat' split) <;> simp
@[simp] theorem liftHold_ballot_proposal (c : Cause) (i : Option Nat) (s : State) : (liftHold c i s).ballot.proposal = s.ballot.proposal := by
  unfold liftHold; (try dsimp only); (repeat' split) <;> simp
@[simp] theorem liftHold_ballot_pledge (c : Cause) (i : Option Nat) (s : State) : (liftHold c i s).ballot.pledge = s.ballot.pledge := by
  unfold liftHold; (try dsimp only); (repeat' split) <;> simp
@[simp] theorem liftHold_ballot_confirm (c : Cause) (i : Option Nat) (s : State) : (liftHold c i s).ballot.confirm = s.ballot.confirm := by
  unfold liftHold; (try dsimp only); (repeat' split) <;> simp

/-! ### Fields of `ballot` under `purge` -/

@[simp] theorem purge_ballot_mode (a : Nat) (s : State) : (purge a s).ballot.mode = s.ballot.mode := by
  unfold purge; (try dsimp only); (repeat' split) <;> simp
@[simp] theorem purge_ballot_current (a : Nat) (s : State) : (purge a s).ballot.current = s.ballot.current := by
  unfold purge; (try dsimp only); (repeat' split) <;> simp
@[simp] theorem purge_ballot_role (a : Nat) (s : State) : (purge a s).ballot.role = s.ballot.role := by
  unfold purge; (try dsimp only); (repeat' split) <;> simp
@[simp] theorem purge_ballot_votes (a : Nat) (s : State) : (purge a s).ballot.votes = s.ballot.votes := by
  unfold purge; (try dsimp only); (repeat' split) <;> simp
@[simp] theorem purge_ballot_commitClaimed (a : Nat) (s : State) : (purge a s).ballot.commitClaimed = s.ballot.commitClaimed := by
  unfold purge; (try dsimp only); (repeat' split) <;> simp
@[simp] theorem purge_ballot_highest (a : Nat) (s : State) : (purge a s).ballot.highest = s.ballot.highest := by
  unfold purge; (try dsimp only); (repeat' split) <;> simp
@[simp] theorem purge_ballot_proposal (a : Nat) (s : State) : (purge a s).ballot.proposal = s.ballot.proposal := by
  unfold purge; (try dsimp only); (repeat' split) <;> simp
@[simp] theorem purge_ballot_pledge (a : Nat) (s : State) : (purge a s).ballot.pledge = s.ballot.pledge := by
  unfold purge; (try dsimp only); (repeat' split) <;> simp
@[simp] theorem purge_ballot_confirm (a : Nat) (s : State) : (purge a s).ballot.confirm = s.ballot.confirm := by
  unfold purge; (try dsimp only); (repeat' split) <;> simp

/-! ### Fields of `ballot` under `requestRecall` -/

@[simp] theorem requestRecall_ballot_mode (p : Nat) (s : State) : (requestRecall p s).ballot.mode = s.ballot.mode := by
  unfold requestRecall; (try dsimp only); (repeat' split) <;> simp
@[simp] theorem requestRecall_ballot_current (p : Nat) (s : State) : (requestRecall p s).ballot.current = s.ballot.current := by
  unfold requestRecall; (try dsimp only); (repeat' split) <;> simp
@[simp] theorem requestRecall_ballot_role (p : Nat) (s : State) : (requestRecall p s).ballot.role = s.ballot.role := by
  unfold requestRecall; (try dsimp only); (repeat' split) <;> simp
@[simp] theorem requestRecall_ballot_votes (p : Nat) (s : State) : (requestRecall p s).ballot.votes = s.ballot.votes := by
  unfold requestRecall; (try dsimp only); (repeat' split) <;> simp
@[simp] theorem requestRecall_ballot_commitClaimed (p : Nat) (s : State) : (requestRecall p s).ballot.commitClaimed = s.ballot.commitClaimed := by
  unfold requestRecall; (try dsimp only); (repeat' split) <;> simp
@[simp] theorem requestRecall_ballot_highest (p : Nat) (s : State) : (requestRecall p s).ballot.highest = s.ballot.highest := by
  unfold requestRecall; (try dsimp only); (repeat' split) <;> simp
@[simp] theorem requestRecall_ballot_proposal (p : Nat) (s : State) : (requestRecall p s).ballot.proposal = s.ballot.proposal := by
  unfold requestRecall; (try dsimp only); (repeat' split) <;> simp
@[simp] theorem requestRecall_ballot_pledge (p : Nat) (s : State) : (requestRecall p s).ballot.pledge = s.ballot.pledge := by
  unfold requestRecall; (try dsimp only); (repeat' split) <;> simp
@[simp] theorem requestRecall_ballot_confirm (p : Nat) (s : State) : (requestRecall p s).ballot.confirm = s.ballot.confirm := by
  unfold requestRecall; (try dsimp only); (repeat' split) <;> simp

/-! ### Fields of `ballot` under `hear` -/

@[simp] theorem hear_ballot_mode (a : Nat) (s : State) : (hear a s).ballot.mode = s.ballot.mode := by
  unfold hear; (try dsimp only); (repeat' split) <;> simp
@[simp] theorem hear_ballot_current (a : Nat) (s : State) : (hear a s).ballot.current = s.ballot.current := by
  unfold hear; (try dsimp only); (repeat' split) <;> simp
@[simp] theorem hear_ballot_role (a : Nat) (s : State) : (hear a s).ballot.role = s.ballot.role := by
  unfold hear; (try dsimp only); (repeat' split) <;> simp
@[simp] theorem hear_ballot_votes (a : Nat) (s : State) : (hear a s).ballot.votes = s.ballot.votes := by
  unfold hear; (try dsimp only); (repeat' split) <;> simp
@[simp] theorem hear_ballot_commitClaimed (a : Nat) (s : State) : (hear a s).ballot.commitClaimed = s.ballot.commitClaimed := by
  unfold hear; (try dsimp only); (repeat' split) <;> simp
@[simp] theorem hear_ballot_highest (a : Nat) (s : State) : (hear a s).ballot.highest = s.ballot.highest := by
  unfold hear; (try dsimp only); (repeat' split) <;> simp
@[simp] theorem hear_ballot_proposal (a : Nat) (s : State) : (hear a s).ballot.proposal = s.ballot.proposal := by
  unfold hear; (try dsimp only); (repeat' split) <;> simp
@[simp] theorem hear_ballot_pledge (a : Nat) (s : State) : (hear a s).ballot.pledge = s.ballot.pledge := by
  unfold hear; (try dsimp only); (repeat' split) <;> simp
@[simp] theorem hear_ballot_confirm (a : Nat) (s : State) : (hear a s).ballot.confirm = s.ballot.confirm := by
  unfold hear; (try dsimp only); (repeat' split) <;> simp

/-! ### Fields of `ballot` under `ageTick` -/

@[simp] theorem ageTick_ballot_mode (s : State) : (ageTick s).ballot.mode = s.ballot.mode := by
  unfold ageTick; (try dsimp only); (repeat' split) <;> simp
@[simp] theorem ageTick_ballot_current (s : State) : (ageTick s).ballot.current = s.ballot.current := by
  unfold ageTick; (try dsimp only); (repeat' split) <;> simp
@[simp] theorem ageTick_ballot_role (s : State) : (ageTick s).ballot.role = s.ballot.role := by
  unfold ageTick; (try dsimp only); (repeat' split) <;> simp
@[simp] theorem ageTick_ballot_votes (s : State) : (ageTick s).ballot.votes = s.ballot.votes := by
  unfold ageTick; (try dsimp only); (repeat' split) <;> simp
@[simp] theorem ageTick_ballot_commitClaimed (s : State) : (ageTick s).ballot.commitClaimed = s.ballot.commitClaimed := by
  unfold ageTick; (try dsimp only); (repeat' split) <;> simp
@[simp] theorem ageTick_ballot_highest (s : State) : (ageTick s).ballot.highest = s.ballot.highest := by
  unfold ageTick; (try dsimp only); (repeat' split) <;> simp
@[simp] theorem ageTick_ballot_proposal (s : State) : (ageTick s).ballot.proposal = s.ballot.proposal := by
  unfold ageTick; (try dsimp only); (repeat' split) <;> simp
@[simp] theorem ageTick_ballot_pledge (s : State) : (ageTick s).ballot.pledge = s.ballot.pledge := by
  unfold ageTick; (try dsimp only); (repeat' split) <;> simp
@[simp] theorem ageTick_ballot_confirm (s : State) : (ageTick s).ballot.confirm = s.ballot.confirm := by
  unfold ageTick; (try dsimp only); (repeat' split) <;> simp

/-! ### Fields of `ballot` under `reconcile` -/

@[simp] theorem reconcile_ballot_mode (p n : Nat) (b : Bool) (s : State) : (reconcile p n b s).ballot.mode = s.ballot.mode := by
  unfold reconcile; (try dsimp only); (repeat' split) <;> simp
@[simp] theorem reconcile_ballot_current (p n : Nat) (b : Bool) (s : State) : (reconcile p n b s).ballot.current = s.ballot.current := by
  unfold reconcile; (try dsimp only); (repeat' split) <;> simp
@[simp] theorem reconcile_ballot_role (p n : Nat) (b : Bool) (s : State) : (reconcile p n b s).ballot.role = s.ballot.role := by
  unfold reconcile; (try dsimp only); (repeat' split) <;> simp
@[simp] theorem reconcile_ballot_votes (p n : Nat) (b : Bool) (s : State) : (reconcile p n b s).ballot.votes = s.ballot.votes := by
  unfold reconcile; (try dsimp only); (repeat' split) <;> simp
@[simp] theorem reconcile_ballot_commitClaimed (p n : Nat) (b : Bool) (s : State) : (reconcile p n b s).ballot.commitClaimed = s.ballot.commitClaimed := by
  unfold reconcile; (try dsimp only); (repeat' split) <;> simp
@[simp] theorem reconcile_ballot_highest (p n : Nat) (b : Bool) (s : State) : (reconcile p n b s).ballot.highest = s.ballot.highest := by
  unfold reconcile; (try dsimp only); (repeat' split) <;> simp
@[simp] theorem reconcile_ballot_proposal (p n : Nat) (b : Bool) (s : State) : (reconcile p n b s).ballot.proposal = s.ballot.proposal := by
  unfold reconcile; (try dsimp only); (repeat' split) <;> simp
@[simp] theorem reconcile_ballot_pledge (p n : Nat) (b : Bool) (s : State) : (reconcile p n b s).ballot.pledge = s.ballot.pledge := by
  unfold reconcile; (try dsimp only); (repeat' split) <;> simp
@[simp] theorem reconcile_ballot_confirm (p n : Nat) (b : Bool) (s : State) : (reconcile p n b s).ballot.confirm = s.ballot.confirm := by
  unfold reconcile; (try dsimp only); (repeat' split) <;> simp

/-! ### Fields of `ballot` under `storeRemote` -/

@[simp] theorem storeRemote_ballot_mode (r : RemoteHold) (s : State) : (storeRemote r s).ballot.mode = s.ballot.mode := by
  unfold storeRemote; (try dsimp only); (repeat' split) <;> simp
@[simp] theorem storeRemote_ballot_current (r : RemoteHold) (s : State) : (storeRemote r s).ballot.current = s.ballot.current := by
  unfold storeRemote; (try dsimp only); (repeat' split) <;> simp
@[simp] theorem storeRemote_ballot_role (r : RemoteHold) (s : State) : (storeRemote r s).ballot.role = s.ballot.role := by
  unfold storeRemote; (try dsimp only); (repeat' split) <;> simp
@[simp] theorem storeRemote_ballot_votes (r : RemoteHold) (s : State) : (storeRemote r s).ballot.votes = s.ballot.votes := by
  unfold storeRemote; (try dsimp only); (repeat' split) <;> simp
@[simp] theorem storeRemote_ballot_commitClaimed (r : RemoteHold) (s : State) : (storeRemote r s).ballot.commitClaimed = s.ballot.commitClaimed := by
  unfold storeRemote; (try dsimp only); (repeat' split) <;> simp
@[simp] theorem storeRemote_ballot_highest (r : RemoteHold) (s : State) : (storeRemote r s).ballot.highest = s.ballot.highest := by
  unfold storeRemote; (try dsimp only); (repeat' split) <;> simp
@[simp] theorem storeRemote_ballot_proposal (r : RemoteHold) (s : State) : (storeRemote r s).ballot.proposal = s.ballot.proposal := by
  unfold storeRemote; (try dsimp only); (repeat' split) <;> simp
@[simp] theorem storeRemote_ballot_pledge (r : RemoteHold) (s : State) : (storeRemote r s).ballot.pledge = s.ballot.pledge := by
  unfold storeRemote; (try dsimp only); (repeat' split) <;> simp
@[simp] theorem storeRemote_ballot_confirm (r : RemoteHold) (s : State) : (storeRemote r s).ballot.confirm = s.ballot.confirm := by
  unfold storeRemote; (try dsimp only); (repeat' split) <;> simp

/-! ### Fields of `ballot` under `takeLift` -/

@[simp] theorem takeLift_ballot_mode (o : Nat) (n : Byte) (s : State) : (takeLift o n s).ballot.mode = s.ballot.mode := by
  unfold takeLift; (try dsimp only); (repeat' split) <;> simp
@[simp] theorem takeLift_ballot_current (o : Nat) (n : Byte) (s : State) : (takeLift o n s).ballot.current = s.ballot.current := by
  unfold takeLift; (try dsimp only); (repeat' split) <;> simp
@[simp] theorem takeLift_ballot_role (o : Nat) (n : Byte) (s : State) : (takeLift o n s).ballot.role = s.ballot.role := by
  unfold takeLift; (try dsimp only); (repeat' split) <;> simp
@[simp] theorem takeLift_ballot_votes (o : Nat) (n : Byte) (s : State) : (takeLift o n s).ballot.votes = s.ballot.votes := by
  unfold takeLift; (try dsimp only); (repeat' split) <;> simp
@[simp] theorem takeLift_ballot_commitClaimed (o : Nat) (n : Byte) (s : State) : (takeLift o n s).ballot.commitClaimed = s.ballot.commitClaimed := by
  unfold takeLift; (try dsimp only); (repeat' split) <;> simp
@[simp] theorem takeLift_ballot_highest (o : Nat) (n : Byte) (s : State) : (takeLift o n s).ballot.highest = s.ballot.highest := by
  unfold takeLift; (try dsimp only); (repeat' split) <;> simp
@[simp] theorem takeLift_ballot_proposal (o : Nat) (n : Byte) (s : State) : (takeLift o n s).ballot.proposal = s.ballot.proposal := by
  unfold takeLift; (try dsimp only); (repeat' split) <;> simp
@[simp] theorem takeLift_ballot_pledge (o : Nat) (n : Byte) (s : State) : (takeLift o n s).ballot.pledge = s.ballot.pledge := by
  unfold takeLift; (try dsimp only); (repeat' split) <;> simp
@[simp] theorem takeLift_ballot_confirm (o : Nat) (n : Byte) (s : State) : (takeLift o n s).ballot.confirm = s.ballot.confirm := by
  unfold takeLift; (try dsimp only); (repeat' split) <;> simp

/-! ### Fields of `ballot` under `enterRoster` -/

@[simp] theorem enterRoster_ballot_mode (s : State) : (enterRoster s).ballot.mode = s.ballot.mode := by
  unfold enterRoster; (try dsimp only); (repeat' split) <;> simp
@[simp] theorem enterRoster_ballot_current (s : State) : (enterRoster s).ballot.current = s.ballot.current := by
  unfold enterRoster; (try dsimp only); (repeat' split) <;> simp
@[simp] theorem enterRoster_ballot_role (s : State) : (enterRoster s).ballot.role = s.ballot.role := by
  unfold enterRoster; (try dsimp only); (repeat' split) <;> simp
@[simp] theorem enterRoster_ballot_votes (s : State) : (enterRoster s).ballot.votes = s.ballot.votes := by
  unfold enterRoster; (try dsimp only); (repeat' split) <;> simp
@[simp] theorem enterRoster_ballot_commitClaimed (s : State) : (enterRoster s).ballot.commitClaimed = s.ballot.commitClaimed := by
  unfold enterRoster; (try dsimp only); (repeat' split) <;> simp
@[simp] theorem enterRoster_ballot_highest (s : State) : (enterRoster s).ballot.highest = s.ballot.highest := by
  unfold enterRoster; (try dsimp only); (repeat' split) <;> simp
@[simp] theorem enterRoster_ballot_proposal (s : State) : (enterRoster s).ballot.proposal = s.ballot.proposal := by
  unfold enterRoster; (try dsimp only); (repeat' split) <;> simp
@[simp] theorem enterRoster_ballot_pledge (s : State) : (enterRoster s).ballot.pledge = s.ballot.pledge := by
  unfold enterRoster; (try dsimp only); (repeat' split) <;> simp
@[simp] theorem enterRoster_ballot_confirm (s : State) : (enterRoster s).ballot.confirm = s.ballot.confirm := by
  unfold enterRoster; (try dsimp only); (repeat' split) <;> simp

/-! ### Fields of `link` under `settleWait` -/

@[simp] theorem settleWait_link_medium (s : State) : (settleWait s).link.medium = s.link.medium := by
  unfold settleWait; (try dsimp only); (repeat' split) <;> simp
@[simp] theorem settleWait_link_lastSender (s : State) : (settleWait s).link.lastSender = s.link.lastSender := by
  unfold settleWait; (try dsimp only); (repeat' split) <;> simp
@[simp] theorem settleWait_link_sending (s : State) : (settleWait s).link.sending = s.link.sending := by
  unfold settleWait; (try dsimp only); (repeat' split) <;> simp
@[simp] theorem settleWait_link_attempts (s : State) : (settleWait s).link.attempts = s.link.attempts := by
  unfold settleWait; (try dsimp only); (repeat' split) <;> simp
@[simp] theorem settleWait_link_counted (s : State) : (settleWait s).link.counted = s.link.counted := by
  unfold settleWait; (try dsimp only); (repeat' split) <;> simp
@[simp] theorem settleWait_link_announceFlag (s : State) : (settleWait s).link.announceFlag = s.link.announceFlag := by
  unfold settleWait; (try dsimp only); (repeat' split) <;> simp
@[simp] theorem settleWait_link_queue (s : State) : (settleWait s).link.queue = s.link.queue := by
  unfold settleWait; (try dsimp only); (repeat' split) <;> simp
@[simp] theorem settleWait_link_mutePending (s : State) : (settleWait s).link.mutePending = s.link.mutePending := by
  unfold settleWait; (try dsimp only); (repeat' split) <;> simp
@[simp] theorem settleWait_link_mute (s : State) : (settleWait s).link.mute = s.link.mute := by
  unfold settleWait; (try dsimp only); (repeat' split) <;> simp
@[simp] theorem settleWait_link_nextItem (s : State) : (settleWait s).link.nextItem = s.link.nextItem := by
  unfold settleWait; (try dsimp only); (repeat' split) <;> simp

/-! ### Fields of `link` under `claim` -/

@[simp] theorem claim_link_medium (c : Claim) (s : State) : (claim c s).link.medium = s.link.medium := by
  unfold claim; (try dsimp only); (repeat' split) <;> simp
@[simp] theorem claim_link_lastSender (c : Claim) (s : State) : (claim c s).link.lastSender = s.link.lastSender := by
  unfold claim; (try dsimp only); (repeat' split) <;> simp
@[simp] theorem claim_link_sending (c : Claim) (s : State) : (claim c s).link.sending = s.link.sending := by
  unfold claim; (try dsimp only); (repeat' split) <;> simp
@[simp] theorem claim_link_attempts (c : Claim) (s : State) : (claim c s).link.attempts = s.link.attempts := by
  unfold claim; (try dsimp only); (repeat' split) <;> simp
@[simp] theorem claim_link_counted (c : Claim) (s : State) : (claim c s).link.counted = s.link.counted := by
  unfold claim; (try dsimp only); (repeat' split) <;> simp
@[simp] theorem claim_link_announceFlag (c : Claim) (s : State) : (claim c s).link.announceFlag = s.link.announceFlag := by
  unfold claim; (try dsimp only); (repeat' split) <;> simp
@[simp] theorem claim_link_mutePending (c : Claim) (s : State) : (claim c s).link.mutePending = s.link.mutePending := by
  unfold claim; (try dsimp only); (repeat' split) <;> simp
@[simp] theorem claim_link_mute (c : Claim) (s : State) : (claim c s).link.mute = s.link.mute := by
  unfold claim; (try dsimp only); (repeat' split) <;> simp

/-! ### Fields of `link` under `withdrawClaim` -/

@[simp] theorem withdrawClaim_link_medium (s : State) : (withdrawClaim s).link.medium = s.link.medium := by
  unfold withdrawClaim; (try dsimp only); (repeat' split) <;> simp
@[simp] theorem withdrawClaim_link_lastSender (s : State) : (withdrawClaim s).link.lastSender = s.link.lastSender := by
  unfold withdrawClaim; (try dsimp only); (repeat' split) <;> simp
@[simp] theorem withdrawClaim_link_sending (s : State) : (withdrawClaim s).link.sending = s.link.sending := by
  unfold withdrawClaim; (try dsimp only); (repeat' split) <;> simp
@[simp] theorem withdrawClaim_link_attempts (s : State) : (withdrawClaim s).link.attempts = s.link.attempts := by
  unfold withdrawClaim; (try dsimp only); (repeat' split) <;> simp
@[simp] theorem withdrawClaim_link_counted (s : State) : (withdrawClaim s).link.counted = s.link.counted := by
  unfold withdrawClaim; (try dsimp only); (repeat' split) <;> simp
@[simp] theorem withdrawClaim_link_announceFlag (s : State) : (withdrawClaim s).link.announceFlag = s.link.announceFlag := by
  unfold withdrawClaim; (try dsimp only); (repeat' split) <;> simp
@[simp] theorem withdrawClaim_link_mutePending (s : State) : (withdrawClaim s).link.mutePending = s.link.mutePending := by
  unfold withdrawClaim; (try dsimp only); (repeat' split) <;> simp
@[simp] theorem withdrawClaim_link_mute (s : State) : (withdrawClaim s).link.mute = s.link.mute := by
  unfold withdrawClaim; (try dsimp only); (repeat' split) <;> simp

/-! ### Fields of `ballot` under `setMode` -/

@[simp] theorem setMode_ballot_current (m : Mode) (s : State) : (setMode m s).ballot.current = s.ballot.current := by
  unfold setMode; (try dsimp only); (repeat' split) <;> simp
@[simp] theorem setMode_ballot_role (m : Mode) (s : State) : (setMode m s).ballot.role = s.ballot.role := by
  unfold setMode; (try dsimp only); (repeat' split) <;> simp
@[simp] theorem setMode_ballot_votes (m : Mode) (s : State) : (setMode m s).ballot.votes = s.ballot.votes := by
  unfold setMode; (try dsimp only); (repeat' split) <;> simp
@[simp] theorem setMode_ballot_commitClaimed (m : Mode) (s : State) : (setMode m s).ballot.commitClaimed = s.ballot.commitClaimed := by
  unfold setMode; (try dsimp only); (repeat' split) <;> simp
@[simp] theorem setMode_ballot_highest (m : Mode) (s : State) : (setMode m s).ballot.highest = s.ballot.highest := by
  unfold setMode; (try dsimp only); (repeat' split) <;> simp
@[simp] theorem setMode_ballot_proposal (m : Mode) (s : State) : (setMode m s).ballot.proposal = s.ballot.proposal := by
  unfold setMode; (try dsimp only); (repeat' split) <;> simp
@[simp] theorem setMode_ballot_pledge (m : Mode) (s : State) : (setMode m s).ballot.pledge = s.ballot.pledge := by
  unfold setMode; (try dsimp only); (repeat' split) <;> simp
@[simp] theorem setMode_ballot_confirm (m : Mode) (s : State) : (setMode m s).ballot.confirm = s.ballot.confirm := by
  unfold setMode; (try dsimp only); (repeat' split) <;> simp

/-! ### Fields of `link` under `leave` -/

@[simp] theorem leave_link_medium (s : State) : (leave s).link.medium = s.link.medium := by
  unfold leave; (try dsimp only); (repeat' split) <;> simp
@[simp] theorem leave_link_lastSender (s : State) : (leave s).link.lastSender = s.link.lastSender := by
  unfold leave; (try dsimp only); (repeat' split) <;> simp
@[simp] theorem leave_link_sending (s : State) : (leave s).link.sending = s.link.sending := by
  unfold leave; (try dsimp only); (repeat' split) <;> simp
@[simp] theorem leave_link_attempts (s : State) : (leave s).link.attempts = s.link.attempts := by
  unfold leave; (try dsimp only); (repeat' split) <;> simp
@[simp] theorem leave_link_counted (s : State) : (leave s).link.counted = s.link.counted := by
  unfold leave; (try dsimp only); (repeat' split) <;> simp
@[simp] theorem leave_link_announceFlag (s : State) : (leave s).link.announceFlag = s.link.announceFlag := by
  unfold leave; (try dsimp only); (repeat' split) <;> simp
@[simp] theorem leave_link_mutePending (s : State) : (leave s).link.mutePending = s.link.mutePending := by
  unfold leave; (try dsimp only); (repeat' split) <;> simp
@[simp] theorem leave_link_mute (s : State) : (leave s).link.mute = s.link.mute := by
  unfold leave; (try dsimp only); (repeat' split) <;> simp

/-- Leaving keeps the highest ballot seen and the settle timer. -/
@[simp] theorem leftRecord_highest (b : BallotUnit) : (leftRecord b).highest = b.highest := by
  unfold leftRecord; split <;> rfl
@[simp] theorem leftRecord_settle (b : BallotUnit) : (leftRecord b).settle = b.settle := by
  unfold leftRecord; split <;> rfl
@[simp] theorem leftRecord_current (b : BallotUnit) : (leftRecord b).current = none := by
  unfold leftRecord; split <;> rfl
@[simp] theorem leftRecord_role (b : BallotUnit) : (leftRecord b).role = .none := by
  unfold leftRecord; split <;> rfl

/-! ### Fields of `ballot` under `leave` -/

@[simp] theorem leave_ballot_highest (s : State) : (leave s).ballot.highest = s.ballot.highest := by
  unfold leave; (try dsimp only); (repeat' split) <;> simp

/-- A station that is party to a ballot, or CLOSED, is OPEN after leaving (R52). -/
theorem leave_mode (s : State) :
    (leave s).ballot.mode = if s.ballot.mode = .pledged ∨ s.ballot.mode = .closed then .opened else s.ballot.mode := by
  unfold leave; dsimp only; split <;> simp
/-- After leaving no station is PLEDGED. -/
theorem leave_not_pledged (s : State) : (leave s).ballot.mode ≠ .pledged := by
  rw [leave_mode]; split
  · decide
  · rename_i h; exact fun e => h (Or.inl e)
/-- After leaving no station is CLOSED. -/
theorem leave_not_closed (s : State) : (leave s).ballot.mode ≠ .closed := by
  rw [leave_mode]; split
  · decide
  · rename_i h; exact fun e => h (Or.inr e)
/-- A station outside PLEDGED and CLOSED has nothing to leave. -/
theorem leave_of_idle (s : State) (hp : s.ballot.mode ≠ .pledged) (hc : s.ballot.mode ≠ .closed) : leave s = s := by
  unfold leave; rw [if_neg]; rintro (h | h) <;> contradiction

/-! ### Fields of `link` under `offer` -/

@[simp] theorem offer_link_medium (b : Ballot) (s : State) : (offer b s).link.medium = s.link.medium := by
  unfold offer; (try dsimp only); (repeat' split) <;> simp
@[simp] theorem offer_link_lastSender (b : Ballot) (s : State) : (offer b s).link.lastSender = s.link.lastSender := by
  unfold offer; (try dsimp only); (repeat' split) <;> simp
@[simp] theorem offer_link_sending (b : Ballot) (s : State) : (offer b s).link.sending = s.link.sending := by
  unfold offer; (try dsimp only); (repeat' split) <;> simp
@[simp] theorem offer_link_attempts (b : Ballot) (s : State) : (offer b s).link.attempts = s.link.attempts := by
  unfold offer; (try dsimp only); (repeat' split) <;> simp
@[simp] theorem offer_link_counted (b : Ballot) (s : State) : (offer b s).link.counted = s.link.counted := by
  unfold offer; (try dsimp only); (repeat' split) <;> simp
@[simp] theorem offer_link_announceFlag (b : Ballot) (s : State) : (offer b s).link.announceFlag = s.link.announceFlag := by
  unfold offer; (try dsimp only); (repeat' split) <;> simp
@[simp] theorem offer_link_mutePending (b : Ballot) (s : State) : (offer b s).link.mutePending = s.link.mutePending := by
  unfold offer; (try dsimp only); (repeat' split) <;> simp
@[simp] theorem offer_link_mute (b : Ballot) (s : State) : (offer b s).link.mute = s.link.mute := by
  unfold offer; (try dsimp only); (repeat' split) <;> simp

/-- An offer sets the highest ballot seen exactly when the ballot would replace it (R51). -/
theorem offer_highest (b : Ballot) (s : State) :
    (offer b s).ballot.highest = if s.wouldReplace b = true then b else s.ballot.highest := by
  unfold offer; dsimp only; (repeat' split) <;> simp_all
/-- An offer that does not replace changes nothing. -/
theorem offer_of_not_replacing (b : Ballot) (s : State) (h : s.wouldReplace b = false) : offer b s = s := by
  unfold offer; rw [h]; rfl

/-! ### Fields of `link` under `reportHold` -/

@[simp] theorem reportHold_link_medium (s : State) : (reportHold s).link.medium = s.link.medium := by
  unfold reportHold; (try dsimp only); (repeat' split) <;> simp
@[simp] theorem reportHold_link_lastSender (s : State) : (reportHold s).link.lastSender = s.link.lastSender := by
  unfold reportHold; (try dsimp only); (repeat' split) <;> simp
@[simp] theorem reportHold_link_sending (s : State) : (reportHold s).link.sending = s.link.sending := by
  unfold reportHold; (try dsimp only); (repeat' split) <;> simp
@[simp] theorem reportHold_link_attempts (s : State) : (reportHold s).link.attempts = s.link.attempts := by
  unfold reportHold; (try dsimp only); (repeat' split) <;> simp
@[simp] theorem reportHold_link_counted (s : State) : (reportHold s).link.counted = s.link.counted := by
  unfold reportHold; (try dsimp only); (repeat' split) <;> simp
@[simp] theorem reportHold_link_announceFlag (s : State) : (reportHold s).link.announceFlag = s.link.announceFlag := by
  unfold reportHold; (try dsimp only); (repeat' split) <;> simp
@[simp] theorem reportHold_link_mutePending (s : State) : (reportHold s).link.mutePending = s.link.mutePending := by
  unfold reportHold; (try dsimp only); (repeat' split) <;> simp
@[simp] theorem reportHold_link_mute (s : State) : (reportHold s).link.mute = s.link.mute := by
  unfold reportHold; (try dsimp only); (repeat' split) <;> simp

/-! ### Fields of `ballot` under `reportHold` -/

@[simp] theorem reportHold_ballot_highest (s : State) : (reportHold s).ballot.highest = s.ballot.highest := by
  unfold reportHold; (try dsimp only); (repeat' split) <;> simp

/-! ### Fields of `link` under `appendNotice` -/

@[simp] theorem appendNotice_link_medium (k : NoticeKind) (n : Byte) (r : Bool) (s : State) : (appendNotice k n r s).link.medium = s.link.medium := by
  unfold appendNotice; (try dsimp only); (repeat' split) <;> simp
@[simp] theorem appendNotice_link_lastSender (k : NoticeKind) (n : Byte) (r : Bool) (s : State) : (appendNotice k n r s).link.lastSender = s.link.lastSender := by
  unfold appendNotice; (try dsimp only); (repeat' split) <;> simp
@[simp] theorem appendNotice_link_sending (k : NoticeKind) (n : Byte) (r : Bool) (s : State) : (appendNotice k n r s).link.sending = s.link.sending := by
  unfold appendNotice; (try dsimp only); (repeat' split) <;> simp
@[simp] theorem appendNotice_link_attempts (k : NoticeKind) (n : Byte) (r : Bool) (s : State) : (appendNotice k n r s).link.attempts = s.link.attempts := by
  unfold appendNotice; (try dsimp only); (repeat' split) <;> simp
@[simp] theorem appendNotice_link_counted (k : NoticeKind) (n : Byte) (r : Bool) (s : State) : (appendNotice k n r s).link.counted = s.link.counted := by
  unfold appendNotice; (try dsimp only); (repeat' split) <;> simp
@[simp] theorem appendNotice_link_announceFlag (k : NoticeKind) (n : Byte) (r : Bool) (s : State) : (appendNotice k n r s).link.announceFlag = s.link.announceFlag := by
  unfold appendNotice; (try dsimp only); (repeat' split) <;> simp
@[simp] theorem appendNotice_link_queue (k : NoticeKind) (n : Byte) (r : Bool) (s : State) : (appendNotice k n r s).link.queue = s.link.queue := by
  unfold appendNotice; (try dsimp only); (repeat' split) <;> simp
@[simp] theorem appendNotice_link_mutePending (k : NoticeKind) (n : Byte) (r : Bool) (s : State) : (appendNotice k n r s).link.mutePending = s.link.mutePending := by
  unfold appendNotice; (try dsimp only); (repeat' split) <;> simp
@[simp] theorem appendNotice_link_mute (k : NoticeKind) (n : Byte) (r : Bool) (s : State) : (appendNotice k n r s).link.mute = s.link.mute := by
  unfold appendNotice; (try dsimp only); (repeat' split) <;> simp

/-! ### Fields of `holds` under `appendNotice` -/

@[simp] theorem appendNotice_holds_own (k : NoticeKind) (n : Byte) (r : Bool) (s : State) : (appendNotice k n r s).holds.own = s.holds.own := by
  unfold appendNotice; (try dsimp only); (repeat' split) <;> simp
@[simp] theorem appendNotice_holds_nextSerial (k : NoticeKind) (n : Byte) (r : Bool) (s : State) : (appendNotice k n r s).holds.nextSerial = s.holds.nextSerial := by
  unfold appendNotice; (try dsimp only); (repeat' split) <;> simp
@[simp] theorem appendNotice_holds_remote (k : NoticeKind) (n : Byte) (r : Bool) (s : State) : (appendNotice k n r s).holds.remote = s.holds.remote := by
  unfold appendNotice; (try dsimp only); (repeat' split) <;> simp

/-! ### Fields of `holds` under `removeNotice` -/

@[simp] theorem removeNotice_holds_own (n : Nat) (s : State) : (removeNotice n s).holds.own = s.holds.own := by
  unfold removeNotice; (try dsimp only); (repeat' split) <;> simp
@[simp] theorem removeNotice_holds_nextSerial (n : Nat) (s : State) : (removeNotice n s).holds.nextSerial = s.holds.nextSerial := by
  unfold removeNotice; (try dsimp only); (repeat' split) <;> simp
@[simp] theorem removeNotice_holds_remote (n : Nat) (s : State) : (removeNotice n s).holds.remote = s.holds.remote := by
  unfold removeNotice; (try dsimp only); (repeat' split) <;> simp

/-! ### Fields of `holds` under `addOwn` -/

@[simp] theorem addOwn_holds_notices (c : Cause) (i : Option Nat) (d : Option Detail) (s : State) : (addOwn c i d s).holds.notices = s.holds.notices := by
  unfold addOwn; (try dsimp only); (repeat' split) <;> simp
@[simp] theorem addOwn_holds_remote (c : Cause) (i : Option Nat) (d : Option Detail) (s : State) : (addOwn c i d s).holds.remote = s.holds.remote := by
  unfold addOwn; (try dsimp only); (repeat' split) <;> simp

/-! ### Fields of `holds` under `changeDetail` -/

@[simp] theorem changeDetail_holds_nextSerial (c : Cause) (i : Option Nat) (d : Option Detail) (s : State) : (changeDetail c i d s).holds.nextSerial = s.holds.nextSerial := by
  unfold changeDetail; (try dsimp only); (repeat' split) <;> simp
@[simp] theorem changeDetail_holds_notices (c : Cause) (i : Option Nat) (d : Option Detail) (s : State) : (changeDetail c i d s).holds.notices = s.holds.notices := by
  unfold changeDetail; (try dsimp only); (repeat' split) <;> simp
@[simp] theorem changeDetail_holds_remote (c : Cause) (i : Option Nat) (d : Option Detail) (s : State) : (changeDetail c i d s).holds.remote = s.holds.remote := by
  unfold changeDetail; (try dsimp only); (repeat' split) <;> simp

/-! ### Fields of `link` under `raiseHold` -/

@[simp] theorem raiseHold_link_medium (c : Cause) (i : Option Nat) (d : Option Detail) (s : State) : (raiseHold c i d s).link.medium = s.link.medium := by
  unfold raiseHold; (try dsimp only); (repeat' split) <;> simp
@[simp] theorem raiseHold_link_lastSender (c : Cause) (i : Option Nat) (d : Option Detail) (s : State) : (raiseHold c i d s).link.lastSender = s.link.lastSender := by
  unfold raiseHold; (try dsimp only); (repeat' split) <;> simp
@[simp] theorem raiseHold_link_sending (c : Cause) (i : Option Nat) (d : Option Detail) (s : State) : (raiseHold c i d s).link.sending = s.link.sending := by
  unfold raiseHold; (try dsimp only); (repeat' split) <;> simp
@[simp] theorem raiseHold_link_attempts (c : Cause) (i : Option Nat) (d : Option Detail) (s : State) : (raiseHold c i d s).link.attempts = s.link.attempts := by
  unfold raiseHold; (try dsimp only); (repeat' split) <;> simp
@[simp] theorem raiseHold_link_counted (c : Cause) (i : Option Nat) (d : Option Detail) (s : State) : (raiseHold c i d s).link.counted = s.link.counted := by
  unfold raiseHold; (try dsimp only); (repeat' split) <;> simp
@[simp] theorem raiseHold_link_announceFlag (c : Cause) (i : Option Nat) (d : Option Detail) (s : State) : (raiseHold c i d s).link.announceFlag = s.link.announceFlag := by
  unfold raiseHold; (try dsimp only); (repeat' split) <;> simp
@[simp] theorem raiseHold_link_mutePending (c : Cause) (i : Option Nat) (d : Option Detail) (s : State) : (raiseHold c i d s).link.mutePending = s.link.mutePending := by
  unfold raiseHold; (try dsimp only); (repeat' split) <;> simp
@[simp] theorem raiseHold_link_mute (c : Cause) (i : Option Nat) (d : Option Detail) (s : State) : (raiseHold c i d s).link.mute = s.link.mute := by
  unfold raiseHold; (try dsimp only); (repeat' split) <;> simp

/-! ### Fields of `ballot` under `raiseHold` -/

@[simp] theorem raiseHold_ballot_highest (c : Cause) (i : Option Nat) (d : Option Detail) (s : State) : (raiseHold c i d s).ballot.highest = s.ballot.highest := by
  unfold raiseHold; (try dsimp only); (repeat' split) <;> simp

/-! ### Fields of `holds` under `raiseHold` -/

@[simp] theorem raiseHold_holds_remote (c : Cause) (i : Option Nat) (d : Option Detail) (s : State) : (raiseHold c i d s).holds.remote = s.holds.remote := by
  unfold raiseHold; (try dsimp only); (repeat' split) <;> simp

/-! ### Fields of `link` under `liftNotices` -/

@[simp] theorem liftNotices_link_medium (n : Byte) (s : State) : (liftNotices n s).link.medium = s.link.medium := by
  unfold liftNotices; (try dsimp only); (repeat' split) <;> simp
@[simp] theorem liftNotices_link_lastSender (n : Byte) (s : State) : (liftNotices n s).link.lastSender = s.link.lastSender := by
  unfold liftNotices; (try dsimp only); (repeat' split) <;> simp
@[simp] theorem liftNotices_link_sending (n : Byte) (s : State) : (liftNotices n s).link.sending = s.link.sending := by
  unfold liftNotices; (try dsimp only); (repeat' split) <;> simp
@[simp] theorem liftNotices_link_attempts (n : Byte) (s : State) : (liftNotices n s).link.attempts = s.link.attempts := by
  unfold liftNotices; (try dsimp only); (repeat' split) <;> simp
@[simp] theorem liftNotices_link_counted (n : Byte) (s : State) : (liftNotices n s).link.counted = s.link.counted := by
  unfold liftNotices; (try dsimp only); (repeat' split) <;> simp
@[simp] theorem liftNotices_link_announceFlag (n : Byte) (s : State) : (liftNotices n s).link.announceFlag = s.link.announceFlag := by
  unfold liftNotices; (try dsimp only); (repeat' split) <;> simp
@[simp] theorem liftNotices_link_queue (n : Byte) (s : State) : (liftNotices n s).link.queue = s.link.queue := by
  unfold liftNotices; (try dsimp only); (repeat' split) <;> simp
@[simp] theorem liftNotices_link_mutePending (n : Byte) (s : State) : (liftNotices n s).link.mutePending = s.link.mutePending := by
  unfold liftNotices; (try dsimp only); (repeat' split) <;> simp
@[simp] theorem liftNotices_link_mute (n : Byte) (s : State) : (liftNotices n s).link.mute = s.link.mute := by
  unfold liftNotices; (try dsimp only); (repeat' split) <;> simp

/-! ### Fields of `holds` under `liftNotices` -/

@[simp] theorem liftNotices_holds_own (n : Byte) (s : State) : (liftNotices n s).holds.own = s.holds.own := by
  unfold liftNotices; (try dsimp only); (repeat' split) <;> simp
@[simp] theorem liftNotices_holds_nextSerial (n : Byte) (s : State) : (liftNotices n s).holds.nextSerial = s.holds.nextSerial := by
  unfold liftNotices; (try dsimp only); (repeat' split) <;> simp
@[simp] theorem liftNotices_holds_remote (n : Byte) (s : State) : (liftNotices n s).holds.remote = s.holds.remote := by
  unfold liftNotices; (try dsimp only); (repeat' split) <;> simp

/-! ### Fields of `link` under `liftHold` -/

@[simp] theorem liftHold_link_medium (c : Cause) (i : Option Nat) (s : State) : (liftHold c i s).link.medium = s.link.medium := by
  unfold liftHold; (try dsimp only); (repeat' split) <;> simp
@[simp] theorem liftHold_link_lastSender (c : Cause) (i : Option Nat) (s : State) : (liftHold c i s).link.lastSender = s.link.lastSender := by
  unfold liftHold; (try dsimp only); (repeat' split) <;> simp
@[simp] theorem liftHold_link_sending (c : Cause) (i : Option Nat) (s : State) : (liftHold c i s).link.sending = s.link.sending := by
  unfold liftHold; (try dsimp only); (repeat' split) <;> simp
@[simp] theorem liftHold_link_attempts (c : Cause) (i : Option Nat) (s : State) : (liftHold c i s).link.attempts = s.link.attempts := by
  unfold liftHold; (try dsimp only); (repeat' split) <;> simp
@[simp] theorem liftHold_link_counted (c : Cause) (i : Option Nat) (s : State) : (liftHold c i s).link.counted = s.link.counted := by
  unfold liftHold; (try dsimp only); (repeat' split) <;> simp
@[simp] theorem liftHold_link_announceFlag (c : Cause) (i : Option Nat) (s : State) : (liftHold c i s).link.announceFlag = s.link.announceFlag := by
  unfold liftHold; (try dsimp only); (repeat' split) <;> simp
@[simp] theorem liftHold_link_queue (c : Cause) (i : Option Nat) (s : State) : (liftHold c i s).link.queue = s.link.queue := by
  unfold liftHold; (try dsimp only); (repeat' split) <;> simp
@[simp] theorem liftHold_link_mutePending (c : Cause) (i : Option Nat) (s : State) : (liftHold c i s).link.mutePending = s.link.mutePending := by
  unfold liftHold; (try dsimp only); (repeat' split) <;> simp
@[simp] theorem liftHold_link_mute (c : Cause) (i : Option Nat) (s : State) : (liftHold c i s).link.mute = s.link.mute := by
  unfold liftHold; (try dsimp only); (repeat' split) <;> simp

/-! ### Fields of `holds` under `liftHold` -/

@[simp] theorem liftHold_holds_nextSerial (c : Cause) (i : Option Nat) (s : State) : (liftHold c i s).holds.nextSerial = s.holds.nextSerial := by
  unfold liftHold; (try dsimp only); (repeat' split) <;> simp
@[simp] theorem liftHold_holds_remote (c : Cause) (i : Option Nat) (s : State) : (liftHold c i s).holds.remote = s.holds.remote := by
  unfold liftHold; (try dsimp only); (repeat' split) <;> simp

/-! ### Fields of `holds` under `purge` -/

@[simp] theorem purge_holds_own (o : Nat) (s : State) : (purge o s).holds.own = s.holds.own := by
  unfold purge; (try dsimp only); (repeat' split) <;> simp
@[simp] theorem purge_holds_nextSerial (o : Nat) (s : State) : (purge o s).holds.nextSerial = s.holds.nextSerial := by
  unfold purge; (try dsimp only); (repeat' split) <;> simp
@[simp] theorem purge_holds_notices (o : Nat) (s : State) : (purge o s).holds.notices = s.holds.notices := by
  unfold purge; (try dsimp only); (repeat' split) <;> simp

/-! ### Fields of `roster` under `State.updateEntry` -/

@[simp] theorem State.updateEntry_roster_tallyTimer (s : State) (a : Nat) (f : RosterEntry → RosterEntry) : (State.updateEntry s a f).roster.tallyTimer = s.roster.tallyTimer := by
  unfold State.updateEntry; (try dsimp only); (repeat' split) <;> simp
@[simp] theorem State.updateEntry_roster_expiries (s : State) (a : Nat) (f : RosterEntry → RosterEntry) : (State.updateEntry s a f).roster.expiries = s.roster.expiries := by
  unfold State.updateEntry; (try dsimp only); (repeat' split) <;> simp
@[simp] theorem State.updateEntry_roster_joinComplete (s : State) (a : Nat) (f : RosterEntry → RosterEntry) : (State.updateEntry s a f).roster.joinComplete = s.roster.joinComplete := by
  unfold State.updateEntry; (try dsimp only); (repeat' split) <;> simp

/-! ### Fields of `link` under `requestRecall` -/

@[simp] theorem requestRecall_link_medium (p : Nat) (s : State) : (requestRecall p s).link.medium = s.link.medium := by
  unfold requestRecall; (try dsimp only); (repeat' split) <;> simp
@[simp] theorem requestRecall_link_lastSender (p : Nat) (s : State) : (requestRecall p s).link.lastSender = s.link.lastSender := by
  unfold requestRecall; (try dsimp only); (repeat' split) <;> simp
@[simp] theorem requestRecall_link_sending (p : Nat) (s : State) : (requestRecall p s).link.sending = s.link.sending := by
  unfold requestRecall; (try dsimp only); (repeat' split) <;> simp
@[simp] theorem requestRecall_link_attempts (p : Nat) (s : State) : (requestRecall p s).link.attempts = s.link.attempts := by
  unfold requestRecall; (try dsimp only); (repeat' split) <;> simp
@[simp] theorem requestRecall_link_counted (p : Nat) (s : State) : (requestRecall p s).link.counted = s.link.counted := by
  unfold requestRecall; (try dsimp only); (repeat' split) <;> simp
@[simp] theorem requestRecall_link_announceFlag (p : Nat) (s : State) : (requestRecall p s).link.announceFlag = s.link.announceFlag := by
  unfold requestRecall; (try dsimp only); (repeat' split) <;> simp
@[simp] theorem requestRecall_link_mutePending (p : Nat) (s : State) : (requestRecall p s).link.mutePending = s.link.mutePending := by
  unfold requestRecall; (try dsimp only); (repeat' split) <;> simp
@[simp] theorem requestRecall_link_mute (p : Nat) (s : State) : (requestRecall p s).link.mute = s.link.mute := by
  unfold requestRecall; (try dsimp only); (repeat' split) <;> simp

/-! ### Fields of `holds` under `requestRecall` -/

@[simp] theorem requestRecall_holds_own (p : Nat) (s : State) : (requestRecall p s).holds.own = s.holds.own := by
  unfold requestRecall; (try dsimp only); (repeat' split) <;> simp
@[simp] theorem requestRecall_holds_nextSerial (p : Nat) (s : State) : (requestRecall p s).holds.nextSerial = s.holds.nextSerial := by
  unfold requestRecall; (try dsimp only); (repeat' split) <;> simp
@[simp] theorem requestRecall_holds_notices (p : Nat) (s : State) : (requestRecall p s).holds.notices = s.holds.notices := by
  unfold requestRecall; (try dsimp only); (repeat' split) <;> simp

/-! ### Fields of `roster` under `requestRecall` -/

@[simp] theorem requestRecall_roster_tallyTimer (p : Nat) (s : State) : (requestRecall p s).roster.tallyTimer = s.roster.tallyTimer := by
  unfold requestRecall; (try dsimp only); (repeat' split) <;> simp
@[simp] theorem requestRecall_roster_expiries (p : Nat) (s : State) : (requestRecall p s).roster.expiries = s.roster.expiries := by
  unfold requestRecall; (try dsimp only); (repeat' split) <;> simp
@[simp] theorem requestRecall_roster_joinComplete (p : Nat) (s : State) : (requestRecall p s).roster.joinComplete = s.roster.joinComplete := by
  unfold requestRecall; (try dsimp only); (repeat' split) <;> simp

/-! ### Fields of `link` under `hear` -/

@[simp] theorem hear_link_medium (a : Nat) (s : State) : (hear a s).link.medium = s.link.medium := by
  unfold hear; (try dsimp only); (repeat' split) <;> simp
@[simp] theorem hear_link_lastSender (a : Nat) (s : State) : (hear a s).link.lastSender = s.link.lastSender := by
  unfold hear; (try dsimp only); (repeat' split) <;> simp
@[simp] theorem hear_link_sending (a : Nat) (s : State) : (hear a s).link.sending = s.link.sending := by
  unfold hear; (try dsimp only); (repeat' split) <;> simp
@[simp] theorem hear_link_attempts (a : Nat) (s : State) : (hear a s).link.attempts = s.link.attempts := by
  unfold hear; (try dsimp only); (repeat' split) <;> simp
@[simp] theorem hear_link_counted (a : Nat) (s : State) : (hear a s).link.counted = s.link.counted := by
  unfold hear; (try dsimp only); (repeat' split) <;> simp
@[simp] theorem hear_link_announceFlag (a : Nat) (s : State) : (hear a s).link.announceFlag = s.link.announceFlag := by
  unfold hear; (try dsimp only); (repeat' split) <;> simp
@[simp] theorem hear_link_mutePending (a : Nat) (s : State) : (hear a s).link.mutePending = s.link.mutePending := by
  unfold hear; (try dsimp only); (repeat' split) <;> simp
@[simp] theorem hear_link_mute (a : Nat) (s : State) : (hear a s).link.mute = s.link.mute := by
  unfold hear; (try dsimp only); (repeat' split) <;> simp

/-! ### Fields of `holds` under `hear` -/

@[simp] theorem hear_holds_own (a : Nat) (s : State) : (hear a s).holds.own = s.holds.own := by
  unfold hear; (try dsimp only); (repeat' split) <;> simp
@[simp] theorem hear_holds_nextSerial (a : Nat) (s : State) : (hear a s).holds.nextSerial = s.holds.nextSerial := by
  unfold hear; (try dsimp only); (repeat' split) <;> simp
@[simp] theorem hear_holds_notices (a : Nat) (s : State) : (hear a s).holds.notices = s.holds.notices := by
  unfold hear; (try dsimp only); (repeat' split) <;> simp

/-! ### Fields of `roster` under `hear` -/

@[simp] theorem hear_roster_tallyTimer (a : Nat) (s : State) : (hear a s).roster.tallyTimer = s.roster.tallyTimer := by
  unfold hear; (try dsimp only); (repeat' split) <;> simp
@[simp] theorem hear_roster_expiries (a : Nat) (s : State) : (hear a s).roster.expiries = s.roster.expiries := by
  unfold hear; (try dsimp only); (repeat' split) <;> simp
@[simp] theorem hear_roster_joinComplete (a : Nat) (s : State) : (hear a s).roster.joinComplete = s.roster.joinComplete := by
  unfold hear; (try dsimp only); (repeat' split) <;> simp

/-! ### Fields of `link` under `judgeLink` -/

@[simp] theorem judgeLink_link_medium (s : State) : (judgeLink s).link.medium = s.link.medium := by
  unfold judgeLink; (try dsimp only); (repeat' split) <;> simp
@[simp] theorem judgeLink_link_lastSender (s : State) : (judgeLink s).link.lastSender = s.link.lastSender := by
  unfold judgeLink; (try dsimp only); (repeat' split) <;> simp
@[simp] theorem judgeLink_link_sending (s : State) : (judgeLink s).link.sending = s.link.sending := by
  unfold judgeLink; (try dsimp only); (repeat' split) <;> simp
@[simp] theorem judgeLink_link_attempts (s : State) : (judgeLink s).link.attempts = s.link.attempts := by
  unfold judgeLink; (try dsimp only); (repeat' split) <;> simp
@[simp] theorem judgeLink_link_counted (s : State) : (judgeLink s).link.counted = s.link.counted := by
  unfold judgeLink; (try dsimp only); (repeat' split) <;> simp
@[simp] theorem judgeLink_link_announceFlag (s : State) : (judgeLink s).link.announceFlag = s.link.announceFlag := by
  unfold judgeLink; (try dsimp only); (repeat' split) <;> simp
@[simp] theorem judgeLink_link_mutePending (s : State) : (judgeLink s).link.mutePending = s.link.mutePending := by
  unfold judgeLink; (try dsimp only); (repeat' split) <;> simp
@[simp] theorem judgeLink_link_mute (s : State) : (judgeLink s).link.mute = s.link.mute := by
  unfold judgeLink; (try dsimp only); (repeat' split) <;> simp

/-! ### Fields of `ballot` under `judgeLink` -/

@[simp] theorem judgeLink_ballot_highest (s : State) : (judgeLink s).ballot.highest = s.ballot.highest := by
  unfold judgeLink; (try dsimp only); (repeat' split) <;> simp

/-! ### Fields of `holds` under `judgeLink` -/

@[simp] theorem judgeLink_holds_remote (s : State) : (judgeLink s).holds.remote = s.holds.remote := by
  unfold judgeLink; (try dsimp only); (repeat' split) <;> simp

/-! ### Fields of `link` under `judgeDiscord` -/

@[simp] theorem judgeDiscord_link_medium (s : State) : (judgeDiscord s).link.medium = s.link.medium := by
  unfold judgeDiscord; (try dsimp only); (repeat' split) <;> simp
@[simp] theorem judgeDiscord_link_lastSender (s : State) : (judgeDiscord s).link.lastSender = s.link.lastSender := by
  unfold judgeDiscord; (try dsimp only); (repeat' split) <;> simp
@[simp] theorem judgeDiscord_link_sending (s : State) : (judgeDiscord s).link.sending = s.link.sending := by
  unfold judgeDiscord; (try dsimp only); (repeat' split) <;> simp
@[simp] theorem judgeDiscord_link_attempts (s : State) : (judgeDiscord s).link.attempts = s.link.attempts := by
  unfold judgeDiscord; (try dsimp only); (repeat' split) <;> simp
@[simp] theorem judgeDiscord_link_counted (s : State) : (judgeDiscord s).link.counted = s.link.counted := by
  unfold judgeDiscord; (try dsimp only); (repeat' split) <;> simp
@[simp] theorem judgeDiscord_link_announceFlag (s : State) : (judgeDiscord s).link.announceFlag = s.link.announceFlag := by
  unfold judgeDiscord; (try dsimp only); (repeat' split) <;> simp
@[simp] theorem judgeDiscord_link_mutePending (s : State) : (judgeDiscord s).link.mutePending = s.link.mutePending := by
  unfold judgeDiscord; (try dsimp only); (repeat' split) <;> simp
@[simp] theorem judgeDiscord_link_mute (s : State) : (judgeDiscord s).link.mute = s.link.mute := by
  unfold judgeDiscord; (try dsimp only); (repeat' split) <;> simp

/-! ### Fields of `ballot` under `judgeDiscord` -/

@[simp] theorem judgeDiscord_ballot_highest (s : State) : (judgeDiscord s).ballot.highest = s.ballot.highest := by
  unfold judgeDiscord; (try dsimp only); (repeat' split) <;> simp

/-! ### Fields of `holds` under `judgeDiscord` -/

@[simp] theorem judgeDiscord_holds_remote (s : State) : (judgeDiscord s).holds.remote = s.holds.remote := by
  unfold judgeDiscord; (try dsimp only); (repeat' split) <;> simp

/-! ### Fields of `link` under `judgeView` -/

@[simp] theorem judgeView_link_medium (s : State) : (judgeView s).link.medium = s.link.medium := by
  unfold judgeView; (try dsimp only); (repeat' split) <;> simp
@[simp] theorem judgeView_link_lastSender (s : State) : (judgeView s).link.lastSender = s.link.lastSender := by
  unfold judgeView; (try dsimp only); (repeat' split) <;> simp
@[simp] theorem judgeView_link_sending (s : State) : (judgeView s).link.sending = s.link.sending := by
  unfold judgeView; (try dsimp only); (repeat' split) <;> simp
@[simp] theorem judgeView_link_attempts (s : State) : (judgeView s).link.attempts = s.link.attempts := by
  unfold judgeView; (try dsimp only); (repeat' split) <;> simp
@[simp] theorem judgeView_link_counted (s : State) : (judgeView s).link.counted = s.link.counted := by
  unfold judgeView; (try dsimp only); (repeat' split) <;> simp
@[simp] theorem judgeView_link_announceFlag (s : State) : (judgeView s).link.announceFlag = s.link.announceFlag := by
  unfold judgeView; (try dsimp only); (repeat' split) <;> simp
@[simp] theorem judgeView_link_mutePending (s : State) : (judgeView s).link.mutePending = s.link.mutePending := by
  unfold judgeView; (try dsimp only); (repeat' split) <;> simp
@[simp] theorem judgeView_link_mute (s : State) : (judgeView s).link.mute = s.link.mute := by
  unfold judgeView; (try dsimp only); (repeat' split) <;> simp

/-! ### Fields of `ballot` under `judgeView` -/

@[simp] theorem judgeView_ballot_highest (s : State) : (judgeView s).ballot.highest = s.ballot.highest := by
  unfold judgeView; (try dsimp only); (repeat' split) <;> simp

/-! ### Fields of `holds` under `judgeView` -/

@[simp] theorem judgeView_holds_remote (s : State) : (judgeView s).holds.remote = s.holds.remote := by
  unfold judgeView; (try dsimp only); (repeat' split) <;> simp

/-! ### Fields of `link` under `lineQuiet` -/

@[simp] theorem lineQuiet_link_lastSender (s : State) : (lineQuiet s).link.lastSender = s.link.lastSender := by
  unfold lineQuiet; (try dsimp only); (repeat' split) <;> simp
@[simp] theorem lineQuiet_link_sending (s : State) : (lineQuiet s).link.sending = s.link.sending := by
  unfold lineQuiet; (try dsimp only); (repeat' split) <;> simp
@[simp] theorem lineQuiet_link_attempts (s : State) : (lineQuiet s).link.attempts = s.link.attempts := by
  unfold lineQuiet; (try dsimp only); (repeat' split) <;> simp
@[simp] theorem lineQuiet_link_counted (s : State) : (lineQuiet s).link.counted = s.link.counted := by
  unfold lineQuiet; (try dsimp only); (repeat' split) <;> simp
@[simp] theorem lineQuiet_link_announceFlag (s : State) : (lineQuiet s).link.announceFlag = s.link.announceFlag := by
  unfold lineQuiet; (try dsimp only); (repeat' split) <;> simp
@[simp] theorem lineQuiet_link_queue (s : State) : (lineQuiet s).link.queue = s.link.queue := by
  unfold lineQuiet; (try dsimp only); (repeat' split) <;> simp
@[simp] theorem lineQuiet_link_mutePending (s : State) : (lineQuiet s).link.mutePending = s.link.mutePending := by
  unfold lineQuiet; (try dsimp only); (repeat' split) <;> simp
@[simp] theorem lineQuiet_link_mute (s : State) : (lineQuiet s).link.mute = s.link.mute := by
  unfold lineQuiet; (try dsimp only); (repeat' split) <;> simp
@[simp] theorem lineQuiet_link_nextItem (s : State) : (lineQuiet s).link.nextItem = s.link.nextItem := by
  unfold lineQuiet; (try dsimp only); (repeat' split) <;> simp

/-! ### Fields of `link` under `setLastSender` -/

@[simp] theorem setLastSender_link_medium (a : Nat) (s : State) : (setLastSender a s).link.medium = s.link.medium := by
  unfold setLastSender; (try dsimp only); (repeat' split) <;> simp
@[simp] theorem setLastSender_link_wait (a : Nat) (s : State) : (setLastSender a s).link.wait = s.link.wait := by
  unfold setLastSender; (try dsimp only); (repeat' split) <;> simp
@[simp] theorem setLastSender_link_sending (a : Nat) (s : State) : (setLastSender a s).link.sending = s.link.sending := by
  unfold setLastSender; (try dsimp only); (repeat' split) <;> simp
@[simp] theorem setLastSender_link_attempts (a : Nat) (s : State) : (setLastSender a s).link.attempts = s.link.attempts := by
  unfold setLastSender; (try dsimp only); (repeat' split) <;> simp
@[simp] theorem setLastSender_link_counted (a : Nat) (s : State) : (setLastSender a s).link.counted = s.link.counted := by
  unfold setLastSender; (try dsimp only); (repeat' split) <;> simp
@[simp] theorem setLastSender_link_announceFlag (a : Nat) (s : State) : (setLastSender a s).link.announceFlag = s.link.announceFlag := by
  unfold setLastSender; (try dsimp only); (repeat' split) <;> simp
@[simp] theorem setLastSender_link_queue (a : Nat) (s : State) : (setLastSender a s).link.queue = s.link.queue := by
  unfold setLastSender; (try dsimp only); (repeat' split) <;> simp
@[simp] theorem setLastSender_link_mutePending (a : Nat) (s : State) : (setLastSender a s).link.mutePending = s.link.mutePending := by
  unfold setLastSender; (try dsimp only); (repeat' split) <;> simp
@[simp] theorem setLastSender_link_mute (a : Nat) (s : State) : (setLastSender a s).link.mute = s.link.mute := by
  unfold setLastSender; (try dsimp only); (repeat' split) <;> simp
@[simp] theorem setLastSender_link_nextItem (a : Nat) (s : State) : (setLastSender a s).link.nextItem = s.link.nextItem := by
  unfold setLastSender; (try dsimp only); (repeat' split) <;> simp

/-! ### Fields of `link` under `heardState` -/

@[simp] theorem heardState_link_sending (a : Nat) (s : State) : (heardState a s).link.sending = s.link.sending := by
  unfold heardState; (try dsimp only); (repeat' split) <;> simp
@[simp] theorem heardState_link_attempts (a : Nat) (s : State) : (heardState a s).link.attempts = s.link.attempts := by
  unfold heardState; (try dsimp only); (repeat' split) <;> simp
@[simp] theorem heardState_link_counted (a : Nat) (s : State) : (heardState a s).link.counted = s.link.counted := by
  unfold heardState; (try dsimp only); (repeat' split) <;> simp
@[simp] theorem heardState_link_announceFlag (a : Nat) (s : State) : (heardState a s).link.announceFlag = s.link.announceFlag := by
  unfold heardState; (try dsimp only); (repeat' split) <;> simp
@[simp] theorem heardState_link_mutePending (a : Nat) (s : State) : (heardState a s).link.mutePending = s.link.mutePending := by
  unfold heardState; (try dsimp only); (repeat' split) <;> simp
@[simp] theorem heardState_link_mute (a : Nat) (s : State) : (heardState a s).link.mute = s.link.mute := by
  unfold heardState; (try dsimp only); (repeat' split) <;> simp

/-! ### Fields of `ballot` under `heardState` -/

@[simp] theorem heardState_ballot_highest (a : Nat) (s : State) : (heardState a s).ballot.highest = s.ballot.highest := by
  unfold heardState; (try dsimp only); (repeat' split) <;> simp

/-! ### Fields of `roster` under `heardState` -/

@[simp] theorem heardState_roster_tallyTimer (a : Nat) (s : State) : (heardState a s).roster.tallyTimer = s.roster.tallyTimer := by
  unfold heardState; (try dsimp only); (repeat' split) <;> simp
@[simp] theorem heardState_roster_expiries (a : Nat) (s : State) : (heardState a s).roster.expiries = s.roster.expiries := by
  unfold heardState; (try dsimp only); (repeat' split) <;> simp
@[simp] theorem heardState_roster_joinComplete (a : Nat) (s : State) : (heardState a s).roster.joinComplete = s.roster.joinComplete := by
  unfold heardState; (try dsimp only); (repeat' split) <;> simp

/-- The sender heard is the last sender (R185). -/
@[simp] theorem heardState_lastSender (a : Nat) (s : State) : (heardState a s).link.lastSender = a := by
  unfold heardState; simp [setLastSender]

/-! ### Fields of `link` under `forgetCounted` -/

@[simp] theorem forgetCounted_link_medium (s : State) : (forgetCounted s).link.medium = s.link.medium := by
  unfold forgetCounted; (try dsimp only); (repeat' split) <;> simp
@[simp] theorem forgetCounted_link_wait (s : State) : (forgetCounted s).link.wait = s.link.wait := by
  unfold forgetCounted; (try dsimp only); (repeat' split) <;> simp
@[simp] theorem forgetCounted_link_lastSender (s : State) : (forgetCounted s).link.lastSender = s.link.lastSender := by
  unfold forgetCounted; (try dsimp only); (repeat' split) <;> simp
@[simp] theorem forgetCounted_link_sending (s : State) : (forgetCounted s).link.sending = s.link.sending := by
  unfold forgetCounted; (try dsimp only); (repeat' split) <;> simp
@[simp] theorem forgetCounted_link_announceFlag (s : State) : (forgetCounted s).link.announceFlag = s.link.announceFlag := by
  unfold forgetCounted; (try dsimp only); (repeat' split) <;> simp
@[simp] theorem forgetCounted_link_queue (s : State) : (forgetCounted s).link.queue = s.link.queue := by
  unfold forgetCounted; (try dsimp only); (repeat' split) <;> simp
@[simp] theorem forgetCounted_link_mutePending (s : State) : (forgetCounted s).link.mutePending = s.link.mutePending := by
  unfold forgetCounted; (try dsimp only); (repeat' split) <;> simp
@[simp] theorem forgetCounted_link_mute (s : State) : (forgetCounted s).link.mute = s.link.mute := by
  unfold forgetCounted; (try dsimp only); (repeat' split) <;> simp
@[simp] theorem forgetCounted_link_nextItem (s : State) : (forgetCounted s).link.nextItem = s.link.nextItem := by
  unfold forgetCounted; (try dsimp only); (repeat' split) <;> simp

/-! ### Fields of `ballot` under `endEvent` -/

@[simp] theorem endEvent_ballot_mode (b s : State) : (endEvent b s).ballot.mode = s.ballot.mode := by
  unfold endEvent; (try dsimp only); (repeat' split) <;> simp
@[simp] theorem endEvent_ballot_current (b s : State) : (endEvent b s).ballot.current = s.ballot.current := by
  unfold endEvent; (try dsimp only); (repeat' split) <;> simp
@[simp] theorem endEvent_ballot_role (b s : State) : (endEvent b s).ballot.role = s.ballot.role := by
  unfold endEvent; (try dsimp only); (repeat' split) <;> simp
@[simp] theorem endEvent_ballot_votes (b s : State) : (endEvent b s).ballot.votes = s.ballot.votes := by
  unfold endEvent; (try dsimp only); (repeat' split) <;> simp
@[simp] theorem endEvent_ballot_commitClaimed (b s : State) : (endEvent b s).ballot.commitClaimed = s.ballot.commitClaimed := by
  unfold endEvent; (try dsimp only); (repeat' split) <;> simp
@[simp] theorem endEvent_ballot_highest (b s : State) : (endEvent b s).ballot.highest = s.ballot.highest := by
  unfold endEvent; (try dsimp only); (repeat' split) <;> simp
@[simp] theorem endEvent_ballot_proposal (b s : State) : (endEvent b s).ballot.proposal = s.ballot.proposal := by
  unfold endEvent; (try dsimp only); (repeat' split) <;> simp
@[simp] theorem endEvent_ballot_pledge (b s : State) : (endEvent b s).ballot.pledge = s.ballot.pledge := by
  unfold endEvent; (try dsimp only); (repeat' split) <;> simp
@[simp] theorem endEvent_ballot_confirm (b s : State) : (endEvent b s).ballot.confirm = s.ballot.confirm := by
  unfold endEvent; (try dsimp only); (repeat' split) <;> simp

/-! ### Fields of `link` under `endEvent` -/

@[simp] theorem endEvent_link_medium (b s : State) : (endEvent b s).link.medium = s.link.medium := by
  unfold endEvent; (try dsimp only); (repeat' split) <;> simp
@[simp] theorem endEvent_link_lastSender (b s : State) : (endEvent b s).link.lastSender = s.link.lastSender := by
  unfold endEvent; (try dsimp only); (repeat' split) <;> simp
@[simp] theorem endEvent_link_sending (b s : State) : (endEvent b s).link.sending = s.link.sending := by
  unfold endEvent; (try dsimp only); (repeat' split) <;> simp
@[simp] theorem endEvent_link_announceFlag (b s : State) : (endEvent b s).link.announceFlag = s.link.announceFlag := by
  unfold endEvent; (try dsimp only); (repeat' split) <;> simp
@[simp] theorem endEvent_link_queue (b s : State) : (endEvent b s).link.queue = s.link.queue := by
  unfold endEvent; (try dsimp only); (repeat' split) <;> simp
@[simp] theorem endEvent_link_mutePending (b s : State) : (endEvent b s).link.mutePending = s.link.mutePending := by
  unfold endEvent; (try dsimp only); (repeat' split) <;> simp
@[simp] theorem endEvent_link_mute (b s : State) : (endEvent b s).link.mute = s.link.mute := by
  unfold endEvent; (try dsimp only); (repeat' split) <;> simp
@[simp] theorem endEvent_link_nextItem (b s : State) : (endEvent b s).link.nextItem = s.link.nextItem := by
  unfold endEvent; (try dsimp only); (repeat' split) <;> simp

end Sys2Proof.Machine
end

