-- ==== Sys2Proof/Laws/Arrivals.lean ====
section
/-! SUPPORT. What the shared paths of frames, orders and writes do, case by case: an event, the arrival of a frame, the taking of an
order, the start and the end of a retained-store write, a transmission start, the straps at a RESTART start. -/

namespace Sys2Proof.Machine

/-- A command's event answers the state after its end. -/
theorem event_eq_next (f : State → State) (s : State) : event f s = .next (endEvent s (f s)) := rfl

/-! ## A transmission start and a RESTART start -/

/-- What a transmission start can do: nothing, or one item on the line under the own address, with the medium BUSY (R161, R187). -/
theorem transmit_cases (s : State) :
    transmit s = s ∨ ∃ i b, s.nextItem = some i ∧ s.bodyFor i = some b ∧
      transmit s = s.setLink { s.link with sending := some ⟨i, s.own, b⟩, medium := .busy } := by
  unfold transmit
  cases h : s.nextItem with
  | none => exact Or.inl rfl
  | some i =>
    cases g : s.bodyFor i with
    | none => left; simp [g]
    | some b => right; exact ⟨i, b, rfl, g, by simp [g]⟩

@[simp] theorem strapsAtRestart_unmoved (l : BitVec 5) : strapsAtRestart ⟨l, []⟩ = ⟨l, []⟩ := rfl
@[simp] theorem strapsAtRestart_moved (l x : BitVec 5) (rest : List (BitVec 5)) : strapsAtRestart ⟨l, x :: rest⟩ = ⟨x, rest⟩ := rfl
@[simp] theorem startRun_own (straps : Straps) (f : SwitchPos) (m : Medium) (s : State) :
    (startRun straps f m s).own = straps.level.toNat := rfl
@[simp] theorem restartRun_own (s : State) : (restartRun s).own = (strapsAtRestart s.pins.straps).level.toNat := rfl

/-! ## The arrival of a frame -/

/-- A frame that is not valid only ends on the line (R178). -/
theorem arrive_of_invalid (a : Nat) (owner : State → State) (s : State) : arrive a false owner s = lineQuiet s := rfl

/-- A valid frame bearing the own address reaches no owner (R179, R191). -/
theorem arrive_of_own (a : Nat) (owner : State → State) (s : State) (ha : s.addressed = true) (h : a = s.own) :
    arrive a true owner s = ownAddressHeard s := by
  subst h; unfold arrive; simp [ha]

/-- In START a frame only makes its sender the last sender (R7, R185). -/
theorem arrive_in_start (a : Nat) (owner : State → State) (s : State) (h : ¬(s.addressed = true ∧ a = s.own))
    (hm : s.ballot.mode = .start) : arrive a true owner s = setLastSender a (lineQuiet s) := by
  have hb : (s.addressed && decide (a = s.own)) = false := by
    rw [Bool.and_eq_false_iff, decide_eq_false_iff_not]
    by_cases g : s.addressed = true
    · exact Or.inr fun e => h ⟨g, e⟩
    · exact Or.inl (by simpa using g)
  unfold arrive; simp [hb, hm]

/-- Past START a valid frame of another address is heard, taken by its owner, and the roster's holds are judged (R8). -/
theorem arrive_taken (a : Nat) (owner : State → State) (s : State) (h : ¬(s.addressed = true ∧ a = s.own))
    (hm : s.ballot.mode ≠ .start) : arrive a true owner s = judgeView (owner (heardState a s)) := by
  have hb : (s.addressed && decide (a = s.own)) = false := by
    rw [Bool.and_eq_false_iff, decide_eq_false_iff_not]
    by_cases g : s.addressed = true
    · exact Or.inr fun e => h ⟨g, e⟩
    · exact Or.inl (by simpa using g)
  unfold arrive; simp [hb, hm]

/-! ## The taking of an order -/

/-- A targeted order under a new number that fits its kind is executed and remembered (R200, R202). -/
theorem takeOrder_new (number : Byte) (kind : OrderKind) (run : State → State × OrderResult) (broadcast : State → State)
    (s : State) (h : ∀ m, s.orders.memory = some m → m.number ≠ number) :
    takeOrder number s.own kind true run broadcast s = settleOrder number kind (run s).2 (run s).1 := by
  unfold takeOrder takeTargeted
  cases g : s.orders.memory with
  | none => simp
  | some m => simp [Option.filter, h m g]

/-- A targeted order under a new number that does not fit its kind is answered BAD (R198). -/
theorem takeOrder_unfit (number : Byte) (kind : OrderKind) (run : State → State × OrderResult) (broadcast : State → State)
    (s : State) (h : ∀ m, s.orders.memory = some m → m.number ≠ number) :
    takeOrder number s.own kind false run broadcast s = settleOrder number kind .bad s := by
  unfold takeOrder takeTargeted
  cases g : s.orders.memory with
  | none => simp
  | some m => simp [Option.filter, h m g]

/-- A targeted order under the number in the memory is not executed (R200). -/
theorem takeOrder_repeated (number : Byte) (kind : OrderKind) (fits : Bool) (run : State → State × OrderResult)
    (broadcast : State → State) (s : State) (m : OrderMemory) (h : s.orders.memory = some m) (hn : m.number = number) :
    takeOrder number s.own kind fits run broadcast s = if m.status = .done then repeatAnswer m s else s := by
  unfold takeOrder takeTargeted; simp [h, hn, Option.filter]

/-- An order sent to all stations is executed as its kind gives when it fits, and answered by none (R201). -/
theorem takeOrder_broadcast (number : Byte) (kind : OrderKind) (fits : Bool) (run : State → State × OrderResult)
    (broadcast : State → State) (s : State) (h : s.own ≠ 31) :
    takeOrder number 31 kind fits run broadcast s = if fits = true then broadcast s else s := by
  unfold takeOrder; rw [if_neg (Ne.symm h), if_pos rfl]

/-- An order to another station does nothing (R198). -/
theorem takeOrder_foreign (number : Byte) (target : Nat) (kind : OrderKind) (fits : Bool) (run : State → State × OrderResult)
    (broadcast : State → State) (s : State) (h : target ≠ s.own) (h31 : target ≠ 31) :
    takeOrder number target kind fits run broadcast s = s := by
  unfold takeOrder; rw [if_neg h, if_neg h31]

/-! ## Retained-store writes -/

/-- A write that starts is in flight, and its slot counts as invalid in the copy and is torn in the store (R143). -/
theorem startWrite_effect (w : Write) (s : State) :
    (startWrite w s).lockout.inFlight = some w ∧ (startWrite w s).lockout.copies = w.copied false s.lockout.copies ∧
      (startWrite w s).lockout.record = s.lockout.record ∧ (startWrite w s).lockout.pendingWrite = s.lockout.pendingWrite ∧
      (startWrite w s).lockout.pendingEscalation = s.lockout.pendingEscalation ∧
      (startWrite w s).store = w.stored false s.store := by
  unfold startWrite; simp

/-- A write that ends is no longer in flight; with OK its slot holds its content, with FAIL it stays torn (R143). -/
theorem endWrite_effect (w : Write) (o : WriteOutcome) (s : State) :
    (endWrite w o s).lockout.inFlight = none ∧ (endWrite w o s).lockout.copies = w.copied (decide (o = .ok)) s.lockout.copies ∧
      (endWrite w o s).lockout.record = s.lockout.record ∧ (endWrite w o s).lockout.pendingWrite = s.lockout.pendingWrite ∧
      (endWrite w o s).lockout.pendingEscalation = s.lockout.pendingEscalation ∧
      (endWrite w o s).store = w.stored (decide (o = .ok)) s.store := by
  unfold endWrite; simp

/-- Nothing starts while no write waits (R143). -/
theorem startPending_of_none (s : State) (h : s.lockout.pendingWrite = false) : startPending s = s := by
  unfold startPending; simp [h]

end Sys2Proof.Machine
end

