-- ==== Sys2Proof/Laws/View.lean ====
section
/-! SUPPORT. What the small tests on entries and timers say: heard, disagreeing, member, stranger, due; what an entry adds to the floor,
and the least of what a list of entries adds. -/

namespace Sys2Proof.Machine

/-! ## Timers -/

theorem Timer.due_iff (x : Timer) : x.due = true ↔ ∃ n, x = .running n 0 := by
  cases x <;> simp [Timer.due]

theorem SwitchDriver.due_iff (d : SwitchDriver) : d.due = true ↔ ∃ k n, d.check = some ⟨k, .running n 0⟩ := by
  unfold SwitchDriver.due
  cases h : d.check with
  | none => simp
  | some c => rcases c with ⟨k, x⟩; cases x <;> simp [Timer.due]

theorem LinkController.due_iff (l : LinkController) : l.due = true ↔ ∃ k, l.wait = some ⟨k, 0⟩ := by
  unfold LinkController.due
  cases h : l.wait with
  | none => simp
  | some w => rcases w with ⟨k, n⟩; simp

/-! ## Entries -/

theorem RosterEntry.heard_iff (e : RosterEntry) : e.heard = true ↔ e.state = .present ∨ e.state = .stale := by
  simp [RosterEntry.heard]

theorem RosterEntry.disagrees_iff (e : RosterEntry) (d : Digest) :
    e.disagrees d = true ↔ (∃ t, e.summary = some t ∧ t.digest ≠ d) ∨
      e.summary = none ∧ ∃ x, e.announced = some x ∧ x.digest ≠ d := by
  unfold RosterEntry.disagrees RosterEntry.carriedDigest
  cases h : e.summary <;> cases k : e.announced <;> simp

theorem State.isMember_iff (s : State) (a : Nat) : s.isMember a = true ↔ 1 ≤ a ∧ a ≤ s.cfg.shared.size := decide_eq_true_iff

theorem State.isStranger_iff (s : State) (a : Nat) : s.isStranger a = true ↔ s.cfg.shared.size < a := decide_eq_true_iff

/-! ## The floor -/

theorem State.floorTerm_iff (s : State) (e : RosterEntry) (v : Nat) :
    s.floorTerm e = some v ↔ (1 ≤ e.address ∧ e.address ≤ s.cfg.shared.size) ∧ (e.state = .present ∨ e.state = .stale) ∧
      ∃ t, e.summary = some t ∧ t.minCell = some v := by
  rw [← s.isMember_iff, ← e.heard_iff]
  unfold State.floorTerm
  by_cases h : (s.isMember e.address && e.heard) = true
  · have := h
    rw [Bool.and_eq_true] at this
    simp [this.1, this.2, Option.bind_eq_some_iff]
  · rw [if_neg h]
    rw [Bool.and_eq_true] at h
    exact ⟨(fun k => nomatch k), fun ⟨a, b, _⟩ => absurd ⟨a, b⟩ h⟩

/-- The least of what the entries of a list add, beside a value that may be absent: absent when all are, else one of them that none is
below. -/
theorem foldl_optMin (g : RosterEntry → Option Nat) (l : List RosterEntry) (a : Option Nat) :
    (l.foldl (fun acc e => optMin acc (g e)) a = none ↔ a = none ∧ ∀ e ∈ l, g e = none) ∧
      ∀ f, l.foldl (fun acc e => optMin acc (g e)) a = some f ↔
        (a = some f ∨ ∃ e ∈ l, g e = some f) ∧ (∀ v, a = some v → f ≤ v) ∧ ∀ e ∈ l, ∀ v, g e = some v → f ≤ v := by
  induction l generalizing a with
  | nil => simp; intro f h v k; rw [h] at k; cases k; omega
  | cons x l ih =>
    simp only [List.foldl_cons, List.mem_cons]
    obtain ⟨i1, i2⟩ := ih (optMin a (g x))
    refine ⟨?_, fun f => ?_⟩
    · rw [i1]; cases a <;> cases h : g x <;> simp [optMin, h]
    · rw [i2]
      cases a with
      | none => cases h : g x <;> simp [optMin, h]
      | some y =>
        cases h : g x with
        | none => simp [optMin, h]
        | some z =>
          simp only [optMin, Option.some.injEq, forall_eq', forall_eq_or_imp, exists_eq_or_imp, h]
          constructor
          · rintro ⟨p, q, r⟩
            refine ⟨?_, by omega, by omega, r⟩
            rcases p with p | p
            · omega
            · exact .inr (.inr p)
          · rintro ⟨p, q, r, t⟩
            refine ⟨?_, by omega, t⟩
            rcases p with p | p | p
            · left; omega
            · left; omega
            · exact .inr p

end Sys2Proof.Machine
end

