-- ==== Sys2Proof/Tests/Slice0.lean ====
section
/-! SUPPORT. Small tests: the checks of WellFormed.lean refuse an ill-formed term each; the manual's worked numbers; frames written
out byte by byte; one step on a small state; and, for every claim of Certificates/Slice0 that has hypotheses, a state and operands
that meet them. -/

namespace Sys2Proof.Tests

set_option Elab.async false

open Sys2Proof.Machine

/-! ## Well-formed commands -/

/-- A summary within its ranges. -/
def goodTally : Summary where
  mode := .opened
  holdCount := 0
  lockoutSerial := 0
  ballot := Ballot.none
  digest := 0
  minCell := some 3400
  maxCell := some 3500
  moduleSum := some 13800
  maxTemperature := some 250
  advertisedDemand := 0
  bleedingCount := 0
  presentCount := 3
  bleedPaused := false
  defaultConfiguration := false

theorem test_wellFormed_tally : (Instr.tally 1 goodTally).wellFormed = true := by decide
theorem test_illFormed_tally_start : (Instr.tally 1 { goodTally with mode := .start }).wellFormed = false := by decide
theorem test_illFormed_tally_holds : (Instr.tally 1 { goodTally with holdCount := 33 }).wellFormed = false := by decide
theorem test_illFormed_tally_serial : (Instr.tally 1 { goodTally with lockoutSerial := 65536 }).wellFormed = false := by
  decide
theorem test_illFormed_tally_epoch : (Instr.tally 1 { goodTally with ballot := ⟨4294967296, 1⟩ }).wellFormed = false := by
  decide
theorem test_illFormed_tally_cell : (Instr.tally 1 { goodTally with minCell := some 65535 }).wellFormed = false := by
  decide
theorem test_illFormed_tally_temperature :
    (Instr.tally 1 { goodTally with maxTemperature := some (-32768) }).wellFormed = false := by decide
theorem test_illFormed_tally_demand : (Instr.tally 1 { goodTally with advertisedDemand := 6 }).wellFormed = false := by
  decide
theorem test_illFormed_tally_bleeding : (Instr.tally 1 { goodTally with bleedingCount := 6 }).wellFormed = false := by
  decide
theorem test_illFormed_tally_present : (Instr.tally 1 { goodTally with presentCount := 26 }).wellFormed = false := by
  decide
theorem test_illFormed_sender : (Instr.lift 25 0).wellFormed = false := by decide
theorem test_illFormed_gateway_commit : (Instr.commit 0 ⟨1, 1⟩).wellFormed = false := by decide
theorem test_illFormed_announce : (Instr.announce 1 ⟨1, 3, 0⟩).wellFormed = false := by decide
theorem test_illFormed_hold_index : (Instr.hold 1 0 .tap (some 11) none).wellFormed = false := by decide
theorem test_illFormed_hold_detail : (Instr.hold 1 0 .tap (some 10) (some (.switch .welded))).wellFormed = false := by decide
theorem test_illFormed_recall : (Instr.recall 1 32).wellFormed = false := by decide
theorem test_illFormed_propose : (Instr.propose 1 ⟨1, 1⟩ 25 0).wellFormed = false := by decide
theorem test_illFormed_assent : (Instr.assent 1 ⟨1, 256⟩).wellFormed = false := by decide
theorem test_illFormed_demur : (Instr.demur 1 ⟨4294967296, 1⟩ .holds).wellFormed = false := by decide
theorem test_illFormed_withdraw : (Instr.withdraw 1 ⟨1, 256⟩).wellFormed = false := by decide
theorem test_illFormed_answer_short : (Instr.answer 1 [7#8]).wellFormed = false := by decide
theorem test_illFormed_answer_long : (Instr.answer 1 (7#8 :: 0x10#8 :: List.replicate 31 0#8)).wellFormed = false := by
  decide
theorem test_illFormed_answer_result : (Instr.answer 1 [7#8, 0x11#8]).wellFormed = false := by decide
theorem test_illFormed_readings : (Instr.sweepCompletion ⟨[], [], 0, none, none, 0⟩).wellFormed = false := by decide
theorem test_illFormed_order_target : (Instr.orderOpen 1 32 []).wellFormed = false := by decide
theorem test_illFormed_order_long : (Instr.release 1 2 (List.replicate 30 0#8)).wellFormed = false := by decide
theorem test_wellFormed_order_longest : (Instr.release 1 2 (List.replicate 29 0#8)).wellFormed = true := by decide
theorem test_illFormed_store_commit : (Instr.store 1 2 [0#8, 1#8]).wellFormed = false := by decide
theorem test_illFormed_storeCommit_long : (Instr.storeCommit 1 2 0#8 (List.replicate 28 0#8)).wellFormed = false := by decide
theorem test_illFormed_read_long : (Instr.readBleed 1 2 (List.replicate 29 0#8)).wellFormed = false := by decide
theorem test_illFormed_known_kind : (Instr.orderOfUnknownKind 1 2 10#8 []).wellFormed = false := by decide
theorem test_wellFormed_unknown_kind : (Instr.orderOfUnknownKind 1 2 11#8 []).wellFormed = true := by decide
theorem test_illFormed_known_record : (Instr.readOfUnknownRecord 1 2 [1#8]).wellFormed = false := by decide
theorem test_wellFormed_missing_record : (Instr.readOfUnknownRecord 1 2 []).wellFormed = true := by decide

/-! ## The manual's worked numbers -/

/-- The check value of the CRC-16 (R194). -/
theorem test_crc_of_digits :
    crc16 [0x31#8, 0x32#8, 0x33#8, 0x34#8, 0x35#8, 0x36#8, 0x37#8, 0x38#8, 0x39#8] = 0x29B1#16 := by decide +kernel

theorem test_supersedes_lower_proposer : supersedes ⟨7, 2⟩ ⟨7, 5⟩ = true := by decide
theorem test_supersedes_higher_epoch : supersedes ⟨7, 5⟩ ⟨6, 24⟩ = true := by decide
theorem test_supersedes_not_itself : supersedes ⟨7, 2⟩ ⟨7, 2⟩ = false := by decide

/-- The shortest and the longest access wait (R185). -/
theorem test_wait_shortest : waitTime 6 5 .urgent = 96 := by decide
theorem test_wait_longest : waitTime 5 5 .routine = 1280 := by decide

/-- The waits of stations 3, 9 and 12 after sender 7, each with a TALLY (10.7). -/
theorem test_waits_after_seven : [3, 9, 12].map (fun a => waitTime a 7 .routine) = [1216, 912, 960] := by decide

/-- The two selections of section 6.10. -/
theorem test_selection_station_one :
    selectCells [(2, 3452), (3, 3470), (4, 3448), (5, 3430), (6, 3466), (7, 3455), (8, 3420)] = [3, 6, 8] := by decide
theorem test_selection_station_three :
    selectCells [(1, 3500), (3, 3480), (4, 3480), (6, 3470), (7, 3420), (8, 3460), (9, 3440)] = [1, 3, 6, 8] := by decide

/-- The grants of section 6.11: one of 3 and one of 2 against a budget of 6 and a demand of 14, and after the return of a member. -/
theorem test_grants : [grantFor true 3 14 6, grantFor true 2 14 6, grantFor true 4 14 6, grantFor true 3 9 6] = [1, 0, 1, 2] := by
  decide

/-! ## Frames written out byte by byte -/

/-- A frame of these bytes with its check. -/
def checked (bytes : List Byte) : List Byte := bytes ++ byte2 (crc16 bytes).toNat

theorem test_receive_lift : receive (checked [5#8, 4#8, 1#8, 0x2A#8]) = .lift 5 0x2A#8 := by decide +kernel
theorem test_receive_recall : receive (checked [0#8, 5#8, 1#8, 7#8]) = .recall 0 7 := by decide +kernel
theorem test_receive_hold : receive (checked [3#8, 3#8, 4#8, 9#8, 12#8, 0xFF#8, 2#8]) = .hold 3 9#8 .switch none (some (.switch .dropped)) := by
  decide +kernel
theorem test_receive_announce :
    receive (checked [3#8, 2#8, 5#8, 1#8, 2#8, 10#8, 0xAB#8, 0xCD#8]) = .announce 3 ⟨258, 10, 0xABCD#16⟩ := by decide +kernel
theorem test_receive_propose :
    receive (checked [3#8, 6#8, 8#8, 0#8, 0#8, 1#8, 2#8, 3#8, 12#8, 0x12#8, 0x34#8]) = .propose 3 ⟨258, 3⟩ 12 0x1234#16 := by
  decide +kernel
theorem test_receive_commit :
    receive (checked [3#8, 9#8, 5#8, 0#8, 0#8, 1#8, 2#8, 3#8]) = .commit 3 ⟨258, 3⟩ := by decide +kernel
theorem test_receive_demur :
    receive (checked [3#8, 8#8, 6#8, 0#8, 0#8, 1#8, 2#8, 4#8, 3#8]) = .demur 3 ⟨258, 4⟩ .membership := by decide +kernel
theorem test_receive_tally :
    receive (checked [1#8, 1#8, 23#8, 2#8, 0#8, 0#8, 0#8, 0#8, 0#8, 0#8, 0#8, 0#8, 0#8, 0#8, 0x0D#8, 0x48#8, 0x0D#8, 0xAC#8,
      0x35#8, 0xE8#8, 0#8, 0xFA#8, 0#8, 0#8, 3#8, 0#8]) = .tally 1 goodTally := by decide +kernel
theorem test_receive_release :
    receive (checked [0#8, 11#8, 5#8, 7#8, 2#8, 5#8, 1#8, 2#8]) = .release 7#8 2 [1#8, 2#8] := by decide +kernel
theorem test_receive_readRoster :
    receive (checked [0#8, 11#8, 6#8, 7#8, 2#8, 1#8, 6#8, 24#8, 1#8]) = .readRoster 7#8 2 [24#8, 1#8] := by decide +kernel
theorem test_receive_storeCommit :
    receive (checked [0#8, 11#8, 6#8, 7#8, 2#8, 7#8, 1#8, 1#8, 9#8]) = .storeCommit 7#8 2 1#8 [9#8] := by decide +kernel
theorem test_receive_wrong_check : receive [5#8, 4#8, 1#8, 0x2A#8, 0#8, 0#8] = .discardedFrame := by decide +kernel
theorem test_receive_wrong_sender : receive (checked [0#8, 9#8, 5#8, 0#8, 0#8, 1#8, 2#8, 3#8]) = .discardedFrame := by
  decide +kernel
theorem test_receive_wrong_length : receive (checked [5#8, 4#8, 2#8, 0x2A#8, 0#8]) = .discardedFrame := by decide +kernel

/-! ## A small station -/

/-- A configuration of a string of 3 with 4 cells. -/
def smallConfig : ConfigRecord :=
  { defaultConfig with
    shared := { defaultConfig.shared with size := 3, policy := .auto }, cells := { defaultConfig.cells with fitted := 4 } }

/-- A sweep's readings with all taps sound, 3.4 V cells and room temperature. -/
def goodReadings : Readings := ⟨List.replicate 11 false, List.replicate 10 3400, 13600, some 250, none, 300⟩

/-- The summary of an open member of the small string. -/
def openSummary : Summary := { goodTally with digest := stringDigest smallConfig.shared }

/-- The roster entry of a member heard by its TALLY. -/
def memberEntry (a : Nat) : RosterEntry :=
  { RosterEntry.vacant a with state := .present, summary := some openSummary }

/-- Station 2 of a small string, past join complete, OPEN and ready, with nothing pending. -/
def calm : State :=
  { State.reset with
    pins := ⟨⟨2, []⟩, .opened⟩
    startup := ⟨2, true, true, some ⟨smallConfig, 3, .slotA⟩, stringDigest smallConfig.shared⟩
    sweep := ⟨Timer.startMs 250, false, some (sampleSetOf goodReadings 12)⟩
    monitors := ⟨formMonitors 4, some 12⟩
    roster := ⟨addresses.map (fun a => if 1 ≤ a ∧ a ≤ 3 then memberEntry a else RosterEntry.vacant a), Timer.startMs 500, 3, true⟩
    ballot := { BallotUnit.atStart with mode := .opened, settle := Timer.startMs 2000 }
    plan := { PlanRecord.atStart false with reason := none, allowed := true, floor := some 3400, target := some 3415 }
    switch := ⟨.opened, .opened, none⟩
    store := { RetainedStore.blank with configA := .written ⟨3, smallConfig⟩ }
    lockout := { LockoutUnit.atStart with copies := ⟨some ⟨3, smallConfig⟩, none, none, none⟩ } }

/-- The small station with an own hold. -/
def holding (c : Cause) (i : Option Nat) (d : Option Detail) : State :=
  { calm with holds := ⟨[⟨0, c, i, d, 5⟩], 1, [], []⟩ }

/-- The small station in a ballot of epoch 4, in a role. -/
def pledged (r : Role) (proposer : Nat) : State :=
  { calm with ballot :=
      { calm.ballot with
        mode := .pledged, current := some ⟨4, proposer⟩, highest := ⟨4, proposer⟩, role := r, settle := .stopped,
        votes := if r = .proposer then [2] else [],
        proposal := if r = .proposer then .running 9 9 else .stopped,
        pledge := if r = .proposer then .stopped else .running 9 9 } }

/-- The small station CLOSED by ballot (4, 3). -/
def closedStation : State :=
  { calm with
    ballot := { calm.ballot with
      mode := .closed, current := some ⟨4, 3⟩, highest := ⟨4, 3⟩, settle := .stopped, confirm := .running 9 9 }
    switch := ⟨.closed, .closed, none⟩ }

/-- The small station with a lockout of serial 258 and a write in flight. -/
def lockedOut (w : Option Write) : State :=
  { holding .lockout none (some (.lockout .welded)) with
    lockout := { calm.lockout with record := ⟨.active, 258, some .welded, none, true, 1⟩, inFlight := w } }

/-- The small station with an item on the line. -/
def sendingStation (i : Item) (b : Body) : State :=
  { calm with link := { calm.link with sending := some ⟨i, 2, b⟩, medium := .busy, queue := [⟨7, .tally⟩, ⟨8, .answer [1#8, 0x10#8] true⟩] } }

/-- The station before JOIN, with its two flags. -/
def starting (readDone sweepDone : Bool) : State :=
  { calm with
    startup := { calm.startup with readComplete := readDone, firstSweepComplete := sweepDone }
    ballot := BallotUnit.atStart, roster := Roster.atStart, sweep := { calm.sweep with inProgress := !sweepDone } }

/-! ## States and operands that meet the hypotheses of the claims -/

theorem test_meets_idle_due :
    ({ State.reset with sweep := { State.reset.sweep with timer := .running 5 0 } } : State).dueExpiry = some .sweepTimerExpiry := by
  decide +kernel
theorem test_meets_idle_nothing_due : State.reset.pending = [] ∧ State.reset.dueExpiry = none := by decide +kernel
theorem test_meets_tick_running :
    let s : State := { calm with
      ballot := { calm.ballot with proposal := .running 9 1, pledge := .running 9 2, confirm := .running 9 9 }
      switch := ⟨.opened, .opened, some ⟨.feedback, .running 9 1⟩⟩, link := { calm.link with wait := some ⟨.vote, 1⟩ } }
    s.pending = [] ∧ s.dueExpiry = none ∧ s.sweep.timer.isRunning = true ∧ s.roster.tallyTimer.isRunning = true ∧
      s.ballot.settle.isRunning = true := by decide +kernel

theorem test_meets_noStart : ¬startsStation .frameStart calm := by
  rintro (⟨a, b, c, h⟩ | ⟨h, -⟩ | ⟨h, -⟩)
  · cases h
  · cases h
  · revert h; decide

theorem test_meets_straps_valid : 1 ≤ (1#5).toNat ∧ (24#5).toNat ≤ 24 := by decide
theorem test_meets_straps_invalid : ¬(1 ≤ (0#5).toNat) ∧ ¬((25#5).toNat ≤ 24) := by decide

theorem test_meets_storeRead :
    (starting false false).addressed = true ∧ (starting false false).ballot.mode = .start ∧
      (starting false false).startup.readComplete = false ∧ (starting false false).startup.firstSweepComplete = false ∧
      validConfigSlot (starting false false).store.configA = some ⟨3, smallConfig⟩ ∧
      validConfigSlot (starting false false).store.configB = none := by decide +kernel
theorem test_meets_storeRead_newerB :
    validConfigSlot (.written ⟨65535, smallConfig⟩) = some ⟨65535, smallConfig⟩ ∧ 3 < 65535 := by decide +kernel
theorem test_meets_storeRead_blank :
    State.reset.addressed = true ∧ State.reset.ballot.mode = .start ∧ State.reset.startup.readComplete = false ∧
      validConfigSlot State.reset.store.configA = none ∧ validConfigSlot State.reset.store.configB = none ∧
      State.reset.store.judged.newest = none := by decide +kernel
theorem test_meets_storeRead_active :
    (SlotCopies.newest ⟨none, none, validLockoutSlot (.written ⟨1, .active, .welded, none⟩), none⟩) =
      some (.a, ⟨1, .active, .welded, none⟩) := by decide
theorem test_meets_storeRead_released :
    (SlotCopies.newest ⟨none, none, validLockoutSlot (.written ⟨65535, .active, .welded, none⟩),
      validLockoutSlot (.written ⟨65535, .released, .welded, none⟩)⟩) = some (.b, ⟨65535, .released, .welded, none⟩) := by decide

theorem test_meets_join_by_read :
    (starting false true).addressed = true ∧ (starting false true).ballot.mode = .start ∧ RosterShaped (starting false true) ∧
      (starting false true).startup.readComplete = false ∧ (starting false true).startup.firstSweepComplete = true := by
  unfold RosterShaped; decide +kernel
theorem test_meets_join_by_sweep :
    (starting true false).addressed = true ∧ (starting true false).ballot.mode = .start ∧ RosterShaped (starting true false) ∧
      (starting true false).sweep.inProgress = true ∧ (starting true false).startup.readComplete = true := by
  unfold RosterShaped; decide +kernel
theorem test_meets_join_notices :
    (starting false true).holds.notices = [] ∧ (starting false true).link.mute = false ∧
      (starting false true).stands .discord = false ∧ (∀ e ∈ (starting false true).roster.entries, e.state = .vacant) := by
  decide +kernel
/-- A hold of START is announced at JOIN entry, and a station above S raises DISCORD there, announced by its own notice. -/
theorem test_join_announces_holds :
    ∃ t, exec .storeReadCompletion { starting false true with
        startup := { (starting false true).startup with address := 5 }, holds := (holding .gateway none none).holds } = .next t ∧
      t.holds.own.map (fun h => h.cause) = [.gateway, .discord] ∧
      t.holds.notices.map (fun n => (n.kind, n.serial, n.replay)) = [(.hold, 0, false), (.hold, 1, false)] :=
  ⟨_, rfl, by decide +kernel, by decide +kernel⟩

theorem test_meets_sweepTimer : calm.sweep.timer.isRunning = true := by decide
theorem test_meets_sweepCompletion :
    ({ calm with sweep := { calm.sweep with inProgress := true } } : State).sweep.inProgress = true ∧ calm.ballot.mode ≠ .start := by
  decide

/-- HIGH with level 4200 and hysteresis 50 at the values where its classes meet (R92). -/
theorem test_high_classes :
    [some 4201, some 4200, some 4151, some 4150, none].map (classifyHigh smallConfig.cells) =
      [.crossing, .between, .between, .easing, .frozen] := by decide
/-- LOW with level 2800 and hysteresis 50 (R93). -/
theorem test_low_classes :
    [some 2799, some 2800, some 2849, some 2850, none].map (classifyLow smallConfig.cells) =
      [.crossing, .between, .between, .easing, .frozen] := by decide
/-- HOT with level 55.0 and hysteresis 5.0 (R95). -/
theorem test_hot_classes :
    [some 551, some 550, some 501, some 500, none].map (classifyHot smallConfig.limits) =
      [.crossing, .between, .between, .easing, .crossing] := by decide
/-- COLD with level -20.0 and hysteresis 5.0 (R96). -/
theorem test_cold_classes :
    [some (-201), some (-200), some (-151), some (-150), none].map (classifyCold smallConfig.limits) =
      [.crossing, .between, .between, .easing, .frozen] := by decide
/-- SUM with tolerance 200 (R97). -/
theorem test_sum_classes :
    [classifySum 200 13801 (some 13600), classifySum 200 13800 (some 13600), classifySum 200 13500 (some 13600),
      classifySum 200 13499 (some 13600), classifySum 200 13499 none] =
      [.crossing, .between, .easing, .between, .frozen] := by decide
theorem test_meets_thermistors :
    [(some 250, some 260), (some 250, none), (none, some 260), (none, none)].map (fun p : Option Int × Option Int =>
      let x := { sampleSetOf goodReadings 12 with t1 := p.1, t2 := p.2 }
      (x.hotter, x.colder)) = [(some 260, some 250), (some 250, some 250), (some 260, some 260), (none, none)] := by decide +kernel
theorem test_meets_fitted_sum :
    calm.fittedCells.map (sampleSetOf goodReadings 12).cell = [3400, 3400, 3400, 3400].map some := by decide +kernel

theorem test_meets_monitorRaise :
    (∃ r ∈ calm.monitors.records, r.number = 1) ∧ calm.lockout.record.state = .none ∧
      (600000#32 - 0#32).toNat ≤ calm.cfg.limits.window * 60000 := by decide +kernel
theorem test_recurrence_window_edges :
    [recurs 10 600000#32 [5#32, 0#32], recurs 10 600001#32 [5#32, 0#32], recurs 10 5#32 [5#32]] = [true, false, false] := by
  decide
/-- The small station in a sweep, its HIGH monitor of cell 1 one crossing from HELD and one severe reading from escalating, its LOW
monitor of cell 1 and its TAP monitor one easing from CLEAR. -/
def watching : State :=
  { calm with
    sweep := { calm.sweep with inProgress := true }
    holds := ⟨[⟨0, .low, some 1, none, 5⟩, ⟨1, .tap, some 3, none, 5⟩], 2, [], []⟩
    monitors := { calm.monitors with records := calm.monitors.records.map fun m =>
      if m.number = 1 then { m with state := .counting, count := 2, severeCount := 2 }
      else if m.number = 11 then { m with state := .easing, count := 2 }
      else if m.number = 21 then { m with state := .easing, count := 2, raisedTap := some 3 } else m } }
/-- A sweep with cell 1 far above its severe level. -/
def severeReadings : Readings := { goodReadings with cells := 4400 :: List.replicate 9 3400, moduleSum := 14600 }
theorem test_meets_evaluation :
    watching.sweep.inProgress = true ∧ watching.ballot.mode ≠ .start ∧ MonitorsShaped watching ∧
      watching.cfg.limits.raiseCount = 3 ∧ watching.cfg.limits.easeCount = 3 ∧ MonitorsShaped State.reset := by
  unfold MonitorsShaped; decide +kernel
theorem test_sweep_moves_monitors :
    ∃ t, exec (.sweepCompletion severeReadings) watching = .next t ∧
      t.holds.own.map (fun h => (h.cause, h.index)) = [(.high, some 1), (.lockout, none)] ∧
      t.lockout.record.cause = some .highSevere ∧ t.lockout.record.index = some 1 ∧
      (t.monitors.records.filter fun m => [1, 11, 21].contains m.number).map (fun m =>
        (m.state, m.count, m.severeCount, m.raisedTap)) =
          [(.held, 0, 0, none), (.clear, 0, 0, none), (.clear, 0, 0, none)] :=
  ⟨_, rfl, by decide +kernel, by decide +kernel, by decide +kernel, by decide +kernel⟩
theorem test_meets_no_escalation :
    calm.monitors.records.all (fun m => decide (m.recurrence.length < 2 ∧ m.severeCount + 1 < calm.cfg.limits.raiseCount)) =
      true := by decide +kernel

theorem test_meets_plan_mode : State.reset.ballot.mode = .start := by decide
theorem test_meets_plan_reasons :
    calm.disallowed calm.floor = none ∧ calm.disallowed none = some .noFloor ∧
      ({ calm with plan := { calm.plan with paused := true } } : State).disallowed calm.floor = some .paused ∧
      ({ calm with sweep := { calm.sweep with latest := some (sampleSetOf { goodReadings with die := 1000 } 12) } } : State).disallowed
        calm.floor = some .die ∧
      ({ calm with sweep := { calm.sweep with latest := some (sampleSetOf { goodReadings with die := 999 } 12) } } : State).disallowed
        calm.floor = none := by decide +kernel
theorem test_meets_plan_hot :
    ({ calm with monitors := ⟨[{ Monitor.fresh 22 .hot none with state := .counting }], none⟩ } : State).disallowed calm.floor =
      some .hot := by decide +kernel
theorem test_meets_plan_budget :
    ({ calm with startup := { calm.startup with
        config := some ⟨{ smallConfig with shared := { smallConfig.shared with budget := 0 } }, 3, .slotA⟩ } } : State).disallowed
      calm.floor = some .noBudget := by decide +kernel

theorem test_plan_selects :
    (sweepPlanPoint { calm with sweep := { calm.sweep with latest := some (sampleSetOf
        { goodReadings with cells := [3500, 3416, 3415, 3450] ++ List.replicate 6 3400 } 12) } }).plan.selection = [1, 4] := by
  decide +kernel
theorem test_meets_selection :
    [(1, 3500), (3, 3480), (4, 3480)].Pairwise (fun x y : Nat × Nat => x.1 < y.1) ∧
      (∀ x ∈ [(1, 3500), (3, 3480), (4, 3480)], 1 ≤ x.1) := by decide

theorem test_meets_tallyTimer : calm.roster.tallyTimer.isRunning = true := by decide
/-- The ages where an entry becomes STALE and LOST, with LOST age 5 (R14). -/
theorem test_aging :
    ([⟨.present, 0⟩, ⟨.present, 1⟩, ⟨.stale, 3⟩, ⟨.stale, 4⟩].map fun x : EntryState × Nat =>
      (({ memberEntry 1 with state := x.1, age := x.2 } : RosterEntry).aged 5).state) = [.present, .stale, .stale, .lost] := by decide

theorem test_meets_frame :
    frameValid 1 (.tally openSummary) = true ∧ TakesFrom calm 1 ∧ RosterShaped calm := by
  unfold TakesFrom RosterShaped; decide +kernel
theorem test_meets_answer : frameValid 24 (.answer [7#8, 0x10#8]) = true ∧ TakesFrom calm 24 := by unfold TakesFrom; decide +kernel
theorem test_meets_frame_invalid : frameValid 25 (.lift 0#8) = false := by decide
theorem test_meets_frame_in_start : State.reset.ballot.mode = .start ∧ ¬(State.reset.addressed = true ∧ 3 = State.reset.own) := by
  decide

theorem test_meets_tally_closed :
    TakesFrom closedStation 3 ∧ closedStation.isMember 3 = true ∧ closedStation.ballot.current ≠ some Ballot.none ∧
      closedStation.isMember 4 = false := by unfold TakesFrom; decide +kernel
theorem test_tally_confirms :
    ∃ t, exec (.tally 3 { openSummary with mode := .closed, ballot := ⟨4, 3⟩ }) closedStation = .next t ∧
      t.ballot.mode = .closed ∧ (t.entry 3).confirmed = true := ⟨_, rfl, by decide +kernel, by decide +kernel⟩
theorem test_meets_tally_confirms :
    closedStation.ballot.mode = .closed ∧ closedStation.ballot.current = some ⟨4, 3⟩ ∧
      closedStation.wouldReplace ⟨4, 3⟩ = false ∧ ClearView (heardState 3 closedStation) ∧
      openSummary.digest = closedStation.startup.digest := by unfold ClearView; decide +kernel
theorem test_tally_pledged_leaves_closed :
    ∃ t, exec (.tally 3 { openSummary with mode := .pledged, ballot := ⟨4, 3⟩ }) closedStation = .next t ∧
      t.ballot.mode = .closed ∧ (t.entry 3).confirmed = false := ⟨_, rfl, by decide +kernel, by decide +kernel⟩
theorem test_tally_reconciles :
    HasRoom calm ∧ ((heardState 3 calm).entry 3).recallPending = false ∧
      ∃ t, exec (.tally 3 { openSummary with holdCount := 32 }) calm = .next t ∧ Queued t (.recall 3) :=
  ⟨by unfold HasRoom; decide +kernel, by decide +kernel, _, rfl, ⟨0, .recall 3⟩, by decide +kernel, rfl⟩
theorem test_tally_breaks :
    ∃ t, exec (.tally 3 openSummary) closedStation = .next t ∧ t.ballot.mode = .opened ∧ t.switch.command = .opened :=
  ⟨_, rfl, by decide +kernel, by decide +kernel⟩

/-- A remote hold of station 3. -/
def remoteHold (n : Byte) : RemoteHold := ⟨3, n, .high, some 1, none, 5⟩

theorem test_meets_reconciliation :
    RosterShaped { calm with holds := ⟨[], 0, [], [remoteHold 1, remoteHold 2]⟩ } ∧ calm.own ≠ 3 ∧
      (calm.entry 3).recallPending = false ∧ HasRoom calm := by unfold RosterShaped HasRoom; decide +kernel
theorem test_meets_announce :
    frameValid 3 (.announce ⟨3, 4, 7#16⟩) = true ∧ TakesFrom closedStation 3 ∧ RosterShaped closedStation ∧
      closedStation.isExpected 3 = true := by unfold TakesFrom RosterShaped; decide +kernel
theorem test_meets_hold_replaced :
    frameValid 3 (.hold 1#8 .high (some 10) none) = true ∧
      (∃ r ∈ (heardState 3 { calm with holds := ⟨[], 0, [], [remoteHold 1]⟩ }).holds.remote, r.origin = 3 ∧ r.serial = 1#8) := by
  decide +kernel
theorem test_meets_hold_appended :
    (heardState 3 calm).holds.remote.length < 48 ∧ ∀ r ∈ (heardState 3 calm).holds.remote, ¬(r.origin = 3 ∧ r.serial = 1#8) := by
  decide +kernel
theorem test_meets_hold_full :
    48 ≤ (heardState 3 { calm with
      holds := ⟨[], 0, [], (List.range 48).map fun n => remoteHold (BitVec.ofNat 8 n)⟩ }).holds.remote.length := by decide +kernel
theorem test_meets_recall :
    TakesFrom (holding .gateway none none) 3 ∧ (holding .gateway none none).link.mute = false ∧
      (∃ h ∈ (holding .gateway none none).holds.own, h.serial = 0#8) := by unfold TakesFrom; decide +kernel

theorem test_meets_raise_new : calm.ownHold .high (some 1) = none ∧ calm.ballot.mode ≠ .start ∧ calm.link.mute = false := by
  decide
theorem test_meets_raise_detail :
    ((holding .switch none (some (.switch .dropped))).ownHold .switch none).map (fun h => h.detail) = some (some (.switch .dropped)) := by
  decide
theorem test_detail_change_is_replayed :
    (raiseHold .switch none (some (.switch .welded)) (holding .switch none (some (.switch .dropped)))).holds.notices =
      [⟨0, .hold, 0, true⟩] := by decide +kernel
theorem test_allocator_wraps :
    HoldUnit.allocate ⟨[⟨255, .high, some 1, none, 5⟩], 255, [⟨0, .lift, 0, false⟩], []⟩ = 1 := by decide +kernel
theorem test_meets_lift_queued_hold :
    let s : State := { holding .gateway none none with holds := ⟨[⟨0, .gateway, none, none, 5⟩], 1, [⟨4, .hold, 0, false⟩], []⟩ }
    s.holdNotice 0 = some ⟨4, .hold, 0, false⟩ ∧ s.link.onLine (.notice 4) = false := by decide
theorem test_meets_lift_no_notice :
    (holding .gateway none none).holdNotice 0 = none ∧ ((holding .gateway none none).ownHold .gateway none).isSome = true := by decide
/-- The small station with a GATEWAY hold whose HOLD notice is in the list, with its replay mark and what is on the line. -/
def announcing (replay : Bool) (sending : Option Sending) : State :=
  { calm with
    holds := ⟨[⟨0, .gateway, none, none, 5⟩], 1, [⟨4, .hold, 0, replay⟩], []⟩
    link := { calm.link with sending := sending, nextItem := 5 } }
theorem test_meets_lift_replay :
    (announcing true none).holdNotice 0 = some ⟨4, .hold, 0, true⟩ ∧ (announcing true none).link.onLine (.notice 4) = false ∧
      (liftHold .gateway none (announcing true none)).holds.notices = [⟨5, .lift, 0, false⟩] := by decide +kernel
theorem test_meets_lift_on_line :
    let s := announcing false (some ⟨.notice 4, 2, .hold 0 .gateway none none⟩)
    s.holdNotice 0 = some ⟨4, .hold, 0, false⟩ ∧ s.link.onLine (.notice 4) = true ∧
      (liftHold .gateway none s).holds.notices = [⟨4, .hold, 0, false⟩, ⟨5, .lift, 0, false⟩] := by decide +kernel

theorem test_meets_settle_ready : calm.ready = true ∧ calm.cfg.shared.policy = .auto := by decide +kernel
theorem test_meets_settle_duty :
    let s : State := { calm with ballot := { calm.ballot with highest := ⟨4, 3⟩ } }
    s.ballot.settle.isRunning = true ∧ s.ready = true ∧ s.addressed = true ∧ s.ballot.highest.epoch % s.size + 1 = s.own ∧
      HasRoom s := by unfold HasRoom; decide +kernel

theorem test_meets_ballot_proposer :
    (pledged .proposer 2).ballot.current = some ⟨4, 2⟩ ∧ (pledged .proposer 2).ballot.mode = .pledged ∧
      (pledged .proposer 2).ballot.role = .proposer ∧ (pledged .proposer 2).ballot.proposal.isRunning = true ∧
      frameValid 24 (.demur ⟨4, 2⟩ .digest) = true ∧ TakesFrom (pledged .proposer 2) 24 ∧ HasRoom (pledged .proposer 2) := by
  unfold TakesFrom HasRoom; decide +kernel
theorem test_meets_ballot_voter :
    (pledged .voter 3).ballot.current = some ⟨4, 3⟩ ∧ (pledged .voter 3).ballot.role = .voter ∧
      (pledged .voter 3).ballot.pledge.isRunning = true ∧ frameValid 3 (.withdraw ⟨4, 3⟩) = true ∧
      TakesFrom (pledged .voter 3) 3 := by unfold TakesFrom; decide +kernel
theorem test_meets_ballot_closed :
    closedStation.ballot.current = some ⟨4, 3⟩ ∧ closedStation.ballot.confirm.isRunning = true ∧
      frameValid 3 (.withdraw ⟨4, 3⟩) = true ∧ TakesFrom closedStation 3 ∧ SwitchFollowsMode closedStation ∧
      (∃ e ∈ closedStation.roster.entries, closedStation.isMember e.address = true ∧ e.confirmed = false) := by
  unfold TakesFrom SwitchFollowsMode; decide +kernel

theorem test_meets_propose :
    frameValid 3 (.propose ⟨1, 3⟩ 3 (stringDigest smallConfig.shared)) = true ∧ TakesFrom calm 3 ∧ BallotRecordLegal calm ∧
      calm.wouldReplace ⟨1, 3⟩ = true ∧ HasRoom calm := by unfold TakesFrom BallotRecordLegal HasRoom; decide +kernel
theorem test_propose_assented :
    ∃ t, exec (.propose 3 ⟨1, 3⟩ 3 (stringDigest smallConfig.shared)) calm = .next t ∧ t.ballot.mode = .pledged ∧
      t.ballot.role = .voter := ⟨_, rfl, by decide +kernel, by decide +kernel⟩
theorem test_propose_demurred :
    ∃ t, exec (.propose 3 ⟨1, 3⟩ 4 0) calm = .next t ∧ t.ballot.mode = .opened ∧
      t.link.queue.map (fun q => q.claim) = [.demur ⟨1, 3⟩ .membership] := ⟨_, rfl, by decide +kernel, by decide +kernel⟩
theorem test_propose_of_another :
    frameValid 1 (.propose ⟨1, 3⟩ 3 0) = true ∧
      ∃ t, exec (.propose 1 ⟨1, 3⟩ 3 0) calm = .next t ∧ t.ballot.highest = ⟨0, 0⟩ ∧ t.link.queue = [] :=
  ⟨by decide, _, rfl, by decide +kernel, by decide +kernel⟩
theorem test_meets_assent :
    let s := pledged .proposer 2
    frameValid 3 (.assent ⟨4, 2⟩) = true ∧ TakesFrom s 3 ∧ s.wouldReplace ⟨4, 2⟩ = false ∧ ClearView (heardState 3 s) ∧
      s.isPledged .proposer ⟨4, 2⟩ = true := by unfold TakesFrom ClearView; decide +kernel
theorem test_meets_commit :
    let s := pledged .voter 3
    frameValid 3 (.commit ⟨4, 3⟩) = true ∧ TakesFrom s 3 ∧ BallotRecordLegal s ∧ s.isPledged .voter ⟨4, 3⟩ = true ∧
      s.wouldReplace ⟨4, 3⟩ = false ∧ SwitchFollowsMode s ∧ ClearView (heardState 3 s) ∧ (heardState 3 s).holds.own = [] ∧
      (heardState 3 s).holds.remote = [] := by
  unfold TakesFrom BallotRecordLegal SwitchFollowsMode ClearView; decide +kernel
theorem test_commit_closes :
    ∃ t, exec (.commit 3 ⟨4, 3⟩) (pledged .voter 3) = .next t ∧ t.ballot.mode = .closed ∧ t.switch.command = .closed :=
  ⟨_, rfl, by decide +kernel, by decide +kernel⟩

theorem test_meets_feedback : calm.addressed = true ∧ SwitchPos.closed ≠ calm.switch.feedback ∧ calm.switch.check = none := by decide
theorem test_meets_check :
    ({ calm with switch := ⟨.closed, .opened, some ⟨.command, .running 9 0⟩⟩ } : State).switch.check = some ⟨.command, .running 9 0⟩ := by
  decide
theorem test_check_welded :
    ∃ t, exec .settleCheckExpiry { calm with switch := ⟨.opened, .closed, some ⟨.feedback, .running 9 0⟩⟩ } = .next t ∧
      t.lockout.record.cause = some .welded ∧ t.holds.own.map (fun h => h.cause) = [.switch, .lockout] :=
  ⟨_, rfl, by decide +kernel, by decide +kernel⟩

/-- A state whose order memory is empty takes an order of any number. -/
theorem takesNewOrder_of_empty (s : State) (n : Byte) (a : Nat) (h : TakesFrom s 0) (ha : a = s.own) (hb : a ≤ 31)
    (hm : s.orders.memory = none) : TakesNewOrder s n a :=
  ⟨h, ha, hb, fun m e => by rw [hm] at e; cases e⟩

theorem test_meets_newOrder : TakesNewOrder calm 0#8 2 :=
  takesNewOrder_of_empty calm 0#8 2 (by unfold TakesFrom; decide +kernel) (by decide) (by decide) (by decide)
theorem test_meets_broadcast : TakesFrom calm 0 ∧ calm.own ≠ 31 := by unfold TakesFrom; decide +kernel
theorem test_meets_clearSwitch :
    let s := holding .switch none (some (.switch .dropped))
    (heardState 0 s).stands .switch = true ∧ (heardState 0 s).switch.command = .opened ∧
      (heardState 0 s).switch.feedback = .opened ∧ s.orders.memory = none := by decide +kernel
theorem test_meets_reclose : calm.addressed = true ∧ (heardState 0 calm).ready = true ∧ (heardState 0 (pledged .voter 3)).ready = false := by
  decide +kernel
theorem test_meets_reclose_duty :
    let s : State := { calm with ballot := { calm.ballot with highest := ⟨4, 3⟩ } }
    (heardState 0 s).ready = true ∧ (heardState 0 s).duty = s.own := by decide +kernel

theorem test_meets_waits : (0 : Nat) ≤ 24 ∧ (24 : Nat) ≤ 24 ∧ waitTime 0 0 .routine = 1280 ∧ waitTime 24 24 .routine = 1280 ∧
    waitTime 0 24 .urgent = 96 := by decide
theorem test_meets_discarded : calm.link.sending = none ∧ calm.ballot.mode ≠ .start ∧ calm.link.mute = false := by decide
theorem test_meets_waitExpiry_queued :
    let s : State := { calm with link := { calm.link with wait := some ⟨.routine, 0⟩, queue := [⟨7, .tally⟩] } }
    s.link.wait = some ⟨.routine, 0⟩ ∧ s.link.sending = none ∧ s.link.announceFlag = false ∧ s.holds.notices = [] := by decide
theorem test_meets_waitExpiry_claim (c : Claim) :
    let s : State := { calm with link := { calm.link with wait := some ⟨.routine, 0⟩, queue := [⟨7, c⟩] } }
    s.link.wait = some ⟨.routine, 0⟩ ∧ s.link.sending = none ∧ s.link.announceFlag = false ∧ s.holds.notices = [] ∧
      s.link.queue = [⟨7, c⟩] := ⟨rfl, rfl, rfl, rfl, rfl⟩
theorem test_meets_waitExpiry_notice :
    let s : State := { holding .gateway none none with holds := ⟨[⟨0, .gateway, none, none, 5⟩], 1, [⟨4, .hold, 0, false⟩], []⟩ }
    (s.ownHoldOfSerial 0).isSome = true ∧ s.link.announceFlag = false := by decide
theorem test_meets_waitExpiry_announce :
    let s : State := { calm with link := { calm.link with wait := some ⟨.urgent, 0⟩, announceFlag := true } }
    let u := s.updateEntry 2 fun e => { e with announced := some s.ownAnnounce }
    u.link.announceFlag = true ∧ (u.entry u.own).announced.isSome = true := by decide +kernel

theorem test_meets_send :
    let s := sendingStation (.queued 7) (.tally calm.ownTally)
    s.link.sending = some ⟨.queued 7, 2, .tally calm.ownTally⟩ ∧ s.sendsRestart ⟨.queued 7, 2, .tally calm.ownTally⟩ = false ∧
      RosterShaped s ∧ s.own ≤ 24 := by unfold RosterShaped; decide +kernel
theorem test_meets_send_notice :
    let s : State := { sendingStation (.notice 4) (.hold 0 .gateway none none) with
      holds := ⟨[⟨0, .gateway, none, none, 5⟩], 1, [⟨4, .hold, 0, false⟩], []⟩ }
    s.noticeOf 4 = some ⟨4, .hold, 0, false⟩ ∧ s.stands .send = false ∧ s.holdsItem (.notice 4) = true ∧
      s.ownHoldOfSerial 0 ≠ none := by decide +kernel
theorem test_meets_send_commit :
    let s : State := { pledged .proposer 2 with link := (sendingStation (.queued 7) (.commit ⟨4, 2⟩)).link }
    s.isPledged .proposer ⟨4, 2⟩ = true ∧ s.holds.own = [] ∧ s.holds.remote = [] ∧
      s.sendsRestart ⟨.queued 7, 2, .commit ⟨4, 2⟩⟩ = false := by decide +kernel
theorem test_meets_send_duplicate :
    (Sending.mk (.notice 4) 2 (.hold 0 .duplicate none none)).isDuplicateNotice = true := by decide
theorem test_meets_send_restart :
    let s := sendingStation (.queued 8) (.answer [1#8, 0x10#8])
    s.queuedOf 8 = some ⟨8, .answer [1#8, 0x10#8] true⟩ := by decide +kernel
theorem test_meets_abort_last :
    let s := sendingStation (.queued 7) (.tally calm.ownTally)
    s.holdsItem (.queued 7) = true ∧
      ({ s.link with attempts := 15, counted := some (.queued 7) } : LinkController).failures (.queued 7) = 16 := by decide +kernel
theorem test_meets_abort_lifted :
    let s : State := { sendingStation (.notice 4) (.hold 0 .gateway none none) with holds := ⟨[], 1, [⟨4, .hold, 0, false⟩], []⟩ }
    s.noticeOf 4 = some ⟨4, .hold, 0, false⟩ ∧ s.ownHoldOfSerial 0 = none := by decide +kernel
theorem test_meets_duplicate :
    calm.addressed = true ∧ calm.link.sending = none ∧ calm.stands .duplicate = false ∧
      (holding .duplicate none none).stands .duplicate = true ∧ State.reset.holds.notices = [] := by decide +kernel
theorem test_duplicate_in_start :
    ∃ t, exec .duplicateFrame State.reset = .next t ∧ t.link.mute = true ∧ t.stands .duplicate = true :=
  ⟨_, rfl, by decide +kernel, by decide +kernel⟩

theorem test_meets_claim_room : calm.link.queue.length < 8 ∧ QueueLegal calm ∧ ¬Queued calm .tally := by
  refine ⟨by decide, by unfold QueueLegal; decide +kernel, ?_⟩
  rintro ⟨q, h, -⟩; cases h
theorem test_claim_coalesced : Queued (sendingStation (.queued 7) (.tally calm.ownTally)) .tally := ⟨⟨7, .tally⟩, by decide +kernel, rfl⟩
theorem test_claim_sheds :
    let s : State := { calm with link := { calm.link with nextItem := 9, queue := (List.range 8).map fun n => ⟨n, .recall 3⟩ } }
    (claim (.assent ⟨4, 3⟩) s).link.queue.map (fun q => q.item) = [9, 0, 1, 2, 3, 4, 5, 6] := by decide +kernel

theorem test_meets_escalate_free : calm.lockout.record.state = .none ∧ calm.lockout.copies.exhausted = false ∧ calm.lockout.inFlight = none := by
  decide +kernel
theorem test_meets_escalate_exhausted :
    (SlotCopies.mk none none (some ⟨65535, .released, .welded, none⟩) none).exhausted = true ∧
      (SlotCopies.mk none none (some ⟨65535, .active, .welded, none⟩) none).exhausted = false := by decide
theorem test_meets_escalate_release :
    (lockedOut (some (.release .b ⟨258, .released, .welded, none⟩))).lockout.record.state = .active ∧
      (lockedOut (some (.release .b ⟨258, .released, .welded, none⟩))).lockout.inFlight =
        some (.release .b ⟨258, .released, .welded, none⟩) := by decide +kernel
theorem test_meets_activeWrite :
    (lockedOut (some (.active .a ⟨258, .active, .welded, none⟩))).lockout.inFlight = some (.active .a ⟨258, .active, .welded, none⟩) ∧
      (lockedOut (some (.active .a ⟨258, .active, .welded, none⟩))).lockout.pendingWrite = false ∧
      (lockedOut (some (.active .a ⟨258, .active, .welded, none⟩))).lockout.record.attempt = 1 := by decide +kernel
theorem test_meets_releaseWrite :
    let s : State := { lockedOut (some (.release .b ⟨258, .released, .welded, none⟩)) with
      orders := { OrderHandler.atStart with memory := some ⟨7, .release, .inProgress, none⟩, awaited := some 7 } }
    s.lockout.pendingWrite = false ∧ s.orders.awaited = some 7 ∧ s.lockout.pendingEscalation = none := by decide +kernel
/-- The small station in a release write to slot B that holds serial k there, with a kept escalation and an order awaited. -/
def releasing (k : Nat) : State :=
  let w := Write.release .b ⟨k, .released, .welded, none⟩
  { lockedOut (some w) with
    lockout := { (lockedOut (some w)).lockout with pendingEscalation := some ⟨.highSevere, some 3⟩ }
    orders := { OrderHandler.atStart with memory := some ⟨8, .read, .done, none⟩, awaited := some 7 } }
theorem test_meets_release_kept :
    (releasing 258).lockout.inFlight = some (.release .b ⟨258, .released, .welded, none⟩) ∧
      (releasing 258).lockout.pendingWrite = false ∧ HasRoom (releasing 258) ∧
      ((releasing 258).lockout.copies.setLockout .b (some ⟨258, .released, .welded, none⟩)).exhausted = false ∧
      ((releasing 65535).lockout.copies.setLockout .b (some ⟨65535, .released, .welded, none⟩)).exhausted = true := by
  unfold HasRoom; decide +kernel
theorem test_release_begins_kept_lockout :
    ∃ t, exec (.releaseWriteCompletion .ok) (releasing 258) = .next t ∧ t.lockout.record = ⟨.active, 259, some .highSevere, some 3, false, 1⟩ ∧
      t.orders.memory = some ⟨8, .read, .done, none⟩ ∧ t.link.queue.map (fun q => q.claim) = [.answer [7, 0x10] false] :=
  ⟨_, rfl, by decide +kernel, by decide +kernel, by decide +kernel⟩
theorem test_meets_configWrite :
    let s : State := { lockedOut (some (.config .b ⟨4, smallConfig⟩)) with
      lockout := { (lockedOut (some (.config .b ⟨4, smallConfig⟩))).lockout with pendingWrite := true } }
    s.lockout.pendingWrite = true ∧ s.lockout.record.cause = some .welded := by decide +kernel
theorem test_config_write_answers :
    let w := Write.config .b ⟨4, smallConfig⟩
    let s : State := { calm with
      lockout := { calm.lockout with inFlight := some w }
      orders := { OrderHandler.atStart with memory := some ⟨7, .store, .inProgress, none⟩, awaited := some 7 } }
    HasRoom s ∧ ∃ t, exec (.configWriteCompletion .fail) s = .next t ∧
      t.orders.memory = some ⟨7, .store, .done, some [7, 0x22]⟩ ∧ t.link.queue.map (fun q => q.claim) = [.answer [7, 0x22] false] :=
  ⟨by unfold HasRoom; decide +kernel, _, rfl, by decide +kernel, by decide +kernel⟩

theorem test_meets_release_started :
    let s := lockedOut none
    s.lockout.record.state = .active ∧ (1#8).toNat * 256 + (2#8).toNat = s.lockout.record.serial ∧ s.lockout.inFlight = none ∧
      s.lockout.pendingWrite = false ∧ (∀ m ∈ s.monitors.records, m.state = .clear) ∧ s.stands .switch = false ∧
      s.orders.memory = none := by decide +kernel
theorem test_release_answers :
    ∃ t, exec (.release 7#8 2 [1#8, 3#8]) (lockedOut none) = .next t ∧
      t.orders.memory = some ⟨7#8, .release, .done, some [7#8, 0x24#8]⟩ := ⟨_, rfl, by decide +kernel⟩
theorem test_meets_store_pages :
    page0Of (page0Bytes smallConfig.shared) = some smallConfig.shared ∧ page1Of (page1Bytes smallConfig.cells) = some smallConfig.cells ∧
      page2Of (page2Bytes smallConfig.limits) = some smallConfig.limits ∧ page0Of (List.replicate 12 0#8) = none ∧
      page0Of [] = none := by decide +kernel
theorem test_meets_storeCommit :
    let s : State := { calm with orders := { calm.orders with page1 := some smallConfig.cells, page2 := some smallConfig.limits } }
    (storePage 0 (page0Bytes smallConfig.shared) s).isSome = true ∧ (heardState 0 s).ballot.mode = .opened ∧
      s.lockout.inFlight = none ∧ s.lockout.pendingWrite = false ∧ storePage 3 [] s = none := by
  refine ⟨by decide +kernel, by decide +kernel, by decide, by decide, rfl⟩
theorem test_meets_storeCommit_refused :
    let s : State := { closedStation with
      orders := { calm.orders with page1 := some smallConfig.cells, page2 := some smallConfig.limits } }
    (heardState 0 s).ballot.mode ≠ .opened ∧ (heardState 0 (lockedOut (some (.config .b ⟨4, smallConfig⟩)))).ballot.mode = .opened ∧
      (lockedOut (some (.config .b ⟨4, smallConfig⟩))).lockout.inFlight.isSome = true := by decide +kernel
theorem test_unfit_orders :
    ([.orderFree 7 2 [1], .reclose 7 2 [1], .pauseBleed 7 2 [1], .resumeBleed 7 2 [1], .release 7 2 [1, 2, 3], .store 7 2 [0],
      .readLockout 7 2 [0], .orderOfUnknownKind 7 2 11 (List.replicate 26 0), .readOfUnknownRecord 7 2 [11]] : List Instr).all
        (fun c => match exec c calm with
          | .next t => decide ((t.orders.memory.bind fun m => m.answer) = some [7, 0x40])
          | _ => false) = true := by decide +kernel
theorem test_meets_reads :
    ((heardState 0 calm).samplesRecord 0).isSome = true ∧ ((heardState 0 calm).samplesRecord 1).isSome = true ∧
      ((heardState 0 calm).monitors.records.find? (fun m => decide (m.number = 24))).isSome = true ∧
      (∀ m ∈ (heardState 0 calm).monitors.records, m.number ≠ 5) ∧ ((heardState 0 calm).configRecord 2).isSome = true ∧
      (heardState 0 calm).configRecord 3 = none := by decide +kernel
theorem test_meets_restart_mute :
    TakesNewOrder { calm with link := { calm.link with mute := true } } 7#8 2 :=
  takesNewOrder_of_empty _ 7#8 2 (by unfold TakesFrom; decide +kernel) (by decide) (by decide) (by decide)
theorem test_meets_repeat :
    payloadOfOrder (.orderOpen 7#8 2 []) = some [7#8, 2#8, 2#8] ∧ (Instr.orderOpen 7#8 2 []).wellFormed = true ∧
      (2#8).toNat = calm.own ∧ payloadOfOrder (.readRoster 7#8 31 [24#8, 1#8]) = some [7#8, 31#8, 1#8, 6#8, 24#8, 1#8] := by
  decide +kernel
theorem test_meets_bytes :
    (Instr.commit 3 ⟨258, 3⟩).wellFormed = true ∧
      wireOfCommand (.commit 3 ⟨258, 3⟩) = some (checked [3#8, 9#8, 5#8, 0#8, 0#8, 1#8, 2#8, 3#8]) := by decide +kernel

theorem test_meets_invariants_mode :
    SwitchFollowsMode closedStation ∧ BallotRecordLegal closedStation ∧ ClosedHoldsNothing closedStation ∧ PlanLegal calm ∧
      OwnKeysDistinct (holding .gateway none none) := by
  unfold SwitchFollowsMode BallotRecordLegal ClosedHoldsNothing PlanLegal OwnKeysDistinct; decide +kernel
theorem test_meets_invariants_link : QueueLegal calm ∧ MuteIsSilent calm ∧ LinkLegal calm := by
  unfold QueueLegal MuteIsSilent LinkLegal; decide +kernel
theorem test_meets_invariants_roster :
    RosterShaped calm ∧ OwnEntryPresent calm ∧ RemoteTableLegal calm ∧ UnaddressedIdle calm := by
  unfold RosterShaped OwnEntryPresent RemoteTableLegal UnaddressedIdle; decide +kernel
theorem test_meets_no_lockout_yet :
    State.reset.addressed = true ∧ NoLockoutYet State.reset ∧ NoLockoutYet (starting false true) ∧
      State.reset.pending.head? ≠ some .settleCheckExpiry ∧ State.reset.dueExpiry ≠ some .settleCheckExpiry := by
  unfold NoLockoutYet; decide +kernel
theorem test_meets_invariants_config : ConfigLegal calm := by unfold ConfigLegal; decide +kernel
theorem test_meets_invariants_lockout : LockoutInStep (lockedOut none) ∧ LockoutInStep calm := by
  unfold LockoutInStep; decide +kernel
theorem test_meets_invariants_store : StoreLegal calm := by
  refine
  ⟨by decide, fun w h => by (simp [calm, LockoutUnit.atStart] at h), fun h => by (simp [calm, LockoutUnit.atStart] at h)⟩
theorem test_meets_invariants_ages : RosterLegal calm := by
  refine ⟨by unfold ConfigLegal; decide +kernel, by decide +kernel, ?_⟩
  have h : calm.roster.entries.all (fun e =>
      (decide (e.state = .vacant ∧ e.age = 0) || decide (e.state = .present ∧ e.age ≤ 1)) && decide (e.state ≠ .lost)) = true := by
    decide +kernel
  intro e he
  have g := List.all_eq_true.mp h e he
  rw [Bool.and_eq_true, Bool.or_eq_true, decide_eq_true_eq, decide_eq_true_eq, decide_eq_true_eq] at g
  refine ⟨?_, fun k => absurd k g.2⟩
  rcases g.1 with ⟨a, b⟩ | ⟨a, b⟩ <;> (unfold RosterEntry.ageLegal; rw [a]; exact b)

/-- The hypotheses of the claims that every step keeps the invariants, together. -/
theorem test_meets_mode_and_plan :
    SwitchFollowsMode calm ∧ BallotRecordLegal calm ∧ ClosedHoldsNothing calm ∧ PlanLegal calm ∧ OwnKeysDistinct calm ∧
      MonitorsShaped calm := by
  unfold SwitchFollowsMode BallotRecordLegal ClosedHoldsNothing PlanLegal OwnKeysDistinct MonitorsShaped; decide +kernel
theorem test_meets_roster_laws :
    RosterShaped calm ∧ OwnEntryPresent calm ∧ RosterLegal calm ∧ RemoteTableLegal calm ∧ UnaddressedIdle calm :=
  ⟨test_meets_invariants_roster.1, test_meets_invariants_roster.2.1, test_meets_invariants_ages,
    test_meets_invariants_roster.2.2.1, test_meets_invariants_roster.2.2.2⟩
theorem test_meets_store_laws : StoreLegal calm ∧ LockoutInStep calm :=
  ⟨test_meets_invariants_store, test_meets_invariants_lockout.2⟩

/-- The small station with member 3 gone STALE: not ready until 3 is heard again. -/
def stale : State :=
  { calm with
    ballot := { calm.ballot with settle := .stopped }
    roster := { calm.roster with
      entries := calm.roster.entries.map fun e => if e.address = 3 then { e with state := .stale, age := 2 } else e } }

theorem test_turns_ready :
    stale.ready = false ∧ ∃ t, exec (.tally 3 openSummary) stale = .next t ∧ t.ready = true ∧
      t.cfg.shared.policy = .auto ∧ t.ballot.settle = Timer.startMs 2000 :=
  ⟨by decide +kernel, _, rfl, by decide +kernel, by decide +kernel, by decide +kernel⟩

/-- The small station with an entry of the gateway, which its string requires or not. -/
def gatewayStation (required : Bool) (e : RosterEntry) (settle : Timer) : State :=
  let c : ConfigRecord := { smallConfig with shared := { smallConfig.shared with gatewayRequired := required } }
  let d := stringDigest c.shared
  { calm with
    startup := { calm.startup with config := some ⟨c, 3, .slotA⟩, digest := d }
    ballot := { calm.ballot with settle := settle }
    roster := { calm.roster with entries := calm.roster.entries.map fun x =>
      if x.address = 0 then e else { x with summary := x.summary.map fun t => { t with digest := d } } } }

/-- Readiness is judged when an input changes, not at the event's end (R54): a READ BALLOT that makes a required STALE gateway
PRESENT already shows ready and the settle timer running (flags 2 and 4, before the duty station's byte). -/
theorem test_ready_within_event :
    let s := gatewayStation true { RosterEntry.vacant 0 with state := .stale, age := 2 } .stopped
    s.ready = false ∧ ∃ t, exec (.readBallot 7 2 [0, 0]) s = .next t ∧
      ((t.orders.memory.bind fun m => m.answer).bind fun p => p[17]?) = some 6 ∧ t.ballot.settle = Timer.startMs 2000 :=
  ⟨by decide +kernel, _, rfl, by decide +kernel, by decide +kernel⟩

/-- A LOST gateway whose announce data disagrees, back by a TALLY that agrees: the station is not ready from the hearing to the
summary, so the settle timer begins its length again (R54). -/
theorem test_ready_lost_and_regained :
    let s := gatewayStation false { RosterEntry.vacant 0 with state := .lost, age := 5, announced := some ⟨1, 4, 7⟩ } (.running 2000000 5)
    s.ready = true ∧ ∃ t, exec (.tally 0 { openSummary with digest := s.startup.digest }) s = .next t ∧
      t.ready = true ∧ t.ballot.settle = Timer.startMs 2000 :=
  ⟨by decide +kernel, _, rfl, by decide +kernel, by decide +kernel⟩
theorem test_meets_supersedes : (⟨7, 2⟩ : Ballot) ≠ ⟨7, 5⟩ ∧ realBallot ⟨1, 24⟩ = true ∧ realBallot ⟨1, 1⟩ = true := by decide
theorem test_meets_own_tally_closed :
    closedStation.isMember closedStation.own = true ∧ closedStation.ballot.mode = .closed ∧
      closedStation.ballot.current = some closedStation.ownTally.ballot ∧ closedStation.ownTally.mode = .closed := by
  decide +kernel

/-- The small station with a remembered order. -/
def remembering (status : OrderStatus) : State :=
  { calm with orders := { calm.orders with memory := some ⟨7#8, .openOrder, status, some [7#8, 0x10#8]⟩ } }

theorem test_meets_repeat_memory :
    (remembering .done).orders.memory = some ⟨7#8, .openOrder, .done, some [7#8, 0x10#8]⟩ ∧
      (remembering .done).link.mute = false ∧ TakesFrom (remembering .done) 0 ∧ HasRoom (remembering .done) := by
  unfold TakesFrom HasRoom; decide +kernel
theorem test_repeat_is_answered :
    ∃ t, exec (.pauseBleed 7#8 2 []) (remembering .done) = .next t ∧ t.plan.paused = false ∧
      t.link.queue.map (fun q => q.claim) = [.answer [7#8, 0x10#8] false] := ⟨_, rfl, by decide +kernel, by decide +kernel⟩

/-! ## Straps, senders, notices, returns -/

/-- A strap moved while the station runs takes effect at the RESTART start, on a MUTE station in the order's own event (R161, R205). -/
theorem test_restart_reads_moved_straps :
    let s : State := { calm with pins := ⟨⟨2, [9, 0]⟩, .opened⟩, link := { calm.link with mute := true } }
    ∃ t, exec (.restart 7 2 []) s = .next t ∧ t.own = 9 ∧ t.pins = ⟨⟨9, [0]⟩, .opened⟩ ∧ t.link.mute = false :=
  ⟨_, rfl, by decide +kernel, by decide +kernel, by decide +kernel⟩
theorem test_send_bears_own_address :
    let s : State := { calm with link := { calm.link with wait := some ⟨.routine, 0⟩, queue := [⟨7, .recall 3⟩] } }
    ∃ t, exec .accessWaitExpiry s = .next t ∧ t.link.sending = some ⟨.queued 7, 2, .recall 3⟩ ∧
      (Sending.mk (.queued 7) 2 (.recall 3)).wire.take 4 = [2, 5, 1, 3] := ⟨_, rfl, by decide +kernel, by decide +kernel⟩

/-- The small station with a full notice list whose oldest LIFT notice is on the line. -/
def fullList : State :=
  { calm with
    holds := { calm.holds with notices := (List.range 64).map fun n => ⟨n, if n < 31 then .hold else .lift, BitVec.ofNat 8 n, false⟩ }
    link := { calm.link with nextItem := 64, sending := some ⟨.notice 31, 2, .lift 31⟩, medium := .busy } }
theorem test_full_list_gives_way :
    let t := raiseHold .gateway none none fullList
    fullList.holds.notices.length = 64 ∧ t.holds.notices.length = 64 ∧
      (t.holds.notices.drop 30).take 3 = [⟨30, .hold, 30, false⟩, ⟨31, .lift, 31, false⟩, ⟨33, .lift, 33, false⟩] ∧
      t.holds.notices.getLast? = some ⟨64, .hold, 0, false⟩ := by decide +kernel
theorem test_meets_return :
    let s : State := { calm with roster := { calm.roster with
      entries := calm.roster.entries.map fun e => if e.address = 3 then { e with state := .lost, age := 5, summary := none } else e } }
    (s.entry 3).state = .lost ∧ (s.entry 3).recallPending = false ∧ HasRoom s ∧ TakesFrom s 3 ∧ RosterShaped s ∧
      ∃ t, exec (.hold 3 9 .gateway none none) s = .next t ∧ Queued t (.recall 3) ∧ t.stands .link = false ∧
        t.holds.remote = [⟨3, 9, .gateway, none, none, 0⟩] :=
  ⟨by decide +kernel, by decide +kernel, by unfold HasRoom; decide +kernel, by unfold TakesFrom; decide +kernel,
    by unfold RosterShaped; decide +kernel, _, rfl, ⟨⟨0, .recall 3⟩, by decide +kernel, rfl⟩, by decide +kernel, by decide +kernel⟩

/-! ## Slots, the own TALLY, answers -/

theorem test_newest_ties :
    [(LockoutSlot.mk 7 .active .welded none, LockoutSlot.mk 7 .active .hotSevere none), (⟨7, .active, .welded, none⟩, ⟨7, .released, .welded, none⟩),
      (⟨7, .released, .welded, none⟩, ⟨7, .active, .welded, none⟩), (⟨8, .active, .welded, none⟩, ⟨7, .released, .welded, none⟩)].map
        (fun p => (SlotCopies.newest ⟨none, none, some p.1, some p.2⟩).map Prod.fst) = [some .a, some .b, some .a, some .a] := by decide
/-- A configuration slot at the ends of its generation's range and with one field beside its range (R142, R173). -/
theorem test_config_slot_edges :
    [(0, smallConfig), (1, smallConfig), (65535, smallConfig), (65536, smallConfig),
      (1, { smallConfig with limits := { smallConfig.limits with dieLimit := 499 } }),
      (1, { smallConfig with shared := { smallConfig.shared with tallyPeriod := 525 } })].map
        (fun p => (validConfigSlot (.written ⟨p.1, p.2⟩)).isSome) = [false, true, true, false, false, false] := by decide +kernel
theorem test_meets_join_read_active :
    let s : State := { starting false true with store := { calm.store with lockoutA := .written ⟨5, .active, .welded, none⟩ } }
    s.store.judged.newest = some (.a, ⟨5, .active, .welded, none⟩) ∧
      ∃ t, exec .storeReadCompletion s = .next t ∧ t.startup.config = some ⟨smallConfig, 3, .slotA⟩ ∧
        t.lockout.record = ⟨.active, 5, some .welded, none, true, 0⟩ :=
  ⟨by decide +kernel, _, rfl, by decide +kernel, by decide +kernel⟩
theorem test_own_tally :
    calm.ownTally.minCell = some 3400 ∧ calm.ownTally.maxCell = some 3400 ∧ calm.ownTally.moduleSum = some 13600 ∧
      calm.ownTally.maxTemperature = some 250 ∧ calm.ownTally.presentCount = 3 ∧ calm.sweep.latest.isSome = true := by decide +kernel
theorem test_third_expiry :
    let s : State := { calm with ballot := { calm.ballot with mode := .join }, roster := { calm.roster with expiries := 2, joinComplete := false } }
    ∃ t, exec .tallyTimerExpiry s = .next t ∧ t.roster.expiries = 3 ∧ t.roster.joinComplete = true ∧ t.ballot.mode = .opened :=
  ⟨_, rfl, by decide +kernel, by decide +kernel, by decide +kernel⟩
/-- RELEASE beside a monitor that is not CLEAR: REFUSED(CONDITION), remembered and claimed (R150, R202). -/
theorem test_release_condition :
    let s : State := { lockedOut none with monitors := { calm.monitors with
      records := calm.monitors.records.map fun m => { m with state := .counting, count := 1 } } }
    HasRoom s ∧ ∃ t, exec (.release 7 2 [1, 2]) s = .next t ∧ t.orders.memory = some ⟨7, .release, .done, some [7, 0x25]⟩ ∧
      t.link.queue.map (fun q => q.claim) = [.answer [7, 0x25] false] :=
  ⟨by unfold HasRoom; decide +kernel, _, rfl, by decide +kernel, by decide +kernel⟩

/-! ## LINK in step, the newest ROUTINE frame, page edges, repeats on a MUTE station -/

theorem test_meets_touches : (Instr.store 7 2 [0#8, 0#8]).wellFormed = true ∧ Instr.frameStart.wellFormed = true ∧
    Block.lockout ∉ touches (.store 7 2 [0#8, 0#8]) := by decide
/-- The small station with LINK standing for its member 3, which is LOST. -/
def linkLost : State :=
  { holding .link none none with
    roster := { calm.roster with entries := calm.roster.entries.map fun e =>
      if e.address = 3 then { e with state := .lost, age := 5, summary := none } else e } }
theorem test_meets_link_in_step : LinkInStep calm ∧ LinkInStep linkLost ∧ linkLost.missing = [3] ∧ TakesFrom linkLost 1 := by
  unfold LinkInStep TakesFrom; decide +kernel
theorem test_recall_leaves_notice :
    ∃ t, exec (.recall 1 2) linkLost = .next t ∧ t.holds.own = linkLost.holds.own ∧
      t.holds.notices.map (fun x => (x.kind, x.serial)) = [(.hold, 0)] := ⟨_, rfl, by decide +kernel, by decide +kernel⟩

/-- A full queue: ROUTINE frames 0 to 7, the newest on the line. -/
def fullQueue : State :=
  { calm with link := { calm.link with
    nextItem := 9, sending := some ⟨.queued 7, 2, .recall 3⟩, medium := .busy, queue := (List.range 8).map fun n => ⟨n, .recall 3⟩ } }
theorem test_meets_claim_newest :
    fullQueue.link.queue = ((List.range 6).map fun n => ⟨n, .recall 3⟩) ++ ⟨6, .recall 3⟩ :: [⟨7, .recall 3⟩] ∧
      fullQueue.link.onLine (.queued 6) = false ∧ fullQueue.link.onLine (.queued 7) = true ∧ QueueLegal fullQueue ∧
      (claim (.assent ⟨4, 3⟩) fullQueue).link.queue.map (fun q => q.item) = [9, 0, 1, 2, 3, 4, 5, 7] := by
  unfold QueueLegal; decide +kernel

/-- Page 0 one byte short or long, and each of its fields just outside its range (R173, R206). -/
theorem test_page0_edges :
    let c := smallConfig.shared
    page0Of ((page0Bytes c).take 11) = none ∧ page0Of (page0Bytes c ++ [0#8]) = none ∧
      ([{ c with size := 1 }, { c with size := 25 }, { c with tallyPeriod := 50 }, { c with tallyPeriod := 2050 },
        { c with tallyPeriod := 525 }, { c with lostAge := 2 }, { c with lostAge := 16 }, { c with budget := 121 },
        { c with margin := 4 }, { c with margin := 101 }, { c with settleTime := 499 }, { c with settleTime := 30001 },
        { c with proposalTime := 99 }, { c with proposalTime := 2001 }] : List StringParams).all
          (fun d => (page0Of (page0Bytes d)).isNone) = true ∧
      page0Of (page0Bytes { c with size := 24, lostAge := 15, budget := 120, margin := 100, settleTime := 30000 }) =
        some { c with size := 24, lostAge := 15, budget := 120, margin := 100, settleTime := 30000 } := by decide +kernel
/-- A flag or policy byte of no meaning (R173). -/
theorem test_page0_codes :
    [(1, 2#8), (7, 3#8)].all (fun p => (page0Of ((page0Bytes smallConfig.shared).set p.1 p.2)).isNone) = true := by decide +kernel
theorem test_page1_page2_edges :
    page1Of ((page1Bytes smallConfig.cells).take 16) = none ∧ page2Of (page2Bytes smallConfig.limits ++ [0#8]) = none ∧
      page1Of (page1Bytes { smallConfig.cells with lowLevel := 4501 }) = none ∧
      page2Of (page2Bytes { smallConfig.limits with coldLevel := -401 }) = none ∧
      page2Of (page2Bytes { smallConfig.limits with coldLevel := -400 }) = some { smallConfig.limits with coldLevel := -400 } := by
  decide +kernel

/-- A MUTE station that holds an answer to order 7 of a kind, its strap moved to 9. -/
def muteRemembering (k : OrderKind) : State :=
  { calm with
    pins := ⟨⟨2, [9]⟩, .opened⟩, link := { calm.link with mute := true }
    orders := { calm.orders with memory := some ⟨7#8, k, .done, some [7#8, 0x10#8]⟩ } }
/-- A repeat of a RESTART starts the MUTE station; a repeat of any other order does and claims nothing (R205, R192). -/
theorem test_mute_repeats :
    (∃ t, exec (.orderOpen 7 2 []) (muteRemembering .restart) = .next t ∧ t.ballot.mode = .start ∧ t.own = 9 ∧
      t.orders.memory = none ∧ t.link.mute = false) ∧
      (muteRemembering .read).link.mute = true ∧ TakesFrom (muteRemembering .read) 0 ∧
      ∃ t, exec (.restart 7 2 []) (muteRemembering .read) = .next t ∧ t.ballot.mode = .opened ∧ t.own = 2 ∧ t.link.queue = [] :=
  ⟨⟨_, rfl, by decide +kernel, by decide +kernel, by decide +kernel, by decide +kernel⟩, by decide, by unfold TakesFrom; decide +kernel,
    _, rfl, by decide +kernel, by decide +kernel, by decide +kernel⟩

/-! ## Due expiries, the view, readiness, superseding ballots, full tables -/

theorem test_due_wait :
    ({ calm with link := { calm.link with wait := some ⟨.routine, 0⟩ } } : State).dueExpiry = some .accessWaitExpiry ∧
      ({ calm with link := { calm.link with wait := some ⟨.routine, 1⟩ } } : State).dueExpiry = none ∧
      ({ calm with switch := { calm.switch with check := some ⟨.command, .running 9 0⟩ } } : State).dueExpiry =
        some .settleCheckExpiry := by decide +kernel
/-- A STALE member's min cell and demand count; a LOST one adds 5 and no min cell (R20, R21). -/
theorem test_floor_and_demand :
    calm.floor = some 3400 ∧ calm.totalDemand = 0 ∧ stale.floor = some 3400 ∧ stale.totalDemand = 0 ∧
      linkLost.totalDemand = 5 ∧ State.reset.floor = none := by decide +kernel
/-- Past join complete a VACANT gateway is missing where the string requires one, and only there (R19). -/
theorem test_missing_gateway :
    (gatewayStation true (RosterEntry.vacant 0) .stopped).missing = [0] ∧
      (gatewayStation false (RosterEntry.vacant 0) .stopped).missing = [] := by decide +kernel
/-- Announce data counts for DISCORD where no summary stands, and only of a PRESENT or STALE entry (R4, R24). -/
theorem test_discord_announced :
    let e : RosterEntry := { RosterEntry.vacant 0 with state := .stale, age := 2, announced := some ⟨1, 4, 7⟩ }
    (gatewayStation false e .stopped).discord = true ∧
      (gatewayStation false { e with summary := some { goodTally with digest := stringDigest smallConfig.shared } } .stopped).discord =
        false ∧
      (gatewayStation false { e with state := .lost, age := 5 } .stopped).discord = false ∧ calm.discord = false := by
  decide +kernel
/-- Readiness without one of its conditions each (R53). -/
theorem test_ready_conditions :
    let other := fun (f : Summary → Summary) => ({ calm with roster := { calm.roster with
      entries := calm.roster.entries.map fun e => if e.address = 3 then { e with summary := e.summary.map f } else e } } : State)
    calm.ready = true ∧ stale.ready = false ∧ (holding .gateway none none).ready = false ∧ (pledged .voter 3).ready = false ∧
      (other fun t => { t with holdCount := 1 }).ready = false ∧ (other fun t => { t with lockoutSerial := 1 }).ready = false ∧
      (other fun t => { t with digest := t.digest + 1 }).ready = false ∧ (other fun t => { t with mode := .pledged }).ready = false ∧
      ({ calm with ballot := { calm.ballot with highest := ⟨4294967295, 1⟩ } } : State).ready = false ∧
      ({ calm with ballot := { calm.ballot with highest := ⟨4294967294, 1⟩ } } : State).ready = true := by decide +kernel
/-- A TALLY and a frame start keep the settle timer of a ready station (R54). -/
theorem test_ready_keeps_timer :
    let s : State := { calm with ballot := { calm.ballot with settle := .running 9 4 } }
    TakesFrom s 3 ∧ (s.entry 3).state = .present ∧ s.wouldReplace openSummary.ballot = false ∧
      frameValid 3 (.tally openSummary) = true ∧ openSummary.digest = s.startup.digest ∧
      (∃ t, exec (.tally 3 openSummary) s = .next t ∧ t.ready = true ∧ t.ballot.settle = .running 9 4) ∧
      ∃ t, exec .frameStart s = .next t ∧ t.ready = true ∧ t.ballot.settle = .running 9 4 :=
  ⟨by unfold TakesFrom; decide +kernel, by decide +kernel, by decide +kernel, by decide +kernel, by decide +kernel,
    ⟨_, rfl, by decide +kernel, by decide +kernel⟩, _, rfl, by decide +kernel, by decide +kernel⟩
theorem test_meets_superseding :
    TakesFrom (pledged .proposer 2) 3 ∧ BallotRecordLegal (pledged .proposer 2) ∧ BallotRecordLegal closedStation ∧
      (pledged .proposer 2).wouldReplace ⟨5, 1⟩ = true ∧ closedStation.wouldReplace ⟨4, 2⟩ = true ∧
      closedStation.wouldReplace ⟨4, 3⟩ = false ∧ closedStation.wouldReplace ⟨9, 25⟩ = false ∧
      frameValid 3 (.demur ⟨5, 1⟩ .holds) = true ∧ frameValid 3 (.withdraw ⟨4, 2⟩) = true ∧ HasRoom (pledged .proposer 2) := by
  unfold TakesFrom BallotRecordLegal HasRoom; decide +kernel
/-- A superseding ballot in any ballot frame breaks a CLOSED station and makes a proposer withdraw (R51, R52). -/
theorem test_superseded_leaves :
    ([.assent 3 ⟨5, 1⟩, .demur 3 ⟨5, 1⟩ .holds, .commit 3 ⟨5, 1⟩, .withdraw 3 ⟨5, 1⟩, .tally 3 { openSummary with ballot := ⟨5, 1⟩ }]
      : List Instr).all (fun c =>
        (match exec c closedStation with
          | .next t => decide (t.ballot.mode = .opened ∧ t.ballot.current = none ∧ t.ballot.highest = ⟨5, 1⟩ ∧
              t.switch.command = .opened ∧ t.ballot.confirm = .stopped)
          | _ => false) &&
          match exec c (pledged .proposer 2) with
          | .next t => decide (t.ballot.mode = .opened ∧ t.ballot.votes = [] ∧ t.ballot.proposal = .stopped ∧
              t.link.queue.map (fun q => q.claim) = [.withdraw ⟨4, 2⟩])
          | _ => false) = true := by decide +kernel
/-- The small station with a full remote hold table of another member, whose recall pending is so. -/
def fullTable (pending : Bool) : State :=
  { calm with
    holds := ⟨[], 0, [], (List.range 48).map fun n => remoteHold (BitVec.ofNat 8 n)⟩
    roster := { calm.roster with entries := calm.roster.entries.map fun e =>
      if e.address = 3 then { e with recallPending := pending } else e } }
theorem test_full_table_recalls :
    (∃ t, exec (.hold 3 99 .gateway none none) (fullTable false) = .next t ∧ t.holds.remote = [] ∧ Queued t (.recall 3)) ∧
      (∃ t, exec (.hold 3 99 .gateway none none) (fullTable true) = .next t ∧ t.holds.remote = (fullTable true).holds.remote ∧
        t.link.queue = []) ∧
      ∃ t, exec (.hold 1 99 .gateway none none) (fullTable false) = .next t ∧ t.holds.remote = (fullTable true).holds.remote ∧
        Queued t (.recall 1) :=
  ⟨⟨_, rfl, by decide +kernel, ⟨⟨0, .recall 3⟩, by decide +kernel, rfl⟩⟩, ⟨_, rfl, by decide +kernel, by decide +kernel⟩,
    _, rfl, by decide +kernel, ⟨⟨0, .recall 1⟩, by decide +kernel, rfl⟩⟩
/-- A RECALL adds a replay notice for each own hold without a HOLD notice, in raise order, and none for one that has it (R45). -/
theorem test_recall_appends_in_order :
    let s : State := { calm with holds := ⟨[⟨4, .gateway, none, none, 5⟩, ⟨2, .config, none, none, 6⟩, ⟨3, .send, none, none, 7⟩], 5,
      [⟨9, .lift, 1, false⟩, ⟨10, .hold, 2, false⟩], []⟩ }
    (takeRecall s.own s).holds.notices.map (fun n => (n.kind, n.serial, n.replay)) =
        [(.lift, 1, false), (.hold, 2, false), (.hold, 4, true), (.hold, 3, true)] ∧
      s.holds.notices.length + s.holds.own.length ≤ 64 := by decide +kernel
theorem test_write_targets :
    (SlotCopies.mk none none (some ⟨7, .active, .welded, none⟩) none).lockoutTarget = .b ∧
      (SlotCopies.mk none none none (some ⟨7, .active, .welded, none⟩)).lockoutTarget = .a ∧
      (SlotCopies.mk none none none none).lockoutTarget = .a ∧ calm.configTarget = .b ∧ State.reset.configTarget = .a := by
  decide +kernel

end Sys2Proof.Tests
end

/-! Proofs about the order of ballots (R50). -/

namespace Sys2Proof.Machine

/-! ### When one ballot supersedes another -/

theorem supersedes_iff (x y : Ballot) :
    supersedes x y = true ↔ y.epoch < x.epoch ∨ x.epoch = y.epoch ∧ x.proposer < y.proposer := by
  simp [supersedes]

theorem supersedes_eq_false_iff (x y : Ballot) :
    supersedes x y = false ↔ ¬ (y.epoch < x.epoch ∨ x.epoch = y.epoch ∧ x.proposer < y.proposer) := by
  rw [← supersedes_iff, Bool.not_eq_true]

theorem realBallot_iff (b : Ballot) :
    realBallot b = true ↔ 1 ≤ b.epoch ∧ 1 ≤ b.proposer ∧ b.proposer ≤ 24 := by
  simp [realBallot]

/-- A real ballot's epoch is at least 1, so it wins by its epoch. -/
theorem supersedes_none_of_realBallot {x : Ballot} (hx : realBallot x = true) :
    supersedes x Ballot.none = true := by
  obtain ⟨hepoch, -, -⟩ := (realBallot_iff x).1 hx
  exact (supersedes_iff x Ballot.none).2 (.inl hepoch)

@[simp] theorem supersedes_self (x : Ballot) : supersedes x x = false := by
  rw [supersedes_eq_false_iff]
  omega

theorem supersedes_asymm {x y : Ballot} (hxy : supersedes x y = true) : supersedes y x = false := by
  rw [supersedes_iff] at hxy
  rw [supersedes_eq_false_iff]
  omega

/-- Trichotomy: ballots of which neither supersedes the other agree in epoch, and then in proposer. -/
theorem eq_of_not_supersedes {x y : Ballot} (hxy : supersedes x y = false) (hyx : supersedes y x = false) :
    x = y := by
  rw [supersedes_eq_false_iff] at hxy hyx
  have hepoch : x.epoch = y.epoch := by omega
  have hproposer : x.proposer = y.proposer := by omega
  exact congrArg₂ Ballot.mk hepoch hproposer

theorem supersedes_iff_not_supersedes_of_ne {x y : Ballot} (hne : x ≠ y) :
    supersedes x y = true ↔ supersedes y x = false := by
  refine ⟨supersedes_asymm, fun hyx => ?_⟩
  by_contra hxy
  exact hne (eq_of_not_supersedes (Bool.eq_false_of_not_eq_true hxy) hyx)

/-- Settles O23: the definition read as an order (R50), whose asymmetry and trichotomy give the last clause. The namespace
keeps the name apart from the model's `supersedes`. -/
theorem Proofs.supersedes : Obligations.Supersedes := fun x y =>
  ⟨supersedes_iff x y, supersedes_none_of_realBallot, supersedes_self x, supersedes_iff_not_supersedes_of_ne⟩

end Sys2Proof.Machine

/-! Proofs about the classes and the severity of the monitors' readings (R92 to R97). -/

namespace Sys2Proof.Machine

/-! ### The bands of a judged reading

Every table of section 5.3 for a value that could be judged has the same rows: CROSSING on one side of a level, and on the other
EASING or BETWEEN by a second comparison. -/

/-- The rows of such a table, where `within` and `short` word the failure of the two comparisons. -/
theorem bands_of_eq_ite {crosses eases within short : Prop} [Decidable crosses] [Decidable eases] {k : MonitorClass}
    (hk : k = if crosses then .crossing else if eases then .easing else .between)
    (hwithin : within → ¬ crosses) (hshort : short → ¬ eases) :
    (crosses → k = .crossing) ∧ (within → eases → k = .easing) ∧ (within → short → k = .between) := by
  refine ⟨fun hc => ?_, fun hw he => ?_, fun hw hs => ?_⟩
  · rw [hk, if_pos hc]
  · rw [hk, if_neg (hwithin hw), if_pos he]
  · rw [hk, if_neg (hwithin hw), if_neg (hshort hs)]

theorem classifyHigh_some (p : CellParams) (v : Nat) :
    (p.highLevel < v → classifyHigh p (some v) = .crossing) ∧
      (v ≤ p.highLevel → (v : Int) ≤ (p.highLevel : Int) - p.hysteresis → classifyHigh p (some v) = .easing) ∧
      (v ≤ p.highLevel → (p.highLevel : Int) - p.hysteresis < v → classifyHigh p (some v) = .between) :=
  bands_of_eq_ite rfl not_lt.2 not_le.2

theorem classifyLow_some (p : CellParams) (v : Nat) :
    (v < p.lowLevel → classifyLow p (some v) = .crossing) ∧
      (p.lowLevel ≤ v → p.lowLevel + p.hysteresis ≤ v → classifyLow p (some v) = .easing) ∧
      (p.lowLevel ≤ v → v < p.lowLevel + p.hysteresis → classifyLow p (some v) = .between) :=
  bands_of_eq_ite rfl not_lt.2 not_le.2

theorem classifyHot_some (p : LimitParams) (v : Int) :
    (p.hotLevel < v → classifyHot p (some v) = .crossing) ∧
      (v ≤ p.hotLevel → v ≤ p.hotLevel - p.hysteresis → classifyHot p (some v) = .easing) ∧
      (v ≤ p.hotLevel → p.hotLevel - p.hysteresis < v → classifyHot p (some v) = .between) :=
  bands_of_eq_ite rfl not_lt.2 not_le.2

theorem classifyCold_some (p : LimitParams) (v : Int) :
    (v < p.coldLevel → classifyCold p (some v) = .crossing) ∧
      (p.coldLevel ≤ v → p.coldLevel + p.hysteresis ≤ v → classifyCold p (some v) = .easing) ∧
      (p.coldLevel ≤ v → v < p.coldLevel + p.hysteresis → classifyCold p (some v) = .between) :=
  bands_of_eq_ite rfl not_lt.2 not_le.2

theorem classifySum_some (tolerance moduleSum total : Nat) :
    let d := ((moduleSum : Int) - total).natAbs
    (tolerance < d → classifySum tolerance moduleSum (some total) = .crossing) ∧
      (d ≤ tolerance → d ≤ tolerance / 2 → classifySum tolerance moduleSum (some total) = .easing) ∧
      (d ≤ tolerance → tolerance / 2 < d → classifySum tolerance moduleSum (some total) = .between) :=
  bands_of_eq_ite rfl not_lt.2 not_le.2

/-! ### The input of each kind -/

/-- HOT's input joins the valid thermistors by their maximum (R95). -/
theorem SampleSet.hotter_eq_merge (x : SampleSet) : x.hotter = x.t1.merge max x.t2 := by
  unfold SampleSet.hotter
  cases x.t1 <;> cases x.t2 <;> rfl

/-- COLD's input joins the valid thermistors by their minimum (R96). -/
theorem SampleSet.colder_eq_merge (x : SampleSet) : x.colder = x.t1.merge min x.t2 := by
  unfold SampleSet.colder
  cases x.t1 <;> cases x.t2 <;> rfl

/-- Of two valid thermistors the pick is taken, of one valid one that one. -/
theorem merge_eq_some_of_valid {t1 t2 : Option Int} {pick : Int → Int → Int} {v : Int}
    (hv : (∃ a b, t1 = some a ∧ t2 = some b ∧ v = pick a b) ∨ (t1 = some v ∧ t2 = none) ∨ (t1 = none ∧ t2 = some v)) :
    t1.merge pick t2 = some v := by
  rw [Option.merge_eq_some_iff]
  obtain ⟨a, b, h1, h2, hpick⟩ | hfirst | hsecond := hv
  · exact .inr (.inr ⟨a, b, h1, h2, hpick.symm⟩)
  · exact .inl hfirst
  · exact .inr (.inl hsecond)

theorem lowestOpenTap_isSome_iff (s : State) (x : SampleSet) :
    (s.lowestOpenTap x).isSome = true ↔ ∃ k ∈ s.fittedTaps, x.isOpen k = true := by
  rw [State.lowestOpenTap, List.find?_isSome]

/-- SUM's input as a sum of readings that may be absent, which one absent reading makes absent (R97). -/
theorem fittedSum_eq_foldl (x : SampleSet) (cells : List Nat) :
    fittedSum x cells = (cells.map x.cell).foldl (Option.map₂ (· + ·)) (some 0) := by
  rw [List.foldl_map, fittedSum]
  congr 1
  funext acc c
  cases acc <;> cases x.cell c <;> rfl

theorem foldl_add_eq_none_of_mem {readings : List (Option Nat)} (hnone : none ∈ readings) (acc : Option Nat) :
    readings.foldl (Option.map₂ (· + ·)) acc = none := by
  induction readings generalizing acc with
  | nil => cases hnone
  | cons r rs ih =>
    rw [List.foldl_cons]
    rcases List.mem_cons.1 hnone with hr | hrs
    · rw [← hr, Option.map₂_none_right]
      exact List.foldl_fixed' (fun _ => rfl) rs
    · exact ih hrs _

theorem foldl_add_map_some (values : List Nat) (a : Nat) :
    (values.map some).foldl (Option.map₂ (· + ·)) (some a) = some (a + values.sum) := by
  induction values generalizing a with
  | nil => rfl
  | cons v vs ih =>
    rw [List.map_cons, List.foldl_cons, Option.map₂_some_some, ih, List.sum_cons, Nat.add_assoc]

theorem fittedSum_eq_none {x : SampleSet} {cells : List Nat} (hinvalid : ∃ c ∈ cells, x.cell c = none) :
    fittedSum x cells = none := by
  rw [fittedSum_eq_foldl]
  exact foldl_add_eq_none_of_mem (List.mem_map.2 hinvalid) _

theorem fittedSum_eq_some_sum {x : SampleSet} {cells values : List Nat} (hvalid : cells.map x.cell = values.map some) :
    fittedSum x cells = some values.sum := by
  rw [fittedSum_eq_foldl, hvalid, foldl_add_map_some, Nat.zero_add]

/-! ### Class and severity kind by kind -/

section
variable {s : State} {x : SampleSet} {m : Monitor}

theorem classify_of_high {c : Nat} (hkind : m.kind = .high) (hcell : m.cell = some c) :
    s.classify x m = classifyHigh s.cfg.cells (x.cell c) := by
  simp only [State.classify, hkind, Monitor.reading, hcell, Option.bind_some]

theorem severe_of_high {c : Nat} (hkind : m.kind = .high) (hcell : m.cell = some c) :
    s.severe x m = (x.cell c).map fun v => decide (s.cfg.cells.highSevere < v) := by
  simp only [State.severe, hkind, Monitor.reading, hcell, Option.bind_some]

theorem classify_of_low {c : Nat} (hkind : m.kind = .low) (hcell : m.cell = some c) :
    s.classify x m = classifyLow s.cfg.cells (x.cell c) := by
  simp only [State.classify, hkind, Monitor.reading, hcell, Option.bind_some]

theorem severe_of_low {c : Nat} (hkind : m.kind = .low) (hcell : m.cell = some c) :
    s.severe x m = (x.cell c).map fun v => decide (v < s.cfg.cells.lowSevere) := by
  simp only [State.severe, hkind, Monitor.reading, hcell, Option.bind_some]

theorem classify_of_tap (hkind : m.kind = .tap) :
    s.classify x m = if ∃ k ∈ s.fittedTaps, x.isOpen k = true then .crossing else .easing := by
  simp only [State.classify, hkind, lowestOpenTap_isSome_iff]

theorem classify_of_hot (hkind : m.kind = .hot) :
    s.classify x m = classifyHot s.cfg.limits (x.t1.merge max x.t2) := by
  simp only [State.classify, hkind, SampleSet.hotter_eq_merge]

theorem severe_of_hot (hkind : m.kind = .hot) :
    s.severe x m = (x.t1.merge max x.t2).map fun v => decide (s.cfg.limits.hotSevere < v) := by
  simp only [State.severe, hkind, SampleSet.hotter_eq_merge]

theorem classify_of_cold (hkind : m.kind = .cold) :
    s.classify x m = classifyCold s.cfg.limits (x.t1.merge min x.t2) := by
  simp only [State.classify, hkind, SampleSet.colder_eq_merge]

theorem classify_of_sum (hkind : m.kind = .sum) :
    s.classify x m = classifySum s.cfg.cells.sumTolerance x.moduleSum (fittedSum x s.fittedCells) := by
  simp only [State.classify, hkind]

theorem severe_eq_none_of_kind (hkind : m.kind = .tap ∨ m.kind = .cold ∨ m.kind = .sum) : s.severe x m = none := by
  obtain hk | hk | hk := hkind <;> simp only [State.severe, hk]

end

/-- Settles O9, kind by kind: each input is brought to the value its table judges, and the table's rows are the bands of that
value (R92 to R97). -/
theorem monitorClassesByTable : Obligations.MonitorClassesByTable := by
  intro s x m ofThermistors
  refine ⟨fun c hcell => ⟨fun hkind => ?high, fun hkind => ?low⟩, fun hkind => ?tap, fun hkind => ?hot, fun hkind => ?cold,
    fun hkind => ?sum, severe_eq_none_of_kind⟩
  case high =>
    rw [classify_of_high hkind hcell, severe_of_high hkind hcell]
    refine ⟨fun hinvalid => ?_, fun v hv => ?_⟩
    · rw [hinvalid]; exact ⟨rfl, rfl⟩
    · rw [hv]; exact ⟨rfl, classifyHigh_some _ v⟩
  case low =>
    rw [classify_of_low hkind hcell, severe_of_low hkind hcell]
    refine ⟨fun hinvalid => ?_, fun v hv => ?_⟩
    · rw [hinvalid]; exact ⟨rfl, rfl⟩
    · rw [hv]; exact ⟨rfl, classifyLow_some _ v⟩
  case tap =>
    rw [classify_of_tap hkind]
    refine ⟨fun hopen => if_pos hopen, fun hclosed => if_neg ?_⟩
    rintro ⟨k, hk, hopen⟩
    exact Bool.false_ne_true ((hclosed k hk).symm.trans hopen)
  case hot =>
    rw [classify_of_hot hkind, severe_of_hot hkind]
    refine ⟨fun h1 h2 => ?_, fun v hv => ?_⟩
    · rw [h1, h2]; exact ⟨rfl, rfl⟩
    · rw [merge_eq_some_of_valid hv]; exact ⟨rfl, classifyHot_some _ v⟩
  case cold =>
    rw [classify_of_cold hkind]
    refine ⟨fun h1 h2 => ?_, fun v hv => ?_⟩
    · rw [h1, h2]; rfl
    · rw [merge_eq_some_of_valid hv]; exact classifyCold_some _ v
  case sum =>
    rw [classify_of_sum hkind]
    refine ⟨fun hinvalid => ?_, fun vs hvalid => ?_⟩
    · rw [fittedSum_eq_none hinvalid]; rfl
    · rw [fittedSum_eq_some_sum hvalid]; exact classifySum_some _ _ vs.sum

end Sys2Proof.Machine

/-! The law of the LINK hold does not survive a step (R13, R23): join complete can be set in START. -/

namespace Sys2Proof.Machine

/-- A station in START whose tally timer runs and has expired twice already. `LinkInStep` lets it be: join complete is not set. -/
def startAtThirdExpiry : State :=
  { State.reset with
    pending := [.tallyTimerExpiry]
    roster := { Roster.atStart with tallyTimer := .running 0 0, expiries := 2 } }

theorem startAtThirdExpiry_linkInStep : LinkInStep startAtThirdExpiry :=
  ⟨fun _ => rfl, fun hjoin => nomatch hjoin⟩

/-- The third expiry sets join complete whatever the mode is, and delivers it to a JOIN station only. -/
theorem step_startAtThirdExpiry :
    ∃ t, step startAtThirdExpiry = .next t ∧ t.ballot.mode = .start ∧ t.roster.joinComplete = true :=
  ⟨_, rfl, rfl, rfl⟩

/-- Refutes O59: its second part asks `LinkInStep` of the state after the step for `LinkInStep` of the state before it alone, and
that allows a tally timer that runs in START. Its third expiry leaves START with join complete. -/
theorem not_rosterStaysLegal : ¬ Obligations.RosterStaysLegal := by
  rintro ⟨-, hkept⟩
  obtain ⟨t, hstep, hstart, hjoin⟩ := step_startAtThirdExpiry
  obtain ⟨hnotyet, -⟩ := hkept startAtThirdExpiry startAtThirdExpiry_linkInStep t hstep
  rw [hnotyet hstart] at hjoin
  cases hjoin

end Sys2Proof.Machine

/-! What a command's event is made of. `Move` lists the parts, each with what is known where the machine makes it; every event is a
start of the station or a chain of such parts (`exec_started_or_moves`). An invariant is then shown once for each part. -/

namespace Sys2Proof.Machine

/-- One part of the event of command c. -/
inductive Move (c : Instr) (s : State) : State → Prop
  | outside (pins : Pins) (sweep : SweepUnit) (roster : Roster) (orders : OrderHandler) (free : Nat) :
      Move c s { s with pins := pins, sweep := sweep, roster := roster, orders := orders, free := free }
  | firstSweep : Move c s (s.setStartup { s.startup with firstSweepComplete := true })
  | read (hstart : s.ballot.mode = .start) (hread : s.startup.readComplete = false) :
      Move c s (finishRead (settleLockout (settleConfig (copySlots s))))
  | timers {settle proposal pledge confirm : Timer}
      (hsettle : settle = .stopped ∨ settle = s.ballot.settle ∨ s.cfg.shared.policy = .auto ∧ s.ballot.mode = .opened)
      (hproposal : proposal = .stopped ∨ proposal = s.ballot.proposal) (hpledge : pledge = .stopped ∨ pledge = s.ballot.pledge) (hconfirm : confirm = .stopped ∨ confirm = s.ballot.confirm) :
      Move c s (s.setBallot
        { s.ballot with settle := settle, proposal := proposal, pledge := pledge, confirm := confirm })
  | settleWait : Move c s (settleWait s)
  | forgetCounted : Move c s (forgetCounted s)
  | claim (x : Claim) : Move c s (claim x s)
  | appendNotice (kind : NoticeKind) (serial : Byte) (replay : Bool) : Move c s (appendNotice kind serial replay s)
  | notices {l : List Notice} (h : s.holds.notices = [] → l = []) : Move c s (s.setHolds { s.holds with notices := l })
  | remote {l : List RemoteHold} (h : s.holds.remote = [] → l = []) : Move c s (s.setHolds { s.holds with remote := l })
  | addRemote (l : List RemoteHold) : Move c s (leave (s.changeHolds { s.holds with remote := l }))
  | raiseHold {cause : Cause} (index : Option Nat) (detail : Option Detail) (h : cause ≠ .lockout) :
      Move c s (raiseHold cause index detail s)
  | liftHold {cause : Cause} (index : Option Nat) (h : cause ≠ .lockout) : Move c s (liftHold cause index s)
  | leave : Move c s (leave s)
  | highest {b : Ballot} (h : s.wouldReplace b = true) : Move c s (s.setBallot { s.ballot with highest := b })
  | propose (h : s.ballot.mode = .opened) : Move c s (propose s)
  | assent (b : Ballot) (h : s.ballot.mode = .opened) : Move c s (assent b s)
  | votes {votes : List Nat} {claimed : Bool} (h : s.ballot.role = .proposer) :
      Move c s (s.setBallot { s.ballot with votes := votes, commitClaimed := claimed })
  | enterClosed (hmode : s.ballot.mode = .pledged) (hcurrent : s.ballot.current.isSome = true) : Move c s (enterClosed s)
  | enterJoin (hmode : s.ballot.mode = .start) (hread : s.startup.readComplete = true) : Move c s (setMode .join s)
  | endJoin (hmode : s.ballot.mode = .join) : Move c s (setMode .opened s)
  | switchInputs (feedback : SwitchPos) (check : Option SettleCheck) :
      Move c s (s.setSwitch { s.switch with feedback := feedback, check := check })
  | sweepPlanPoint : Move c s (sweepPlanPoint s)
  | tallyPlanPoint (advertised : Nat) : Move c s (tallyPlanPoint advertised s)
  | suspendBleeding : Move c s (suspendBleeding s)
  | pausePlan : Move c s (pausePlan s)
  | resumePlan : Move c s (resumePlan s)
  | putMonitor {m r : Monitor} (hr : r ∈ s.monitors.records) (hident : m.ident = r.ident) : Move c s (putMonitor m s)
  | evaluated (at_ : Option ClockTime) : Move c s (s.setMonitors { s.monitors with lastEvaluated := at_ })
  | escalate (e : Escalation)
      (h : c = .settleCheckExpiry ∨ s.ballot.mode ≠ .start ∨ s.startup.readComplete = true) : Move c s (escalate e s)
  | completeActive (o : WriteOutcome) : Move c s (completeActive o s)
  | completeRelease (o : WriteOutcome) : Move c s (completeRelease o s)
  | completeConfig (o : WriteOutcome) : Move c s (completeConfig o s)
  | startRelease (h : s.lockout.isWriting = false) (hactive : s.lockout.record.state = .active) : Move c s (startRelease s)
  | startConfig (target : SlotName) (x : ConfigSlot) (h : s.lockout.isWriting = false) (hmode : s.ballot.mode = .opened) :
      Move c s (startWrite (.config target x) s)
  | lineQuiet : Move c s (lineQuiet s)
  | frameStart : Move c s (hearFrameStart s)
  | setLastSender (a : Nat) : Move c s (setLastSender a s)
  | expireAccessWait : Move c s (expireAccessWait s)
  | lineCleared : Move c s (s.setLink
      { s.link with lastSender := s.own, medium := .idle, attempts := 0, counted := none, sending := none })
  | sendAborted : Move c s (s.setLink { s.link with sending := none })
  | countItem {n : Nat} {i : Item} (hn : n < attemptLimit) (hi : s.holdsItem i = true) :
      Move c s (s.setLink { s.link with attempts := n, counted := some i })
  | countNone : Move c s (s.setLink { s.link with attempts := 0, counted := none })
  | setAnnounce : Move c s (setAnnounce s)
  | clearAnnounce : Move c s (clearAnnounce s)
  | removeQueued (item : Nat) : Move c s (removeQueued item s)
  | enterMute (h : s.link.sending = none) : Move c s (enterMute s)
  | mutePending (h : s.holds.notices ≠ []) : Move c s (s.setLink { s.link with mutePending := true })

/-- A chain of parts of an event. -/
abbrev Moves (c : Instr) : State → State → Prop := Relation.ReflTransGen (Move c)

/-- What a command's event, or a part of it in which the station may start, leads to. -/
def StartedOrMoves (c : Instr) (s t : State) : Prop :=
  (∃ straps feedback medium, t = startRun straps feedback medium s) ∨ Moves c s t

section
variable {c : Instr} {s t u : State}

theorem Move.moves (h : Move c s t) : Moves c s t := .single h

theorem foldl_moves {α : Type} {f : State → α → State} (hf : ∀ s a, Moves c s (f s a)) (l : List α) (s : State) :
    Moves c s (l.foldl f s) := by
  induction l generalizing s with
  | nil => exact .refl
  | cons a l ih => exact (hf s a).trans (ih _)

/-! ### Readiness, rosters, holds -/

theorem setRoster_moves (x : Roster) : Moves c s (s.setRoster x) :=
  (Move.outside s.pins s.sweep x s.orders s.free).moves

theorem setOrders_moves (x : OrderHandler) : Moves c s (s.setOrders x) :=
  (Move.outside s.pins s.sweep s.roster x s.free).moves

theorem setSweep_moves (x : SweepUnit) : Moves c s (s.setSweep x) :=
  (Move.outside s.pins x s.roster s.orders s.free).moves

theorem setFree_moves (n : Nat) : Moves c s (s.setFree n) :=
  (Move.outside s.pins s.sweep s.roster s.orders n).moves

theorem ready_mode (h : s.ready = true) : s.ballot.mode = .opened := by
  unfold State.ready at h
  simp only [Bool.and_eq_true, decide_eq_true_eq] at h
  exact h.1.1.1.1.1.1.1.1.1

theorem settleReadiness_moves (before : State) : Moves c s (settleReadiness before s) := by
  unfold settleReadiness
  split
  · next hready =>
    split
    · next hstarts =>
      obtain ⟨-, hauto⟩ := Bool.and_eq_true_iff.1 hstarts
      exact (Move.timers (.inr (.inr ⟨of_decide_eq_true hauto, ready_mode hready⟩)) (.inr rfl) (.inr rfl) (.inr rfl)).moves
    · exact .refl
  · exact (Move.timers (.inl rfl) (.inr rfl) (.inr rfl) (.inr rfl)).moves

theorem changeRoster_moves (x : Roster) : Moves c s (s.changeRoster x) :=
  (setRoster_moves x).trans (settleReadiness_moves s)

theorem updateEntry_moves (a : Nat) (f : RosterEntry → RosterEntry) : Moves c s (s.updateEntry a f) :=
  changeRoster_moves _

theorem changeRemote_moves {l : List RemoteHold} (h : s.holds.remote = [] → l = []) :
    Moves c s (s.changeHolds { s.holds with remote := l }) :=
  (Move.remote h).moves.trans (settleReadiness_moves s)

theorem filterRemote_moves (p : RemoteHold → Bool) :
    Moves c s (s.changeHolds { s.holds with remote := s.holds.remote.filter p }) :=
  changeRemote_moves fun h => by rw [h]; rfl

theorem purge_moves (a : Nat) : Moves c s (purge a s) := filterRemote_moves _

theorem requestRecall_moves (p : Nat) : Moves c s (requestRecall p s) := by
  unfold requestRecall
  split
  · exact ((purge_moves p).trans (updateEntry_moves p _)).tail (.claim _)
  · exact .refl

theorem removeNotice_moves (n : Nat) : Moves c s (removeNotice n s) :=
  (Move.notices fun h => by rw [h]; rfl).moves

theorem keepForReplay_moves (n : Nat) : Moves c s (keepForReplay n s) :=
  (Move.notices fun h => by rw [h]; rfl).moves

theorem moveToHead_moves {n : Notice} (hn : n ∈ s.holds.notices) : Moves c s (moveToHead n s) :=
  (Move.notices fun h => by rw [h] at hn; cases hn).moves

theorem holdNotice_mem {serial : Byte} {n : Notice} (h : s.holdNotice serial = some n) : n ∈ s.holds.notices := by
  unfold State.holdNotice at h
  split at h
  · next m hm => cases h; exact List.mem_of_find?_eq_some hm
  · exact List.mem_of_find?_eq_some h

theorem judgeLink_moves : Moves c s (judgeLink s) := by
  unfold judgeLink
  split
  · split
    · exact (Move.liftHold _ (by decide)).moves
    · exact (Move.raiseHold _ _ (by decide)).moves
  · exact .refl

theorem judgeDiscord_moves : Moves c s (judgeDiscord s) := by
  unfold judgeDiscord
  split
  · exact .refl
  · split
    · exact (Move.raiseHold _ _ (by decide)).moves
    · exact (Move.liftHold _ (by decide)).moves

theorem judgeView_moves : Moves c s (judgeView s) := judgeLink_moves.trans judgeDiscord_moves

theorem hear_moves (a : Nat) : Moves c s (hear a s) := by
  have hpresent : Moves c s (s.updateEntry a fun e => { e with state := .present, age := 0 }) := updateEntry_moves a _
  unfold hear
  dsimp only
  split
  · split
    · exact hpresent
    · exact hpresent.trans (requestRecall_moves a)
  · split
    · exact hpresent
    · exact hpresent.trans (requestRecall_moves a)
  · exact hpresent
  · exact hpresent

theorem heardState_moves (a : Nat) : Moves c s (heardState a s) :=
  ((((Move.lineQuiet).moves.tail (.setLastSender a)).trans (hear_moves a)).trans judgeDiscord_moves)

theorem endEvent_moves (before : State) : Moves c s (endEvent before s) :=
  ((settleReadiness_moves before).tail .forgetCounted).tail .settleWait

/-! ### Ballots -/

theorem isPledged_iff (role : Role) (b : Ballot) :
    s.isPledged role b = true ↔ s.ballot.mode = .pledged ∧ s.ballot.role = role ∧ s.ballot.current = some b := by
  simp [State.isPledged, and_assoc]

theorem offer_moves (b : Ballot) : Moves c s (offer b s) := by
  unfold offer
  split
  · next hreplace =>
    have hoffered : Moves c s (s.changeBallot { s.ballot with highest := b }) :=
      (Move.highest hreplace).moves.trans (settleReadiness_moves s)
    dsimp only
    split
    · exact hoffered.tail .leave
    · exact hoffered
  · exact .refl

theorem vote_moves (b : Ballot) (size : Nat) (digest : Digest) : Moves c s (vote b size digest s) := by
  unfold vote
  split
  · exact (Move.claim _).moves
  · split
    · next hmode => exact (Move.assent b hmode).moves
    · exact .refl

theorem addVote_moves (a : Nat) (h : s.ballot.role = .proposer) : Moves c s (addVote a s) := by
  unfold addVote
  split
  · exact (Move.votes h).moves
  · exact .refl

@[simp] theorem addVote_role (a : Nat) (s : State) : (addVote a s).ballot.role = s.ballot.role := by
  unfold addVote; split <;> rfl

@[simp] theorem claim_ballot_eq (x : Claim) (s : State) : (Machine.claim x s).ballot = s.ballot := claim_ballot x s

theorem claimCommit_moves (b : Ballot) (h : s.ballot.role = .proposer) : Moves c s (claimCommit b s) := by
  unfold claimCommit
  split
  · exact (Move.claim _).moves.tail (.votes (by rw [claim_ballot]; exact h))
  · exact .refl

theorem confirmOffer_moves (a : Nat) (m : Mode) (b : Ballot) : Moves c s (confirmOffer a m b s) := by
  unfold confirmOffer
  split
  · split
    · exact updateEntry_moves a _
    · exact .refl
    · exact Move.leave.moves
  · exact .refl

/-! ### Frames taken by their owners -/

theorem reconcile_moves (p n : Nat) (pending : Bool) : Moves c s (reconcile p n pending s) := by
  unfold reconcile
  dsimp only
  split
  · exact .refl
  · split
    · exact purge_moves p
    · split
      · exact .refl
      · exact requestRecall_moves p

theorem takeTally_moves (a : Nat) (x : Summary) (wasPending : Bool) : Moves c s (takeTally a x wasPending s) := by
  unfold takeTally
  extract_lets pending summed offered
  have hoffered : Moves c s offered := ((updateEntry_moves a _).trans (reconcile_moves ..)).trans (offer_moves _)
  split
  · exact hoffered.trans (confirmOffer_moves ..)
  · exact hoffered

theorem takeAnnounce_moves (a : Nat) (d : AnnounceData) : Moves c s (takeAnnounce a d s) := by
  unfold takeAnnounce
  dsimp only
  split
  · exact (((updateEntry_moves a _).trans (purge_moves a)).tail (.claim _)).tail .leave
  · exact ((updateEntry_moves a _).trans (purge_moves a)).tail (.claim _)

theorem takeHold_moves (r : RemoteHold) : Moves c s (takeHold r s) := by
  unfold takeHold storeRemote reportHold
  split
  · exact (Move.remote fun h => by rw [h]; rfl).moves.tail .leave
  · split
    · exact (Move.addRemote _).moves
    · exact (requestRecall_moves _).tail .leave

theorem takeLift_moves (o : Nat) (serial : Byte) : Moves c s (takeLift o serial s) := filterRemote_moves _

theorem takeRecall_moves (target : Nat) : Moves c s (takeRecall target s) := by
  unfold takeRecall
  split
  · refine foldl_moves (fun u h => ?_) _ _
    unfold replayNotice
    split
    · exact .refl
    · exact (Move.appendNotice ..).moves
  · exact .refl

theorem takePropose_moves (a : Nat) (b : Ballot) (size : Nat) (digest : Digest) :
    Moves c s (takePropose a b size digest s) := by
  unfold takePropose
  split
  · exact (offer_moves b).trans (vote_moves ..)
  · exact .refl

theorem takeAssent_moves (a : Nat) (b : Ballot) : Moves c s (takeAssent a b s) := by
  unfold takeAssent
  dsimp only
  split
  · next hp =>
    obtain ⟨-, hrole, -⟩ := (isPledged_iff _ _).1 hp
    exact ((offer_moves b).trans (addVote_moves a hrole)).trans (claimCommit_moves b (by simpa using hrole))
  · exact offer_moves b

theorem takeDemur_moves (b : Ballot) : Moves c s (takeDemur b s) := by
  unfold takeDemur
  dsimp only
  split
  · exact (offer_moves b).tail .leave
  · exact offer_moves b

theorem takeCommit_moves (b : Ballot) : Moves c s (takeCommit b s) := by
  unfold takeCommit
  dsimp only
  split
  · next hp =>
    obtain ⟨hmode, -, hcurrent⟩ := (isPledged_iff _ _).1 hp
    exact (offer_moves b).tail (.enterClosed hmode (by rw [hcurrent]; rfl))
  · exact offer_moves b

theorem takeWithdraw_moves (b : Ballot) : Moves c s (takeWithdraw b s) := by
  unfold takeWithdraw
  dsimp only
  split
  · exact (offer_moves b).tail .leave
  · exact offer_moves b

/-! ### The own address heard, and the arrival of a frame -/

theorem duplicate_moves (h : s.link.sending = none) : Moves c s (duplicate s) := by
  have hraised : Moves c s (raiseHold .duplicate none none s) := (Move.raiseHold _ _ (by decide)).moves
  unfold duplicate
  dsimp only
  split
  · exact .refl
  · split
    · next n hn =>
      obtain ⟨x, -, hx⟩ := Option.bind_eq_some_iff.1 hn
      exact (hraised.trans (moveToHead_moves (holdNotice_mem hx))).tail (.mutePending (by simp [moveToHead]))
    · exact hraised.tail (.enterMute (by simpa using h))

theorem ownAddressHeard_moves : Moves c s (ownAddressHeard s) := by
  unfold ownAddressHeard
  split
  · exact .refl
  · next h =>
    exact ((Move.lineQuiet).moves.tail (.setLastSender _)).trans (duplicate_moves (by simpa using h))

theorem arrive_started_or_moves {a : Nat} {valid : Bool} {owner : State → State}
    (howner : ∀ u, StartedOrMoves c u (owner u)) : StartedOrMoves c s (arrive a valid owner s) := by
  cases valid with
  | false => exact .inr Move.lineQuiet.moves
  | true =>
    by_cases hown : s.addressed = true ∧ a = s.own
    · rw [arrive_of_own a owner s hown.1 hown.2]
      exact .inr ownAddressHeard_moves
    · by_cases hmode : s.ballot.mode = .start
      · rw [arrive_in_start a owner s hown hmode]
        exact .inr (Move.lineQuiet.moves.tail (.setLastSender a))
      · rw [arrive_taken a owner s hown hmode]
        obtain ⟨straps, feedback, medium, hu⟩ | hmoves := howner (heardState a s)
        · refine .inl ⟨straps, feedback, medium, ?_⟩
          rw [hu]
          simp [judgeView, judgeLink, judgeDiscord, startRun, Roster.atStart, BallotUnit.atStart]
        · exact .inr (((heardState_moves a).trans hmoves).trans judgeView_moves)

theorem arrive_moves {a : Nat} {valid : Bool} {owner : State → State} (howner : ∀ u, Moves c u (owner u)) :
    StartedOrMoves c s (arrive a valid owner s) :=
  arrive_started_or_moves fun u => .inr (howner u)

/-! ### Orders -/

theorem settleAnswer_moves (number : Byte) {kind : OrderKind} (r : OrderResult) (h : kind ≠ .restart) :
    Moves c s (settleAnswer number kind r s) := by
  unfold settleAnswer
  simp only [h, decide_false, Bool.false_and, Bool.false_eq_true, if_false]
  exact (setOrders_moves _).tail (.claim _)

theorem settleAnswer_started_or_moves (number : Byte) (kind : OrderKind) (r : OrderResult) :
    StartedOrMoves c s (settleAnswer number kind r s) := by
  unfold settleAnswer
  dsimp only
  split
  · exact .inl ⟨_, _, _, rfl⟩
  · exact .inr ((setOrders_moves _).tail (.claim _))

theorem settleOrder_moves (number : Byte) {kind : OrderKind} (r : OrderResult) (h : kind ≠ .restart) :
    Moves c s (settleOrder number kind r s) := by
  unfold settleOrder
  split
  · exact setOrders_moves _
  · exact settleAnswer_moves number r h

theorem settleOrder_started_or_moves (number : Byte) (kind : OrderKind) (r : OrderResult) :
    StartedOrMoves c s (settleOrder number kind r s) := by
  unfold settleOrder
  split
  · exact .inr (setOrders_moves _)
  · exact settleAnswer_started_or_moves number kind r

theorem repeatAnswer_started_or_moves (m : OrderMemory) : StartedOrMoves c s (repeatAnswer m s) := by
  unfold repeatAnswer
  split
  · exact .inl ⟨_, _, _, rfl⟩
  · split
    · exact .inr (Move.claim _).moves
    · exact .inr .refl

section
variable {kind : OrderKind} {run : State → State × OrderResult} {broadcast : State → State}

/-- Only a RESTART's answer starts the station, and executing it changes nothing. -/
theorem takeOrder_started_or_moves (number : Byte) (target : Nat) (fits : Bool) (hrun : ∀ u, Moves c u (run u).1)
    (hrestart : kind = .restart → ∀ u, (run u).1 = u) (hbroadcast : ∀ u, Moves c u (broadcast u)) :
    StartedOrMoves c s (takeOrder number target kind fits run broadcast s) := by
  unfold takeOrder takeTargeted
  split
  · split
    · split
      · exact repeatAnswer_started_or_moves _
      · exact .inr .refl
    · split
      · by_cases hk : kind = .restart
        · rw [hrestart hk]
          exact settleOrder_started_or_moves ..
        · exact .inr ((hrun s).trans (settleOrder_moves number _ hk))
      · exact settleOrder_started_or_moves ..
  · split
    · split
      · exact .inr (hbroadcast s)
      · exact .inr .refl
    · exact .inr .refl

theorem orderArrives_started_or_moves (number : Byte) (target extra : Nat) (fits : Bool) (hrun : ∀ u, Moves c u (run u).1)
    (hrestart : kind = .restart → ∀ u, (run u).1 = u) (hbroadcast : ∀ u, Moves c u (broadcast u)) :
    StartedOrMoves c s (orderArrives number target extra kind fits run broadcast s) :=
  arrive_started_or_moves fun _ => takeOrder_started_or_moves number target fits hrun hrestart hbroadcast

end

theorem readArrives_started_or_moves (number : Byte) (target : Nat) (args : List Byte)
    (read : Nat → Nat → State → OrderResult) : StartedOrMoves c s (readArrives number target args read s) :=
  orderArrives_started_or_moves _ _ _ _ (fun _ => setFree_moves _) nofun fun _ => .refl

theorem runReclose_moves : Moves c s (runReclose s).1 := by
  unfold runReclose
  split
  · next h => exact (Move.propose (ready_mode h)).moves
  · exact .refl

theorem broadcastReclose_moves : Moves c s (broadcastReclose s) := by
  unfold broadcastReclose
  split
  · next h => exact (Move.propose (ready_mode (Bool.and_eq_true_iff.1 h).1)).moves
  · exact .refl

theorem runRelease_moves (serial : Nat) : Moves c s (runRelease serial s).1 := by
  unfold runRelease
  split
  · exact .refl
  · next hstate =>
    have hactive : s.lockout.record.state = .active := by
      cases h : s.lockout.record.state with
      | none => exact absurd h hstate
      | active => rfl
    split
    · exact .refl
    · split
      · exact .refl
      · next hw =>
        split
        · exact .refl
        · exact (Move.startRelease (Bool.eq_false_of_not_eq_true hw) hactive).moves

theorem runClearSwitch_moves : Moves c s (runClearSwitch s).1 := by
  unfold runClearSwitch
  split
  · exact .refl
  · split
    · exact .refl
    · exact (Move.liftHold _ (by decide)).moves

theorem storePage_eq_setOrders {page : Nat} {data : List Byte} (h : storePage page data s = some t) :
    ∃ x : OrderHandler, t = s.setOrders x ∧ x.memory = s.orders.memory ∧ x.awaited = s.orders.awaited := by
  unfold storePage at h
  split at h
  · obtain ⟨p, -, rfl⟩ := Option.map_eq_some_iff.1 h
    exact ⟨_, rfl, rfl, rfl⟩
  · obtain ⟨p, -, rfl⟩ := Option.map_eq_some_iff.1 h
    exact ⟨_, rfl, rfl, rfl⟩
  · obtain ⟨p, -, rfl⟩ := Option.map_eq_some_iff.1 h
    exact ⟨_, rfl, rfl, rfl⟩
  · cases h

theorem runCommit_moves : Moves c s (runCommit s).1 := by
  unfold runCommit
  split
  · exact .refl
  · split
    · exact .refl
    · next hmode =>
      split
      · exact .refl
      · next hw =>
        exact (setOrders_moves _).tail (.startConfig _ _ (Bool.eq_false_of_not_eq_true hw) (not_not.1 hmode))

theorem runStore_moves (page commit : Byte) (data : List Byte) : Moves c s (runStore page commit data s).1 := by
  unfold runStore
  split
  · exact .refl
  · split
    · exact .refl
    · next t ht =>
      obtain ⟨x, rfl, -⟩ := storePage_eq_setOrders ht
      split
      · exact (setOrders_moves x).trans runCommit_moves
      · exact setOrders_moves x

theorem runStoreArgs_moves (args : List Byte) : Moves c s (runStoreArgs args s).1 := by
  unfold runStoreArgs
  split
  · exact runStore_moves ..
  · exact .refl

/-! ### START is left by JOIN entry alone -/

@[simp] theorem leave_mode_eq_start : (leave s).ballot.mode = .start ↔ s.ballot.mode = .start := by
  rw [leave_mode]
  split
  · next h => rcases h with h | h <;> simp [h]
  · exact Iff.rfl

@[simp] theorem appendNotice_ballot_eq (k : NoticeKind) (n : Byte) (r : Bool) (s : State) :
    (appendNotice k n r s).ballot = s.ballot := appendNotice_ballot k n r s

@[simp] theorem raiseHold_mode_eq_start (cause : Cause) (i : Option Nat) (d : Option Detail) (s : State) :
    (raiseHold cause i d s).ballot.mode = .start ↔ s.ballot.mode = .start := by
  unfold raiseHold reportHold
  split
  · simp
  · split
    · exact Iff.rfl
    · dsimp only
      split <;> simp

@[simp] theorem beginLockout_mode_eq_start (e : Escalation) (s : State) :
    (beginLockout e s).ballot.mode = .start ↔ s.ballot.mode = .start := by
  unfold beginLockout
  dsimp only
  split
  · simp
  · split <;> simp

@[simp] theorem escalate_mode_eq_start (e : Escalation) (s : State) :
    (escalate e s).ballot.mode = .start ↔ s.ballot.mode = .start := by
  unfold escalate
  split
  · simp
  · split <;> simp
  · exact Iff.rfl

@[simp] theorem sendRequest_mode_eq_start (x : SampleSet) (m : Monitor) (r : MonitorRequest) (s : State) :
    (sendRequest x m s r).ballot.mode = .start ↔ s.ballot.mode = .start := by
  unfold sendRequest
  split
  · exact Iff.rfl
  · dsimp only
    split <;> simp
  · simp

@[simp] theorem takeSevere_mode_eq_start (v : Option Bool) (n : Nat) (s : State) :
    (takeSevere v n s).ballot.mode = .start ↔ s.ballot.mode = .start := by
  unfold takeSevere
  split
  · exact Iff.rfl
  · split
    · split <;> simp
    · simp
    · exact Iff.rfl

@[simp] theorem evaluateOne_mode_eq_start (x : SampleSet) (s : State) (n : Nat) :
    (evaluateOne x s n).ballot.mode = .start ↔ s.ballot.mode = .start := by
  unfold evaluateOne
  split
  · exact Iff.rfl
  · simp

@[simp] theorem evaluateMonitors_mode_eq_start (x : SampleSet) (s : State) :
    (evaluateMonitors x s).ballot.mode = .start ↔ s.ballot.mode = .start := by
  have hfold := foldl_keeps (fun u : State => u.ballot.mode = .start) (evaluateOne x)
    (fun u n => propext (evaluateOne_mode_eq_start x u n)) (s.monitors.records.map fun m => m.number) s
  exact iff_of_eq hfold

@[simp] theorem deliverSweep_mode_eq_start (s : State) : (deliverSweep s).ballot.mode = .start ↔ s.ballot.mode = .start := by
  unfold deliverSweep
  split <;> simp

/-! ### Sweeps -/

/-- Where the monitors may ask for a lockout: past START, or once the store has been read (R144). -/
def PastRead (s : State) : Prop := s.ballot.mode ≠ .start ∨ s.startup.readComplete = true

theorem escalate_moves (e : Escalation) (h : PastRead s) : Moves c s (escalate e s) := (Move.escalate e (.inr h)).moves

theorem raiseCause_ne_lockout (k : MonitorKind) : raiseCause k ≠ .lockout := by cases k <;> decide

theorem sendRequest_moves (x : SampleSet) {m r : Monitor} (q : MonitorRequest) (hr : r ∈ s.monitors.records)
    (hident : m.ident = r.ident) (h : PastRead s) : Moves c s (sendRequest x m s q) := by
  unfold sendRequest
  split
  · exact .refl
  · have hraised : Moves c s (raiseHold (raiseCause m.kind) m.index none s) :=
      (Move.raiseHold _ _ (raiseCause_ne_lockout _)).moves
    dsimp only
    split
    · refine (hraised.trans (escalate_moves _ ?_)).tail (.putMonitor (r := r) (by simpa using hr) hident)
      simpa [PastRead] using h
    · exact hraised.tail (.putMonitor (r := r) (by simpa using hr) hident)
  · exact (Move.putMonitor (m := { m with raisedTap := none }) hr hident).moves.tail
      (.liftHold _ (raiseCause_ne_lockout m.kind))

theorem takeSevere_moves (v : Option Bool) (n : Nat) (h : PastRead s) : Moves c s (takeSevere v n s) := by
  unfold takeSevere
  split
  · exact .refl
  · next m hm =>
    have hput : ∀ k, Moves c s (putMonitor { m with severeCount := k } s) := fun k =>
      (Move.putMonitor (m := { m with severeCount := k }) (List.mem_of_find?_eq_some hm) rfl).moves
    split
    · split
      · exact (hput 0).trans (escalate_moves _ (by simpa [PastRead] using h))
      · exact hput _
    · exact hput 0
    · exact .refl

/-- A monitor's next state, its count and its request in a sample set (R91 to R102). -/
def State.taken (s : State) (x : SampleSet) (m : Monitor) : MonitorState × Nat × MonitorRequest :=
  advance s.cfg.limits m.state m.count (s.classify x m)

/-- A monitor's record once it has taken its class (R91 step 1, R103). -/
def State.judged (s : State) (x : SampleSet) (m : Monitor) : Monitor :=
  { m with
    state := (s.taken x m).1
    count := (s.taken x m).2.1
    raisedTap := if m.kind = .tap ∧ (s.taken x m).2.2 = .raise then s.lowestOpenTap x else m.raisedTap
    lastClass := some (s.classify x m) }

theorem evaluateOne_of_find (x : SampleSet) {m : Monitor} {n : Nat}
    (h : (s.monitors.records.find? fun r => decide (r.number = n)) = some m) :
    evaluateOne x s n =
      takeSevere (s.severe x m) n (sendRequest x (s.judged x m) (putMonitor (s.judged x m) s) (s.taken x m).2.2) := by
  unfold evaluateOne
  rw [h]
  rfl

theorem evaluateOne_of_absent (x : SampleSet) {n : Nat}
    (h : (s.monitors.records.find? fun r => decide (r.number = n)) = none) : evaluateOne x s n = s := by
  unfold evaluateOne
  rw [h]

theorem evaluateOne_moves (x : SampleSet) (n : Nat) (h : PastRead s) : Moves c s (evaluateOne x s n) := by
  cases hm : s.monitors.records.find? fun r => decide (r.number = n) with
  | none => rw [evaluateOne_of_absent x hm]
  | some m =>
    rw [evaluateOne_of_find x hm]
    have hmem := List.mem_of_find?_eq_some hm
    have hput : Moves c s (putMonitor (s.judged x m) s) := (Move.putMonitor (m := s.judged x m) hmem rfl).moves
    have hjudged : s.judged x m ∈ (putMonitor (s.judged x m) s).monitors.records := List.mem_map.2 ⟨m, hmem, if_pos rfl⟩
    refine (hput.trans (sendRequest_moves x _ hjudged rfl ?_)).trans (takeSevere_moves _ _ ?_)
    · simpa [PastRead] using h
    · simpa [PastRead] using h

theorem evaluateAll_moves (x : SampleSet) (l : List Nat) (h : PastRead s) : Moves c s (l.foldl (evaluateOne x) s) := by
  induction l generalizing s with
  | nil => exact .refl
  | cons n l ih => exact (evaluateOne_moves x n h).trans (ih (by simpa [PastRead] using h))

theorem evaluateMonitors_moves (x : SampleSet) (h : PastRead s) : Moves c s (evaluateMonitors x s) :=
  (evaluateAll_moves x _ h).tail (.evaluated _)

theorem deliverSweep_moves (h : PastRead s) : Moves c s (deliverSweep s) := by
  unfold deliverSweep
  split
  · exact (evaluateMonitors_moves _ h).tail .sweepPlanPoint
  · exact .refl

/-! ### JOIN entry -/

theorem joinEntry_moves (hmode : s.ballot.mode = .start) (hread : s.startup.readComplete = true) :
    Moves c s (joinEntry s) := by
  have hroster : Moves c s (enterRoster (setMode .join s)) := (Move.enterJoin hmode hread).moves.trans (updateEntry_moves _ _)
  have hnotices : ∀ u, Moves c u (announceHolds u) := fun u => foldl_moves (fun _ _ => (Move.appendNotice ..).moves) _ u
  exact (((hroster.trans (hnotices _)).tail .setAnnounce).trans (setRoster_moves _)).trans judgeDiscord_moves

theorem completeRead_moves : Moves c s (completeRead s) := by
  unfold completeRead
  split
  · next h =>
    simp only [Bool.and_eq_true, decide_eq_true_eq, Bool.not_eq_true'] at h
    obtain ⟨⟨-, hmode⟩, hread⟩ := h
    have hsettled : Moves c s (finishRead (settleLockout (settleConfig (copySlots s)))) := (Move.read hmode hread).moves
    have hdone : (finishRead (settleLockout (settleConfig (copySlots s)))).startup.readComplete = true := rfl
    have hstart : (finishRead (settleLockout (settleConfig (copySlots s)))).ballot.mode = .start := by
      have hconfig : (settleConfig (copySlots s)).ballot.mode = .start := by
        unfold settleConfig
        dsimp only
        split
        · simpa using hmode
        · simpa using hmode
      show (settleLockout (settleConfig (copySlots s))).ballot.mode = .start
      unfold settleLockout
      dsimp only
      split
      · simpa using hconfig
      · exact hconfig
    dsimp only
    split
    · exact (hsettled.trans (deliverSweep_moves (.inr hdone))).trans
        (joinEntry_moves (by simpa using hstart) (by simpa using hdone))
    · exact hsettled
  · exact .refl

theorem completeSweep_moves (r : Readings) : Moves c s (completeSweep r s) := by
  unfold completeSweep
  split
  · have htaken : Moves c s (takeReadings r s) := setSweep_moves _
    dsimp only
    split
    · next hmode =>
      have hflagged : Moves c s ((takeReadings r s).setStartup { (takeReadings r s).startup with firstSweepComplete := true }) :=
        htaken.tail .firstSweep
      unfold completeFirstSweep
      dsimp only
      split
      · next hread =>
        exact (hflagged.trans (deliverSweep_moves (.inr hread))).trans
          (joinEntry_moves (by simpa using hmode) (by simpa using hread))
      · exact hflagged
    · next hmode => exact htaken.trans (deliverSweep_moves (.inl hmode))
  · exact .refl

theorem expireSweepTimer_moves : Moves c s (expireSweepTimer s) := by
  unfold expireSweepTimer startSweep
  split
  · exact ((setSweep_moves _).trans (setSweep_moves _)).tail .suspendBleeding
  · exact .refl

/-! ### Timers and the switch -/

theorem countExpiry_moves : Moves c s (countExpiry s) := by
  unfold countExpiry deliverJoinComplete
  split
  · split
    · next h => exact (changeRoster_moves _).tail (.endJoin h)
    · exact changeRoster_moves _
  · exact setRoster_moves _

theorem ageTick_moves : Moves c s (ageTick s) := (changeRoster_moves _).trans (filterRemote_moves _)

theorem expireTallyTimer_moves : Moves c s (expireTallyTimer s) := by
  unfold expireTallyTimer
  split
  · exact (((((setRoster_moves _).trans ageTick_moves).trans judgeDiscord_moves).trans countExpiry_moves).trans
      judgeLink_moves).tail (.claim _)
  · exact .refl

theorem expireSettleTimer_moves : Moves c s (expireSettleTimer s) := by
  unfold expireSettleTimer
  split
  · have hstopped : Moves c s (s.setBallot { s.ballot with settle := .stopped }) :=
      (Move.timers (.inl rfl) (.inr rfl) (.inr rfl) (.inr rfl)).moves
    dsimp only
    split
    · next h => exact hstopped.tail (.propose (ready_mode h.2.1))
    · exact hstopped
  · exact .refl

theorem expireProposalTimer_moves : Moves c s (expireProposalTimer s) := by
  unfold expireProposalTimer
  split
  · have hstopped : Moves c s (s.setBallot { s.ballot with proposal := .stopped }) :=
      (Move.timers (.inr (.inl rfl)) (.inl rfl) (.inr rfl) (.inr rfl)).moves
    dsimp only
    split
    · exact hstopped.tail .leave
    · exact hstopped
  · exact .refl

theorem expirePledgeTimer_moves : Moves c s (expirePledgeTimer s) := by
  unfold expirePledgeTimer
  split
  · have hstopped : Moves c s (s.setBallot { s.ballot with pledge := .stopped }) :=
      (Move.timers (.inr (.inl rfl)) (.inr rfl) (.inl rfl) (.inr rfl)).moves
    dsimp only
    split
    · exact hstopped.tail .leave
    · exact hstopped
  · exact .refl

theorem expireConfirmTimer_moves : Moves c s (expireConfirmTimer s) := by
  unfold expireConfirmTimer
  split
  · have hstopped : Moves c s (s.setBallot { s.ballot with confirm := .stopped }) :=
      (Move.timers (.inr (.inl rfl)) (.inr rfl) (.inr rfl) (.inl rfl)).moves
    dsimp only
    split
    · exact hstopped.tail .leave
    · exact hstopped
  · exact .refl

/-- A weld asks for a lockout whether or not the store has been read. -/
theorem expireCheck_moves : Moves .settleCheckExpiry s (expireCheck s) := by
  unfold expireCheck
  split
  · have hstopped : Moves .settleCheckExpiry s (s.setSwitch { s.switch with check := none }) :=
      (Move.switchInputs s.switch.feedback none).moves
    have hraise : ∀ u d, Moves .settleCheckExpiry u (raiseHold .switch none d u) := fun _ _ =>
      (Move.raiseHold _ _ (by decide)).moves
    unfold judgeSwitch
    split
    · exact hstopped
    · exact hstopped
    · split
      · exact hstopped.trans (hraise _ _)
      · exact hstopped.trans (hraise _ _)
    · exact (hstopped.trans (hraise _ _)).tail (.escalate _ (.inl rfl))
  · exact .refl

theorem changeFeedback_moves (l : SwitchPos) : Moves c s (changeFeedback l s) := by
  have hpins : Moves c s (s.setPins { s.pins with feedback := l }) :=
    (Move.outside _ s.sweep s.roster s.orders s.free).moves
  unfold changeFeedback
  dsimp only
  split
  · exact (hpins.tail (.switchInputs l s.switch.check)).tail (.switchInputs l _)
  · exact hpins

/-! ### Sends -/

theorem noticeSent_moves (n : Nat) (b : Body) : Moves c s (noticeSent n b s) := by
  unfold noticeSent
  split
  · exact .refl
  · split
    · split
      · exact removeNotice_moves n
      · exact keepForReplay_moves n
    · exact removeNotice_moves n

theorem ownTallySent_moves (x : Summary) : Moves c s (ownTallySent x s) := by
  unfold ownTallySent
  extract_lets u v
  have hv : Moves c s v := by
    have hu : Moves c s u := updateEntry_moves _ _
    unfold v
    split
    · exact hu.trans (confirmOffer_moves ..)
    · exact hu
  exact hv.tail (.tallyPlanPoint _)

theorem ownCommitSent_moves (b : Ballot) : Moves c s (ownCommitSent b s) := by
  unfold ownCommitSent
  split
  · next hp =>
    obtain ⟨hmode, -, hcurrent⟩ := (isPledged_iff _ _).1 hp
    exact (Move.enterClosed hmode (by rw [hcurrent]; rfl)).moves
  · exact .refl

theorem itemSent_moves (x : Sending) : Moves c s (itemSent x s) := by
  unfold itemSent frameSent
  split
  · exact Move.clearAnnounce.moves
  · exact noticeSent_moves _ _
  · have hremoved : ∀ n, Moves c s (removeQueued n s) := fun n => (Move.removeQueued n).moves
    split
    · exact (hremoved _).trans (ownTallySent_moves _)
    · exact (hremoved _).trans (ownCommitSent_moves _)
    · exact hremoved _

@[simp] theorem itemSent_sending (x : Sending) (s : State) : (itemSent x s).link.sending = s.link.sending := by
  have hconfirm : ∀ a m b (u : State), (confirmOffer a m b u).link.sending = u.link.sending := by
    intro a m b u
    unfold confirmOffer
    split
    · split <;> simp
    · rfl
  unfold itemSent frameSent
  split
  · rfl
  · unfold noticeSent
    split
    · rfl
    · split
      · split <;> simp [keepForReplay]
      · simp
  · split
    · unfold ownTallySent
      dsimp only
      split <;> simp [hconfirm, removeQueued]
    · unfold ownCommitSent enterClosed
      split
      · split <;> simp [removeQueued]
      · simp [removeQueued]
    · simp [removeQueued]

theorem muteAfter_moves (x : Sending) (h : s.link.sending = none) : Moves c s (muteAfter x s) := by
  unfold muteAfter
  split
  · exact (Move.enterMute h).moves
  · exact .refl

/-- The line after a successful send: the first part of its completion (R188 steps 1 and 2). -/
def lineCleared (s : State) : State :=
  s.setLink { s.link with lastSender := s.own, medium := .idle, attempts := 0, counted := none, sending := none }

/-- A successful send's completion but for the start that a marked ANSWER delivers (R188). -/
def sendSettled (x : Sending) (s : State) : State := muteAfter x (liftHold .send none (itemSent x (lineCleared s)))

theorem completeSend_of_sending {x : Sending} (h : s.link.sending = some x) :
    completeSend s = if s.sendsRestart x then restartRun (sendSettled x s) else sendSettled x s := by
  unfold completeSend
  rw [h]
  rfl

theorem completeSend_of_none (h : s.link.sending = none) : completeSend s = s := by
  unfold completeSend
  rw [h]

@[simp] theorem itemSent_pending (x : Sending) (s : State) : (itemSent x s).pending = s.pending := by
  unfold itemSent frameSent noticeSent keepForReplay ownTallySent ownCommitSent removeQueued clearAnnounce
  dsimp only
  (repeat' split) <;> simp
@[simp] theorem itemSent_pins (x : Sending) (s : State) : (itemSent x s).pins = s.pins := by
  unfold itemSent frameSent noticeSent keepForReplay ownTallySent ownCommitSent removeQueued clearAnnounce
  dsimp only
  (repeat' split) <;> simp
@[simp] theorem itemSent_store (x : Sending) (s : State) : (itemSent x s).store = s.store := by
  unfold itemSent frameSent noticeSent keepForReplay ownTallySent ownCommitSent removeQueued clearAnnounce
  dsimp only
  (repeat' split) <;> simp
@[simp] theorem itemSent_free (x : Sending) (s : State) : (itemSent x s).free = s.free := by
  unfold itemSent frameSent noticeSent keepForReplay ownTallySent ownCommitSent removeQueued clearAnnounce
  dsimp only
  (repeat' split) <;> simp

@[simp] theorem muteAfter_pending (x : Sending) (s : State) : (muteAfter x s).pending = s.pending := by
  unfold muteAfter; split <;> simp
@[simp] theorem muteAfter_pins (x : Sending) (s : State) : (muteAfter x s).pins = s.pins := by
  unfold muteAfter; split <;> simp
@[simp] theorem muteAfter_store (x : Sending) (s : State) : (muteAfter x s).store = s.store := by
  unfold muteAfter; split <;> simp
@[simp] theorem muteAfter_free (x : Sending) (s : State) : (muteAfter x s).free = s.free := by
  unfold muteAfter; split <;> simp

/-- The start that a send's completion delivers keeps what any start keeps (R160). -/
theorem restartRun_sendSettled (x : Sending) (s : State) :
    restartRun (sendSettled x s) =
      startRun (strapsAtRestart s.pins.straps) s.pins.feedback (sendSettled x s).link.medium s := by
  simp [restartRun, startRun, sendSettled, lineCleared]

theorem sendSettled_moves (x : Sending) : Moves c s (sendSettled x s) :=
  ((Move.lineCleared.moves.trans (itemSent_moves x)).tail (.liftHold _ (by decide))).trans
    (muteAfter_moves x (by simp))

theorem completeSend_started_or_moves : StartedOrMoves c s (completeSend s) := by
  cases hx : s.link.sending with
  | none => rw [completeSend_of_none hx]; exact .inr .refl
  | some x =>
    rw [completeSend_of_sending hx]
    split
    · exact .inl ⟨_, _, _, restartRun_sendSettled x s⟩
    · exact .inr (sendSettled_moves x)

theorem countFailure_moves (x : Sending) (hitem : s.holdsItem x.item = true) (hnone : s.link.sending = none) :
    Moves c s (countFailure x s) := by
  unfold countFailure
  split
  · next hn => exact (Move.countItem hn hitem).moves
  · have hdrop : ∀ i u, Moves c u (dropItem i u) := by
      intro i u
      unfold dropItem
      split
      · exact Move.clearAnnounce.moves
      · exact removeNotice_moves _
      · exact (Move.removeQueued _).moves
    have hdropSending : ∀ i (u : State), (dropItem i u).link.sending = u.link.sending := by
      intro i u
      unfold dropItem
      split <;> simp [clearAnnounce, removeQueued]
    exact ((Move.countNone.moves.trans (hdrop _ _)).tail (.raiseHold _ _ (by decide))).trans
      (muteAfter_moves x (by simp [hdropSending, hnone]))

theorem noticeAborted_moves (n : Nat) : Moves c s (noticeAborted n s) := by
  unfold noticeAborted
  split
  · exact .refl
  · split
    · exact removeNotice_moves n
    · exact .refl

theorem abortSend_moves : Moves c s (abortSend s) := by
  unfold abortSend
  split
  · exact .refl
  · next x hx =>
    have hoff : Moves c s (s.setLink { s.link with sending := none }) := Move.sendAborted.moves
    have hcount : ∀ u, u.link.sending = none → Moves c u
        (if u.holdsItem x.item then countFailure x u else u.setLink { u.link with attempts := 0, counted := none }) := by
      intro u hu
      split
      · next hitem => exact countFailure_moves x hitem hu
      · exact Move.countNone.moves
    dsimp only
    split
    · refine (hoff.trans (noticeAborted_moves _)).trans (hcount _ ?_)
      unfold noticeAborted
      split
      · rfl
      · split <;> simp
    · exact hoff.trans (hcount _ rfl)

/-! ### Every command -/

theorem event_started_or_moves {f : State → State} (hf : StartedOrMoves c s (f s)) (h : event f s = .next t) :
    StartedOrMoves c s t := by
  cases h
  obtain ⟨straps, feedback, medium, hu⟩ | hmoves := hf
  · refine .inl ⟨straps, feedback, medium, ?_⟩
    rw [hu]
    simp [endEvent, settleReadiness, State.ready, startRun, forgetCounted, LinkController.atStart, settleWait, State.mayWait,
      BallotUnit.atStart, State.setBallot]
  · exact .inr (hmoves.trans (endEvent_moves s))

/-- What a command can do: start the station, or make one change after the other. -/
theorem exec_started_or_moves (h : exec c s = .next t) : StartedOrMoves c s t := by
  have harrive : ∀ {a valid} {owner : State → State}, (∀ u, Moves c u (owner u)) →
      event (arrive a valid owner) s = .next t → StartedOrMoves c s t := fun ho => event_started_or_moves (arrive_moves ho)
  have hmoves : ∀ {f : State → State}, Moves c s (f s) → event f s = .next t → StartedOrMoves c s t :=
    fun hf => event_started_or_moves (.inr hf)
  have horder : ∀ {number target extra kind fits run} {broadcast : State → State}, (∀ u, Moves c u (run u).1) →
      (kind = .restart → ∀ u, (run u).1 = u) → (∀ u, Moves c u (broadcast u)) →
      event (orderArrives number target extra kind fits run broadcast) s = .next t → StartedOrMoves c s t :=
    fun hrun hrestart hb => event_started_or_moves (orderArrives_started_or_moves _ _ _ _ hrun hrestart hb)
  have hnone : ∀ u, Moves c u (noBroadcast u) := fun _ => .refl
  have hraise : ∀ u, Moves c u (raiseGateway u) := fun _ => (Move.raiseHold _ _ (by decide)).moves
  have hlift : ∀ u, Moves c u (liftGateway u) := fun _ => (Move.liftHold _ (by decide)).moves
  have hread : ∀ {number target args read}, event (readArrives number target args read) s = .next t → StartedOrMoves c s t :=
    event_started_or_moves (readArrives_started_or_moves ..)
  cases c with
  | supplyStart straps feedback medium => exact event_started_or_moves (.inl ⟨straps, feedback, medium, rfl⟩) h
  | storeReadCompletion => exact hmoves completeRead_moves h
  | sweepTimerExpiry => exact hmoves expireSweepTimer_moves h
  | sweepCompletion r => exact hmoves (completeSweep_moves r) h
  | tallyTimerExpiry => exact hmoves expireTallyTimer_moves h
  | settleTimerExpiry => exact hmoves expireSettleTimer_moves h
  | proposalTimerExpiry => exact hmoves expireProposalTimer_moves h
  | pledgeTimerExpiry => exact hmoves expirePledgeTimer_moves h
  | confirmTimerExpiry => exact hmoves expireConfirmTimer_moves h
  | settleCheckExpiry => exact hmoves expireCheck_moves h
  | feedbackChange l => exact hmoves (changeFeedback_moves l) h
  | accessWaitExpiry => exact hmoves Move.expireAccessWait.moves h
  | frameStart => exact hmoves Move.frameStart.moves h
  | sendCompletion => exact event_started_or_moves completeSend_started_or_moves h
  | sendAbort => exact hmoves abortSend_moves h
  | discardedFrame => exact hmoves Move.lineQuiet.moves h
  | duplicateFrame =>
    refine hmoves ?_ h
    unfold takeDuplicate
    split
    · exact ownAddressHeard_moves
    · exact .refl
  | tally a x => exact harrive (fun _ => takeTally_moves ..) h
  | announce a d => exact harrive (fun _ => takeAnnounce_moves ..) h
  | hold a n k i d => exact harrive (fun _ => takeHold_moves _) h
  | lift a n => exact harrive (fun _ => takeLift_moves ..) h
  | propose a b n d => exact harrive (fun _ => takePropose_moves ..) h
  | assent a b => exact harrive (fun _ => takeAssent_moves ..) h
  | demur a b r => exact harrive (fun _ => takeDemur_moves b) h
  | commit a b => exact harrive (fun _ => takeCommit_moves b) h
  | withdraw a b => exact harrive (fun _ => takeWithdraw_moves b) h
  | answer a p => exact harrive (fun _ => .refl) h
  | activeWriteCompletion o => exact hmoves (Move.completeActive o).moves h
  | releaseWriteCompletion o => exact hmoves (Move.completeRelease o).moves h
  | configWriteCompletion o => exact hmoves (Move.completeConfig o).moves h
  | orderOpen n a args => exact horder hraise (by nofun) hraise h
  | orderFree n a args => exact horder hlift (by nofun) hlift h
  | reclose n a args => exact horder (fun _ => runReclose_moves) (by nofun) (fun _ => broadcastReclose_moves) h
  | release n a args => exact horder (fun _ => runRelease_moves _) (by nofun) hnone h
  | clearSwitch n a args => exact horder (fun _ => runClearSwitch_moves) (by nofun) hnone h
  | store n a args => exact horder (fun _ => runStoreArgs_moves args) (by nofun) hnone h
  | storeCommit n a page data => exact horder (fun _ => runStore_moves ..) (by nofun) hnone h
  | pauseBleed n a args => exact horder (fun _ => Move.pausePlan.moves) (by nofun) (fun _ => Move.pausePlan.moves) h
  | resumeBleed n a args => exact horder (fun _ => Move.resumePlan.moves) (by nofun) (fun _ => Move.resumePlan.moves) h
  | restart n a args => exact horder (fun _ => .refl) (fun _ _ => rfl) hnone h
  | readIdentity n a args => exact hread h
  | readSamples n a args => exact hread h
  | readMonitor n a args => exact hread h
  | readOwnHolds n a args => exact hread h
  | readRemoteHolds n a args => exact hread h
  | readRoster n a args => exact hread h
  | readBleed n a args => exact hread h
  | readBallot n a args => exact hread h
  | readLockout n a args => exact hread h
  | readConfig n a args => exact hread h
  | orderOfUnknownKind n a kind args => exact horder (fun _ => .refl) (by nofun) hnone h
  | readOfUnknownRecord n a args => exact horder (fun _ => .refl) (by nofun) hnone h
  -- RECALL, whose constructor bears the name of a Mathlib command
  | _ => exact harrive (fun _ => takeRecall_moves _) h

end

/-- What every part of an event keeps, a chain of them keeps. -/
theorem Moves.keeps {c : Instr} {P : State → Prop} (hP : ∀ s t, Move c s t → P s → P t) {s t : State} (h : Moves c s t) :
    P s → P t := by
  induction h with
  | refl => exact id
  | tail _ hlast ih => exact fun hs => hP _ _ hlast (ih hs)

/-- An invariant of the step: the queue does not matter to it, time keeps it, a start sets it up, every part of an event keeps it. -/
theorem step_keeps {P : State → Prop} (hpending : ∀ s l, P s → P (s.setPending l)) (htick : ∀ s, P s → P (tick s))
    (hstart : ∀ straps feedback medium s, P (startRun straps feedback medium s))
    (hmove : ∀ c s t, Move c s t → P s → P t) {s t : State} (h : step s = .next t) (hs : P s) : P t := by
  have hexec : ∀ c u, P u → exec c u = .next t → P t := by
    intro c u hu hc
    obtain ⟨straps, feedback, medium, rfl⟩ | hmoves := exec_started_or_moves hc
    · exact hstart straps feedback medium u
    · exact hmoves.keeps (hmove c) hu
  unfold step at h
  split at h
  · exact hexec _ _ (hpending s _ hs) h
  · unfold idle at h
    split at h
    · exact hexec _ s hs h
    · cases h
      exact htick s hs

end Sys2Proof.Machine

/-! What the shared ballot operations make of the ballot record and of the switch: a mode change, leaving, offering, proposing,
assenting, closing (R48, R52, R57, R61, R68). -/

namespace Sys2Proof.Machine

section
variable {s t : State}

/-! ### A mode change -/

theorem ready_eq_false_of_mode (h : s.ballot.mode ≠ .opened) : s.ready = false :=
  Bool.eq_false_of_not_eq_true fun hr => h (ready_mode hr)

theorem settleReadiness_ballot_of_mode (before : State) (h : s.ballot.mode ≠ .opened) :
    (settleReadiness before s).ballot = { s.ballot with settle := .stopped } := by
  unfold settleReadiness
  rw [ready_eq_false_of_mode h]
  rfl

/-- Judging readiness can only change the settle timer. -/
theorem settleReadiness_ballot (before s : State) :
    (settleReadiness before s).ballot = { s.ballot with settle := (settleReadiness before s).ballot.settle } := by
  unfold settleReadiness
  split
  · split <;> rfl
  · rfl

theorem setMode_of_eq {m : Mode} (h : s.ballot.mode = m) : setMode m s = s := if_pos h

theorem deliverToPlanner_ballot_eq (m : Mode) (s : State) : (deliverToPlanner m s).ballot = s.ballot :=
  deliverToPlanner_ballot m s

theorem setMode_ballot {m : Mode} (hne : s.ballot.mode ≠ m) (hm : m ≠ .opened) :
    (setMode m s).ballot = { s.ballot with mode := m, settle := .stopped } := by
  unfold setMode
  rw [if_neg hne, deliverToPlanner_ballot, deliverToDriver_ballot]
  exact settleReadiness_ballot_of_mode s hm

theorem setMode_ballot_of_settle (m : Mode) (s : State) :
    (setMode m s).ballot = { s.ballot with mode := m, settle := (setMode m s).ballot.settle } := by
  unfold setMode
  split
  · next h => rw [← h]
  · rw [deliverToPlanner_ballot, deliverToDriver_ballot]
    exact settleReadiness_ballot _ _

theorem deliverToDriver_command (m : Mode) (s : State) : (deliverToDriver m s).switch.command = commandFor m := by
  unfold deliverToDriver
  split
  · next h => exact h.symm
  · rfl

/-- The command follows the mode, as R48 has it. -/
theorem switchFollowsMode_iff : SwitchFollowsMode s ↔ s.switch.command = commandFor s.ballot.mode := by
  unfold SwitchFollowsMode commandFor
  cases s.ballot.mode <;> cases s.switch.command <;> simp

theorem setMode_command (m : Mode) (s : State) :
    (setMode m s).switch.command = if s.ballot.mode = m then s.switch.command else commandFor m := by
  unfold setMode
  split
  · rfl
  · rw [deliverToPlanner_switch, deliverToDriver_command]

theorem setMode_switchFollowsMode (m : Mode) (h : SwitchFollowsMode s) : SwitchFollowsMode (setMode m s) := by
  rw [switchFollowsMode_iff] at h ⊢
  rw [setMode_command, setMode_mode]
  split
  · next hm => rw [h, hm]
  · rfl

/-! ### Leaving -/

/-- The modes in which a station has a ballot to leave. -/
def State.isParty (s : State) : Prop := s.ballot.mode = .pledged ∨ s.ballot.mode = .closed

theorem leave_of_party (h : s.isParty) :
    leave s = setMode .opened ((withdrawClaim s).setBallot (leftRecord s.ballot)) := by
  have hactive : s.ballot.mode = .pledged ∨ s.ballot.mode = .closed := h
  unfold leave
  rw [if_pos hactive]
  simp only [withdrawClaim_ballot]

theorem leave_mode_of_party (h : s.isParty) : (leave s).ballot.mode = .opened := by
  have hactive : s.ballot.mode = .pledged ∨ s.ballot.mode = .closed := h
  rw [leave_mode, if_pos hactive]

theorem leave_of_not_party (h : ¬ s.isParty) : leave s = s := if_neg h

theorem leave_ballot_of_party (h : s.isParty) :
    (leave s).ballot = { leftRecord s.ballot with mode := .opened, settle := (leave s).ballot.settle } := by
  rw [leave_of_party h]
  exact setMode_ballot_of_settle _ _

theorem leave_command_of_party (h : s.isParty) : (leave s).switch.command = .opened := by
  rw [leave_of_party h, setMode_command]
  have hrecord : (leftRecord s.ballot).mode = s.ballot.mode := by unfold leftRecord; split <;> rfl
  have hne : ¬ ((withdrawClaim s).setBallot (leftRecord s.ballot)).ballot.mode = .opened := by
    show ¬ (leftRecord s.ballot).mode = .opened
    rw [hrecord]
    rcases h with h | h <;> rw [h] <;> decide
  rw [if_neg hne]
  rfl

theorem leave_switchFollowsMode (h : SwitchFollowsMode s) : SwitchFollowsMode (leave s) := by
  by_cases hp : s.isParty
  · rw [switchFollowsMode_iff, leave_command_of_party hp, leave_mode_of_party hp]
    rfl
  · rwa [leave_of_not_party hp]

/-! ### Offering, proposing, assenting -/

theorem offer_of_no_current {b : Ballot} (h : s.ballot.current = none) (hreplace : s.wouldReplace b = true) :
    offer b s = s.changeBallot { s.ballot with highest := b } := by
  unfold offer
  rw [if_pos hreplace]
  simp [h]

theorem offer_of_current {b : Ballot} (h : s.ballot.current.isSome = true) (hreplace : s.wouldReplace b = true) :
    offer b s = leave (s.changeBallot { s.ballot with highest := b }) := by
  unfold offer
  rw [if_pos hreplace]
  simp [h]

/-- A station without a current ballot changes its record by an offer in the highest ballot seen and the settle timer alone. -/
theorem offer_ballot_of_no_current (b : Ballot) (h : s.ballot.current = none) :
    (offer b s).ballot =
      { s.ballot with highest := (offer b s).ballot.highest, settle := (offer b s).ballot.settle } := by
  cases hreplace : s.wouldReplace b with
  | false => rw [offer_of_not_replacing b s hreplace]
  | true =>
    rw [offer_of_no_current h hreplace]
    conv_lhs => rw [State.changeBallot, settleReadiness_ballot]
    simp [State.changeBallot]

theorem offer_switch_of_no_current (b : Ballot) (h : s.ballot.current = none) : (offer b s).switch = s.switch := by
  cases hreplace : s.wouldReplace b with
  | false => rw [offer_of_not_replacing b s hreplace]
  | true => rw [offer_of_no_current h hreplace]; simp

theorem offer_link_of_no_current (b : Ballot) (h : s.ballot.current = none) : (offer b s).link = s.link := by
  cases hreplace : s.wouldReplace b with
  | false => rw [offer_of_not_replacing b s hreplace]
  | true => rw [offer_of_no_current h hreplace]; simp

/-- The ballot a station proposes: the next epoch under its own address (R57). -/
def State.nextBallot (s : State) : Ballot := ⟨s.ballot.highest.epoch + 1, s.own⟩

/-- A proposer before it claims its PROPOSE (R57). -/
def proposerState (s : State) : State :=
  (offer s.nextBallot s).setBallot
    { (offer s.nextBallot s).ballot with
      current := some s.nextBallot, role := .proposer, votes := [s.own], commitClaimed := false }

/-- A PLEDGED proposer, before its timer starts (R57). -/
def pledgedProposer (s : State) : State :=
  setMode .pledged (claim (.propose s.nextBallot s.size s.startup.digest) (proposerState s))

theorem propose_eq (s : State) :
    propose s = (pledgedProposer s).setBallot
      { (pledgedProposer s).ballot with proposal := Timer.startMs s.cfg.shared.proposalTime } := rfl

/-- A voter before it claims its ASSENT (R61). -/
def voterState (b : Ballot) (s : State) : State := s.setBallot { s.ballot with current := some b, role := .voter }

/-- A PLEDGED voter, before its timer starts (R61). -/
def pledgedVoter (b : Ballot) (s : State) : State := setMode .pledged (claim (.assent b) (voterState b s))

theorem assent_eq (b : Ballot) (s : State) :
    assent b s = (pledgedVoter b s).setBallot
      { (pledgedVoter b s).ballot with pledge := Timer.startMs (2 * s.cfg.shared.proposalTime) } := rfl

/-- What entering PLEDGED makes of the record of a station that was OPEN. -/
theorem setMode_pledged_claim_ballot (x : Claim) (h : s.ballot.mode = .opened) :
    (setMode .pledged (claim x s)).ballot = { s.ballot with mode := .pledged, settle := .stopped } := by
  rw [setMode_ballot (by rw [claim_ballot, h]; decide) (by decide), claim_ballot]

theorem setMode_pledged_claim_command (x : Claim) (h : s.ballot.mode = .opened) :
    (setMode .pledged (claim x s)).switch.command = .opened := by
  rw [setMode_command, claim_ballot, if_neg (by rw [h]; decide)]
  rfl

theorem proposerState_mode (hmode : s.ballot.mode = .opened) (hcurrent : s.ballot.current = none) :
    (proposerState s).ballot.mode = .opened := by
  show (offer s.nextBallot s).ballot.mode = .opened
  rw [offer_ballot_of_no_current _ hcurrent, hmode]

/-- What proposing makes of the record of a station without a current ballot (R57). -/
theorem propose_ballot (hmode : s.ballot.mode = .opened) (hcurrent : s.ballot.current = none) :
    (propose s).ballot =
      { s.ballot with
        mode := .pledged, current := some s.nextBallot, role := .proposer, votes := [s.own], commitClaimed := false,
        highest := (offer s.nextBallot s).ballot.highest, settle := .stopped,
        proposal := Timer.startMs s.cfg.shared.proposalTime } := by
  rw [propose_eq, State.setBallot_ballot, pledgedProposer, setMode_pledged_claim_ballot _ (proposerState_mode hmode hcurrent),
    proposerState, State.setBallot_ballot, offer_ballot_of_no_current _ hcurrent]

/-- What assenting makes of an OPEN station's record (R61). -/
theorem assent_ballot (b : Ballot) (hmode : s.ballot.mode = .opened) :
    (assent b s).ballot =
      { s.ballot with
        mode := .pledged, current := some b, role := .voter, settle := .stopped,
        pledge := Timer.startMs (2 * s.cfg.shared.proposalTime) } := by
  have hvoter : (voterState b s).ballot.mode = .opened := hmode
  rw [assent_eq, State.setBallot_ballot, pledgedVoter, setMode_pledged_claim_ballot _ hvoter]
  rfl

theorem propose_command (hmode : s.ballot.mode = .opened) (hcurrent : s.ballot.current = none) :
    (propose s).switch.command = .opened :=
  setMode_pledged_claim_command _ (proposerState_mode hmode hcurrent)

theorem assent_command (b : Ballot) (hmode : s.ballot.mode = .opened) : (assent b s).switch.command = .opened :=
  setMode_pledged_claim_command _ hmode

/-! ### Closing -/

theorem enterClosed_of_hold (h : s.holds.own ≠ [] ∨ s.holds.remote ≠ []) : enterClosed s = leave s := by
  unfold enterClosed
  rw [if_pos]
  simpa using h

/-- A station past the ballot, and before it commands its switch: the confirm timer runs, no member is confirmed (R68). -/
def closingState (s : State) : State :=
  (s.setBallot
    { s.ballot with
      proposal := .stopped, pledge := .stopped, role := .none, votes := [], commitClaimed := false,
      confirm := Timer.startMs (3 * s.cfg.shared.tallyPeriod) }).setRoster
    { s.roster with
      entries := s.roster.entries.map fun e => if s.isMember e.address then { e with confirmed := false } else e }

theorem enterClosed_of_no_hold (hown : s.holds.own = []) (hremote : s.holds.remote = []) :
    enterClosed s = setMode .closed (closingState s) := by
  unfold enterClosed
  rw [hown, hremote]
  rfl

/-- What closing makes of the record of a PLEDGED station without a hold anywhere (R68). -/
theorem enterClosed_ballot (hmode : s.ballot.mode = .pledged) (hown : s.holds.own = []) (hremote : s.holds.remote = []) :
    (enterClosed s).ballot =
      { s.ballot with
        mode := .closed, role := .none, votes := [], commitClaimed := false, settle := .stopped, proposal := .stopped,
        pledge := .stopped, confirm := Timer.startMs (3 * s.cfg.shared.tallyPeriod) } := by
  have hne : (closingState s).ballot.mode ≠ .closed := by
    show s.ballot.mode ≠ .closed
    rw [hmode]; decide
  rw [enterClosed_of_no_hold hown hremote, setMode_ballot hne (by decide)]
  rfl

end

end Sys2Proof.Machine

/-! What raising and lifting do to the own hold set (R33 to R36), and what the lockout unit's operations are made of as seen from
every other block. -/

namespace Sys2Proof.Machine

section
variable {s t : State}

/-! ### The own hold set -/

theorem raiseHold_of_new {cause : Cause} {index : Option Nat} (detail : Option Detail) (h : s.ownHold cause index = none) :
    raiseHold cause index detail s =
      leave (appendNotice .hold s.holds.allocate false (addOwn cause index detail s)) := by
  unfold raiseHold
  rw [h]
  rfl

theorem raiseHold_of_same {cause : Cause} {index : Option Nat} {x : OwnHold} (h : s.ownHold cause index = some x) :
    raiseHold cause index x.detail s = s := by
  unfold raiseHold
  rw [h]
  exact if_pos rfl

theorem raiseHold_of_other {cause : Cause} {index : Option Nat} {detail : Option Detail} {x : OwnHold}
    (h : s.ownHold cause index = some x) (hne : x.detail ≠ detail) :
    raiseHold cause index detail s =
      match s.holdNotice x.serial with
      | some _ => changeDetail cause index detail s
      | none => appendNotice .hold x.serial true (changeDetail cause index detail s) := by
  unfold raiseHold
  rw [h]
  exact if_neg hne

/-- What a raise can be: of a new key, of a standing one with its detail, of a standing one with another. -/
theorem raiseHold_cases (cause : Cause) (index : Option Nat) (detail : Option Detail) (s : State) :
    (s.ownHold cause index = none ∧ raiseHold cause index detail s =
        leave (appendNotice .hold s.holds.allocate false (addOwn cause index detail s))) ∨
      (∃ x, s.ownHold cause index = some x ∧ x.detail = detail ∧ raiseHold cause index detail s = s) ∨
      ∃ x, s.ownHold cause index = some x ∧ x.detail ≠ detail ∧
        (raiseHold cause index detail s = changeDetail cause index detail s ∨
          raiseHold cause index detail s = appendNotice .hold x.serial true (changeDetail cause index detail s)) := by
  cases h : s.ownHold cause index with
  | none => exact .inl ⟨rfl, raiseHold_of_new detail h⟩
  | some x =>
    refine .inr ?_
    by_cases hd : x.detail = detail
    · exact .inl ⟨x, rfl, hd, by rw [← hd]; exact raiseHold_of_same h⟩
    · refine .inr ⟨x, rfl, hd, ?_⟩
      rw [raiseHold_of_other h hd]
      split
      · exact .inl rfl
      · exact .inr rfl

theorem addOwn_own (cause : Cause) (index : Option Nat) (detail : Option Detail) (s : State) :
    (addOwn cause index detail s).holds.own = s.holds.own ++ [⟨s.holds.allocate, cause, index, detail, s.now⟩] := by
  unfold addOwn State.changeHolds
  rw [settleReadiness_holds]
  rfl

theorem changeDetail_own (cause : Cause) (index : Option Nat) (detail : Option Detail) (s : State) :
    (changeDetail cause index detail s).holds.own =
      s.holds.own.map fun h => if h.cause = cause ∧ h.index = index then { h with detail := detail } else h := rfl

theorem ownHold_eq_none_iff {cause : Cause} {index : Option Nat} :
    s.ownHold cause index = none ↔ ∀ h ∈ s.holds.own, ¬(h.cause = cause ∧ h.index = index) := by
  simp [State.ownHold, List.find?_eq_none]

/-- A lift removes the records of its key and keeps the rest in order (R35). -/
theorem liftHold_own (cause : Cause) (index : Option Nat) (s : State) :
    (liftHold cause index s).holds.own =
      s.holds.own.filter fun x => decide (¬(x.cause = cause ∧ x.index = index)) := by
  unfold liftHold
  split
  · next h =>
    refine (List.filter_eq_self.2 fun x hx => ?_).symm
    exact decide_eq_true (ownHold_eq_none_iff.1 h x hx)
  · rw [liftNotices_holds_own]
    unfold State.changeHolds
    rw [settleReadiness_holds]
    rfl

/-- A raise of a new key appends its record. -/
theorem raiseHold_own_of_new {cause : Cause} {index : Option Nat} (detail : Option Detail)
    (h : s.ownHold cause index = none) :
    (raiseHold cause index detail s).holds.own =
      s.holds.own ++ [⟨s.holds.allocate, cause, index, detail, s.now⟩] := by
  rw [raiseHold_of_new detail h, leave_holds, appendNotice_holds_own, addOwn_own]

/-- A raise of a standing key sets its detail. -/
theorem raiseHold_own_of_standing {cause : Cause} {index : Option Nat} (detail : Option Detail) {x : OwnHold}
    (h : s.ownHold cause index = some x) (hne : x.detail ≠ detail) :
    (raiseHold cause index detail s).holds.own =
      s.holds.own.map fun h => if h.cause = cause ∧ h.index = index then { h with detail := detail } else h := by
  rw [raiseHold_of_other h hne]
  split
  · rfl
  · rw [appendNotice_holds_own, changeDetail_own]

/-- The record of a lockout that begins (R145 steps 1 and 2). -/
def newLockout (e : Escalation) (s : State) : LockoutRecord :=
  { state := .active, serial := s.lockout.copies.nextSerial, cause := some e.cause, index := e.index, retained := false,
    attempt := 0 }

/-- A lockout with its hold raised, before its write (R145 step 3). -/
def lockoutRaised (e : Escalation) (s : State) : State :=
  raiseHold .lockout none (some (.lockout e.cause)) (s.setLockout { s.lockout with record := newLockout e s })

theorem beginLockout_eq (e : Escalation) (s : State) :
    beginLockout e s =
      if (lockoutRaised e s).lockout.copies.exhausted then lockoutRaised e s
      else if (lockoutRaised e s).lockout.inFlight.isNone then startActive (lockoutRaised e s)
      else (lockoutRaised e s).setLockout { (lockoutRaised e s).lockout with pendingWrite := true } := rfl

/-! ### The lockout unit's operations, seen from the other blocks -/

/-- A predicate that raising, lifting and claiming keep, and that does not read monitors, lockout unit, store or orders. -/
structure LockoutKept (P : State → Prop) : Prop where
  raise : ∀ cause index detail s, P s → P (raiseHold cause index detail s)
  lift : ∀ cause index s, P s → P (liftHold cause index s)
  claim : ∀ x s, P s → P (claim x s)
  blocks : ∀ s (monitors : MonitorBank) (lockout : LockoutUnit) (store : RetainedStore) (orders : OrderHandler), P s →
    P { s with monitors := monitors, lockout := lockout, store := store, orders := orders }

/-- Such a predicate that does not read what the store read settles either. -/
structure LockoutClosed (P : State → Prop) : Prop extends LockoutKept P where
  settled : ∀ s (startup : StartSequence), startup.address = s.startup.address → P s → P (s.setStartup startup)

namespace LockoutKept
variable {P : State → Prop} (hP : LockoutKept P)
include hP

theorem setLockout (x : LockoutUnit) (hs : P s) : P (s.setLockout x) :=
  hP.blocks s s.monitors x s.store s.orders hs

theorem setOrders (x : OrderHandler) (hs : P s) : P (s.setOrders x) :=
  hP.blocks s s.monitors s.lockout s.store x hs

theorem startWrite (w : Write) (hs : P s) : P (startWrite w s) :=
  hP.blocks s s.monitors _ _ s.orders hs

theorem endWrite (w : Write) (o : WriteOutcome) (hs : P s) : P (endWrite w o s) :=
  hP.blocks s s.monitors _ _ s.orders hs

theorem startActiveTo (n : SlotName) (attempt : Nat) (hs : P s) : P (startActiveTo n attempt s) := by
  unfold Machine.startActiveTo
  split
  · exact hP.startWrite _ (hP.setLockout _ hs)
  · exact hs

theorem startPending (hs : P s) : P (startPending s) := by
  unfold Machine.startPending
  split
  · exact hP.startActiveTo _ _ (hP.setLockout _ hs)
  · exact hs

theorem beginLockout (e : Escalation) (hs : P s) : P (beginLockout e s) := by
  have hraised : P (lockoutRaised e s) := hP.raise _ _ _ _ (hP.setLockout _ hs)
  rw [beginLockout_eq]
  split
  · exact hraised
  · split
    · exact hP.startActiveTo _ _ hraised
    · exact hP.setLockout _ hraised

theorem escalate (e : Escalation) (hs : P s) : P (escalate e s) := by
  unfold Machine.escalate
  split
  · exact hP.beginLockout e hs
  · split
    · exact hP.setLockout _ hs
    · exact hs
  · exact hs

theorem answerAwaited (r : OrderResult) (hs : P s) : P (answerAwaited r s) := by
  unfold Machine.answerAwaited
  split
  · exact hs
  · exact hP.setOrders _ (hP.claim _ _ (hP.setOrders _ hs))

theorem completeActive (o : WriteOutcome) (hs : P s) : P (completeActive o s) := by
  unfold Machine.completeActive
  split
  · next n x h =>
    have hended := hP.endWrite (.active n x) o hs
    dsimp only
    refine hP.startPending ?_
    split
    · exact hP.setLockout _ hended
    · split
      · exact hP.startActiveTo _ _ hended
      · exact hended
  · exact hs

theorem completeConfig (o : WriteOutcome) (hs : P s) : P (completeConfig o s) := by
  unfold Machine.completeConfig
  split
  · exact hP.startPending (hP.answerAwaited _ (hP.endWrite _ o hs))
  · exact hs

theorem completeRelease (o : WriteOutcome) (hs : P s) : P (completeRelease o s) := by
  unfold Machine.completeRelease
  split
  · next n x h =>
    have hended := hP.endWrite (.release n x) o hs
    dsimp only
    refine hP.startPending ?_
    split
    · have hreleased : P (releaseRecord (Machine.endWrite (.release n x) .ok s)) := hP.setLockout _ hended
      have hanswered := hP.answerAwaited (.done []) (hP.lift .lockout none _ hreleased)
      unfold applyPendingEscalation
      split
      · exact hP.beginLockout _ (hP.setLockout _ hanswered)
      · exact hanswered
    · exact hP.setLockout _ (hP.answerAwaited _ hended)
  · exact hs

theorem startRelease (hs : P s) : P (startRelease s) := by
  unfold Machine.startRelease
  split
  · exact hP.startWrite _ hs
  · exact hs

end LockoutKept

namespace LockoutClosed
variable {P : State → Prop} (hP : LockoutClosed P)
include hP

theorem settleConfig (hs : P s) : P (settleConfig s) := by
  unfold Machine.settleConfig
  have hset : ∀ c d, P (s.setStartup { s.startup with config := c, digest := d }) := fun _ _ =>
    hP.settled s _ rfl hs
  dsimp only
  split
  · exact hP.raise _ _ _ _ (hset _ _)
  · exact hset _ _

theorem settleLockout (hs : P s) : P (settleLockout s) := by
  unfold Machine.settleLockout
  have hset : ∀ r, P (s.setLockout { s.lockout with record := r }) := fun _ => hP.setLockout _ hs
  dsimp only
  split
  · exact hP.raise _ _ _ _ (hset _)
  · exact hset _

theorem settledRead (hs : P s) : P (finishRead (Machine.settleLockout (Machine.settleConfig (copySlots s)))) :=
  have hcopied : P (copySlots s) := hP.setLockout _ hs
  let read := Machine.settleLockout (Machine.settleConfig (copySlots s))
  hP.blocks (read.setStartup { read.startup with readComplete := true }) { read.monitors with records := formMonitors read.fitted }
    read.lockout read.store read.orders (hP.settled read _ rfl (hP.settleLockout (hP.settleConfig hcopied)))

end LockoutClosed

end

/-! ### Which blocks the completions of writes and the answers that wait for them leave alone -/

/-! ### `answerAwaited` -/

@[simp] theorem answerAwaited_pending (r : OrderResult) (s : State) : (answerAwaited r s).pending = s.pending := by
  unfold answerAwaited; (repeat' split) <;> simp
@[simp] theorem answerAwaited_pins (r : OrderResult) (s : State) : (answerAwaited r s).pins = s.pins := by
  unfold answerAwaited; (repeat' split) <;> simp
@[simp] theorem answerAwaited_clock (r : OrderResult) (s : State) : (answerAwaited r s).clock = s.clock := by
  unfold answerAwaited; (repeat' split) <;> simp
@[simp] theorem answerAwaited_startup (r : OrderResult) (s : State) : (answerAwaited r s).startup = s.startup := by
  unfold answerAwaited; (repeat' split) <;> simp
@[simp] theorem answerAwaited_sweep (r : OrderResult) (s : State) : (answerAwaited r s).sweep = s.sweep := by
  unfold answerAwaited; (repeat' split) <;> simp
@[simp] theorem answerAwaited_monitors (r : OrderResult) (s : State) : (answerAwaited r s).monitors = s.monitors := by
  unfold answerAwaited; (repeat' split) <;> simp
@[simp] theorem answerAwaited_holds (r : OrderResult) (s : State) : (answerAwaited r s).holds = s.holds := by
  unfold answerAwaited; (repeat' split) <;> simp
@[simp] theorem answerAwaited_roster (r : OrderResult) (s : State) : (answerAwaited r s).roster = s.roster := by
  unfold answerAwaited; (repeat' split) <;> simp
@[simp] theorem answerAwaited_ballot (r : OrderResult) (s : State) : (answerAwaited r s).ballot = s.ballot := by
  unfold answerAwaited; (repeat' split) <;> simp
@[simp] theorem answerAwaited_plan (r : OrderResult) (s : State) : (answerAwaited r s).plan = s.plan := by
  unfold answerAwaited; (repeat' split) <;> simp
@[simp] theorem answerAwaited_switch (r : OrderResult) (s : State) : (answerAwaited r s).switch = s.switch := by
  unfold answerAwaited; (repeat' split) <;> simp
@[simp] theorem answerAwaited_lockout (r : OrderResult) (s : State) : (answerAwaited r s).lockout = s.lockout := by
  unfold answerAwaited; (repeat' split) <;> simp
@[simp] theorem answerAwaited_store (r : OrderResult) (s : State) : (answerAwaited r s).store = s.store := by
  unfold answerAwaited; (repeat' split) <;> simp
@[simp] theorem answerAwaited_free (r : OrderResult) (s : State) : (answerAwaited r s).free = s.free := by
  unfold answerAwaited; (repeat' split) <;> simp

/-! ### `startRelease` -/

@[simp] theorem startRelease_pending (s : State) : (startRelease s).pending = s.pending := by
  unfold startRelease; (repeat' split) <;> simp
@[simp] theorem startRelease_pins (s : State) : (startRelease s).pins = s.pins := by
  unfold startRelease; (repeat' split) <;> simp
@[simp] theorem startRelease_clock (s : State) : (startRelease s).clock = s.clock := by
  unfold startRelease; (repeat' split) <;> simp
@[simp] theorem startRelease_startup (s : State) : (startRelease s).startup = s.startup := by
  unfold startRelease; (repeat' split) <;> simp
@[simp] theorem startRelease_sweep (s : State) : (startRelease s).sweep = s.sweep := by
  unfold startRelease; (repeat' split) <;> simp
@[simp] theorem startRelease_monitors (s : State) : (startRelease s).monitors = s.monitors := by
  unfold startRelease; (repeat' split) <;> simp
@[simp] theorem startRelease_holds (s : State) : (startRelease s).holds = s.holds := by
  unfold startRelease; (repeat' split) <;> simp
@[simp] theorem startRelease_roster (s : State) : (startRelease s).roster = s.roster := by
  unfold startRelease; (repeat' split) <;> simp
@[simp] theorem startRelease_ballot (s : State) : (startRelease s).ballot = s.ballot := by
  unfold startRelease; (repeat' split) <;> simp
@[simp] theorem startRelease_plan (s : State) : (startRelease s).plan = s.plan := by
  unfold startRelease; (repeat' split) <;> simp
@[simp] theorem startRelease_switch (s : State) : (startRelease s).switch = s.switch := by
  unfold startRelease; (repeat' split) <;> simp
@[simp] theorem startRelease_link (s : State) : (startRelease s).link = s.link := by
  unfold startRelease; (repeat' split) <;> simp
@[simp] theorem startRelease_orders (s : State) : (startRelease s).orders = s.orders := by
  unfold startRelease; (repeat' split) <;> simp
@[simp] theorem startRelease_free (s : State) : (startRelease s).free = s.free := by
  unfold startRelease; (repeat' split) <;> simp

/-! ### `completeActive` -/

@[simp] theorem completeActive_pending (o : WriteOutcome) (s : State) : (completeActive o s).pending = s.pending := by
  unfold completeActive; dsimp only; (repeat' split) <;> simp
@[simp] theorem completeActive_pins (o : WriteOutcome) (s : State) : (completeActive o s).pins = s.pins := by
  unfold completeActive; dsimp only; (repeat' split) <;> simp
@[simp] theorem completeActive_clock (o : WriteOutcome) (s : State) : (completeActive o s).clock = s.clock := by
  unfold completeActive; dsimp only; (repeat' split) <;> simp
@[simp] theorem completeActive_startup (o : WriteOutcome) (s : State) : (completeActive o s).startup = s.startup := by
  unfold completeActive; dsimp only; (repeat' split) <;> simp
@[simp] theorem completeActive_sweep (o : WriteOutcome) (s : State) : (completeActive o s).sweep = s.sweep := by
  unfold completeActive; dsimp only; (repeat' split) <;> simp
@[simp] theorem completeActive_monitors (o : WriteOutcome) (s : State) : (completeActive o s).monitors = s.monitors := by
  unfold completeActive; dsimp only; (repeat' split) <;> simp
@[simp] theorem completeActive_holds (o : WriteOutcome) (s : State) : (completeActive o s).holds = s.holds := by
  unfold completeActive; dsimp only; (repeat' split) <;> simp
@[simp] theorem completeActive_roster (o : WriteOutcome) (s : State) : (completeActive o s).roster = s.roster := by
  unfold completeActive; dsimp only; (repeat' split) <;> simp
@[simp] theorem completeActive_ballot (o : WriteOutcome) (s : State) : (completeActive o s).ballot = s.ballot := by
  unfold completeActive; dsimp only; (repeat' split) <;> simp
@[simp] theorem completeActive_plan (o : WriteOutcome) (s : State) : (completeActive o s).plan = s.plan := by
  unfold completeActive; dsimp only; (repeat' split) <;> simp
@[simp] theorem completeActive_switch (o : WriteOutcome) (s : State) : (completeActive o s).switch = s.switch := by
  unfold completeActive; dsimp only; (repeat' split) <;> simp
@[simp] theorem completeActive_link (o : WriteOutcome) (s : State) : (completeActive o s).link = s.link := by
  unfold completeActive; dsimp only; (repeat' split) <;> simp
@[simp] theorem completeActive_orders (o : WriteOutcome) (s : State) : (completeActive o s).orders = s.orders := by
  unfold completeActive; dsimp only; (repeat' split) <;> simp
@[simp] theorem completeActive_free (o : WriteOutcome) (s : State) : (completeActive o s).free = s.free := by
  unfold completeActive; dsimp only; (repeat' split) <;> simp

/-! ### `completeConfig` -/

@[simp] theorem completeConfig_pending (o : WriteOutcome) (s : State) : (completeConfig o s).pending = s.pending := by
  unfold completeConfig; (repeat' split) <;> simp
@[simp] theorem completeConfig_pins (o : WriteOutcome) (s : State) : (completeConfig o s).pins = s.pins := by
  unfold completeConfig; (repeat' split) <;> simp
@[simp] theorem completeConfig_clock (o : WriteOutcome) (s : State) : (completeConfig o s).clock = s.clock := by
  unfold completeConfig; (repeat' split) <;> simp
@[simp] theorem completeConfig_startup (o : WriteOutcome) (s : State) : (completeConfig o s).startup = s.startup := by
  unfold completeConfig; (repeat' split) <;> simp
@[simp] theorem completeConfig_sweep (o : WriteOutcome) (s : State) : (completeConfig o s).sweep = s.sweep := by
  unfold completeConfig; (repeat' split) <;> simp
@[simp] theorem completeConfig_monitors (o : WriteOutcome) (s : State) : (completeConfig o s).monitors = s.monitors := by
  unfold completeConfig; (repeat' split) <;> simp
@[simp] theorem completeConfig_holds (o : WriteOutcome) (s : State) : (completeConfig o s).holds = s.holds := by
  unfold completeConfig; (repeat' split) <;> simp
@[simp] theorem completeConfig_roster (o : WriteOutcome) (s : State) : (completeConfig o s).roster = s.roster := by
  unfold completeConfig; (repeat' split) <;> simp
@[simp] theorem completeConfig_ballot (o : WriteOutcome) (s : State) : (completeConfig o s).ballot = s.ballot := by
  unfold completeConfig; (repeat' split) <;> simp
@[simp] theorem completeConfig_plan (o : WriteOutcome) (s : State) : (completeConfig o s).plan = s.plan := by
  unfold completeConfig; (repeat' split) <;> simp
@[simp] theorem completeConfig_switch (o : WriteOutcome) (s : State) : (completeConfig o s).switch = s.switch := by
  unfold completeConfig; (repeat' split) <;> simp
@[simp] theorem completeConfig_free (o : WriteOutcome) (s : State) : (completeConfig o s).free = s.free := by
  unfold completeConfig; (repeat' split) <;> simp

/-! ### `applyPendingEscalation` -/

@[simp] theorem applyPendingEscalation_pending (s : State) : (applyPendingEscalation s).pending = s.pending := by
  unfold applyPendingEscalation; (repeat' split) <;> simp
@[simp] theorem applyPendingEscalation_pins (s : State) : (applyPendingEscalation s).pins = s.pins := by
  unfold applyPendingEscalation; (repeat' split) <;> simp
@[simp] theorem applyPendingEscalation_clock (s : State) : (applyPendingEscalation s).clock = s.clock := by
  unfold applyPendingEscalation; (repeat' split) <;> simp
@[simp] theorem applyPendingEscalation_startup (s : State) : (applyPendingEscalation s).startup = s.startup := by
  unfold applyPendingEscalation; (repeat' split) <;> simp
@[simp] theorem applyPendingEscalation_sweep (s : State) : (applyPendingEscalation s).sweep = s.sweep := by
  unfold applyPendingEscalation; (repeat' split) <;> simp
@[simp] theorem applyPendingEscalation_monitors (s : State) : (applyPendingEscalation s).monitors = s.monitors := by
  unfold applyPendingEscalation; (repeat' split) <;> simp
@[simp] theorem applyPendingEscalation_roster (s : State) : (applyPendingEscalation s).roster = s.roster := by
  unfold applyPendingEscalation; (repeat' split) <;> simp
@[simp] theorem applyPendingEscalation_plan (s : State) : (applyPendingEscalation s).plan = s.plan := by
  unfold applyPendingEscalation; (repeat' split) <;> simp
@[simp] theorem applyPendingEscalation_orders (s : State) : (applyPendingEscalation s).orders = s.orders := by
  unfold applyPendingEscalation; (repeat' split) <;> simp
@[simp] theorem applyPendingEscalation_free (s : State) : (applyPendingEscalation s).free = s.free := by
  unfold applyPendingEscalation; (repeat' split) <;> simp

/-! ### `releaseRecord` -/

@[simp] theorem releaseRecord_pending (s : State) : (releaseRecord s).pending = s.pending := rfl
@[simp] theorem releaseRecord_pins (s : State) : (releaseRecord s).pins = s.pins := rfl
@[simp] theorem releaseRecord_clock (s : State) : (releaseRecord s).clock = s.clock := rfl
@[simp] theorem releaseRecord_startup (s : State) : (releaseRecord s).startup = s.startup := rfl
@[simp] theorem releaseRecord_sweep (s : State) : (releaseRecord s).sweep = s.sweep := rfl
@[simp] theorem releaseRecord_monitors (s : State) : (releaseRecord s).monitors = s.monitors := rfl
@[simp] theorem releaseRecord_holds (s : State) : (releaseRecord s).holds = s.holds := rfl
@[simp] theorem releaseRecord_roster (s : State) : (releaseRecord s).roster = s.roster := rfl
@[simp] theorem releaseRecord_ballot (s : State) : (releaseRecord s).ballot = s.ballot := rfl
@[simp] theorem releaseRecord_plan (s : State) : (releaseRecord s).plan = s.plan := rfl
@[simp] theorem releaseRecord_switch (s : State) : (releaseRecord s).switch = s.switch := rfl
@[simp] theorem releaseRecord_store (s : State) : (releaseRecord s).store = s.store := rfl
@[simp] theorem releaseRecord_link (s : State) : (releaseRecord s).link = s.link := rfl
@[simp] theorem releaseRecord_orders (s : State) : (releaseRecord s).orders = s.orders := rfl
@[simp] theorem releaseRecord_free (s : State) : (releaseRecord s).free = s.free := rfl

/-! ### `completeRelease` -/

@[simp] theorem completeRelease_pending (o : WriteOutcome) (s : State) : (completeRelease o s).pending = s.pending := by
  unfold completeRelease; dsimp only; (repeat' split) <;> simp
@[simp] theorem completeRelease_pins (o : WriteOutcome) (s : State) : (completeRelease o s).pins = s.pins := by
  unfold completeRelease; dsimp only; (repeat' split) <;> simp
@[simp] theorem completeRelease_clock (o : WriteOutcome) (s : State) : (completeRelease o s).clock = s.clock := by
  unfold completeRelease; dsimp only; (repeat' split) <;> simp
@[simp] theorem completeRelease_startup (o : WriteOutcome) (s : State) : (completeRelease o s).startup = s.startup := by
  unfold completeRelease; dsimp only; (repeat' split) <;> simp
@[simp] theorem completeRelease_sweep (o : WriteOutcome) (s : State) : (completeRelease o s).sweep = s.sweep := by
  unfold completeRelease; dsimp only; (repeat' split) <;> simp
@[simp] theorem completeRelease_monitors (o : WriteOutcome) (s : State) : (completeRelease o s).monitors = s.monitors := by
  unfold completeRelease; dsimp only; (repeat' split) <;> simp
@[simp] theorem completeRelease_roster (o : WriteOutcome) (s : State) : (completeRelease o s).roster = s.roster := by
  unfold completeRelease; dsimp only; (repeat' split) <;> simp
@[simp] theorem completeRelease_plan (o : WriteOutcome) (s : State) : (completeRelease o s).plan = s.plan := by
  unfold completeRelease; dsimp only; (repeat' split) <;> simp
@[simp] theorem completeRelease_free (o : WriteOutcome) (s : State) : (completeRelease o s).free = s.free := by
  unfold completeRelease; dsimp only; (repeat' split) <;> simp

end Sys2Proof.Machine

/-! The selection of the bleed planner (R115, R116): it takes candidates only, never two neighbours, the highest first. -/

namespace Sys2Proof.Machine

/-! ### The order of the candidates -/

/-- One candidate comes before another: by the higher value, among equals by the lower number (R116 step 1). -/
def Precedes (x y : Nat × Nat) : Prop := y.2 < x.2 ∨ y.2 = x.2 ∧ x.1 < y.1

theorem insertCandidate_perm (x : Nat × Nat) (l : List (Nat × Nat)) : (insertCandidate x l).Perm (x :: l) := by
  induction l with
  | nil => exact .refl _
  | cons y rest ih =>
    unfold insertCandidate
    split
    · exact (ih.cons y).trans (.swap x y rest)
    · exact .refl _

theorem foldl_insertCandidate_perm (l acc : List (Nat × Nat)) :
    (l.foldl (fun acc x => insertCandidate x acc) acc).Perm (l ++ acc) := by
  induction l generalizing acc with
  | nil => exact .refl _
  | cons x l ih =>
    exact (ih _).trans (((insertCandidate_perm x acc).append_left l).trans List.perm_middle)

theorem orderCandidates_perm (l : List (Nat × Nat)) : (orderCandidates l).Perm l := by
  have h := foldl_insertCandidate_perm l []
  rwa [List.append_nil] at h

theorem insertCandidate_pairwise {x : Nat × Nat} {l : List (Nat × Nat)} (hl : l.Pairwise Precedes)
    (hlt : ∀ y ∈ l, y.1 < x.1) : (insertCandidate x l).Pairwise Precedes := by
  induction l with
  | nil => exact List.pairwise_singleton _ _
  | cons y rest ih =>
    obtain ⟨hy, hrest⟩ := List.pairwise_cons.1 hl
    have hyx : y.1 < x.1 := hlt y List.mem_cons_self
    unfold insertCandidate
    split
    · next hle =>
      refine List.pairwise_cons.2 ⟨fun z hz => ?_, ih hrest fun z hz => hlt z (List.mem_cons_of_mem _ hz)⟩
      rcases List.mem_cons.1 ((insertCandidate_perm x rest).mem_iff.1 hz) with rfl | hz
      · unfold Precedes; omega
      · exact hy z hz
    · next hgt =>
      refine List.pairwise_cons.2 ⟨fun z hz => ?_, hl⟩
      rcases List.mem_cons.1 hz with rfl | hz
      · unfold Precedes; omega
      · have := hy z hz
        unfold Precedes at this ⊢
        omega

theorem foldl_insertCandidate_pairwise {l acc : List (Nat × Nat)} (hl : l.Pairwise fun x y => x.1 < y.1)
    (hacc : acc.Pairwise Precedes) (hlt : ∀ y ∈ acc, ∀ x ∈ l, y.1 < x.1) :
    (l.foldl (fun acc x => insertCandidate x acc) acc).Pairwise Precedes := by
  induction l generalizing acc with
  | nil => exact hacc
  | cons x l ih =>
    obtain ⟨hx, hl⟩ := List.pairwise_cons.1 hl
    refine ih hl (insertCandidate_pairwise hacc fun y hy => hlt y hy x List.mem_cons_self) fun y hy z hz => ?_
    rcases List.mem_cons.1 ((insertCandidate_perm x acc).mem_iff.1 hy) with rfl | hy
    · exact hx z hz
    · exact hlt y hy z (List.mem_cons_of_mem _ hz)

theorem orderCandidates_pairwise {l : List (Nat × Nat)} (hl : l.Pairwise fun x y => x.1 < y.1) :
    (orderCandidates l).Pairwise Precedes :=
  foldl_insertCandidate_pairwise hl .nil nofun

/-! ### Taking the candidates -/

theorem takeCandidate_eq_self {sel : List Nat} {x : Nat × Nat} (h : x.1 - 1 ∈ sel ∨ x.1 + 1 ∈ sel) :
    takeCandidate sel x = sel := by
  unfold takeCandidate
  rw [if_pos]
  simpa using h

theorem takeCandidate_eq_append {sel : List Nat} {x : Nat × Nat} (hbelow : x.1 - 1 ∉ sel) (habove : x.1 + 1 ∉ sel) :
    takeCandidate sel x = sel ++ [x.1] := by
  unfold takeCandidate
  rw [if_neg]
  simpa using ⟨hbelow, habove⟩

theorem prefix_takeCandidate (sel : List Nat) (x : Nat × Nat) : sel <+: takeCandidate sel x := by
  unfold takeCandidate
  split
  · exact List.prefix_rfl
  · exact List.prefix_append _ _

theorem prefix_foldl_takeCandidate (l : List (Nat × Nat)) (sel : List Nat) : sel <+: l.foldl takeCandidate sel := by
  induction l generalizing sel with
  | nil => exact List.prefix_rfl
  | cons x l ih => exact (prefix_takeCandidate sel x).trans (ih _)

theorem mem_takeCandidate {sel : List Nat} {x : Nat × Nat} {c : Nat} (h : c ∈ takeCandidate sel x) : c ∈ sel ∨ c = x.1 := by
  unfold takeCandidate at h
  split at h
  · exact .inl h
  · simpa using h

theorem mem_foldl_takeCandidate {l : List (Nat × Nat)} {sel : List Nat} {c : Nat} (h : c ∈ l.foldl takeCandidate sel) :
    c ∈ sel ∨ c ∈ l.map Prod.fst := by
  induction l generalizing sel with
  | nil => exact .inl h
  | cons x l ih =>
    rcases ih h with h | h
    · rcases mem_takeCandidate h with h | rfl
      · exact .inl h
      · exact .inr List.mem_cons_self
    · exact .inr (List.mem_cons_of_mem _ h)

/-- No two cells of a list are neighbours. -/
def Scattered (sel : List Nat) : Prop := ∀ c ∈ sel, c + 1 ∉ sel

theorem takeCandidate_scattered {sel : List Nat} (x : Nat × Nat) (h : Scattered sel) : Scattered (takeCandidate sel x) := by
  by_cases hnext : x.1 - 1 ∈ sel ∨ x.1 + 1 ∈ sel
  · rwa [takeCandidate_eq_self hnext]
  · obtain ⟨hbelow, habove⟩ := not_or.1 hnext
    rw [takeCandidate_eq_append hbelow habove]
    intro c hc hsucc
    rcases List.mem_append.1 hc with hc | hc <;> rcases List.mem_append.1 hsucc with hsucc | hsucc
    · exact h c hc hsucc
    · have hx : c + 1 = x.1 := List.mem_singleton.1 hsucc
      exact hbelow (by rwa [← hx, Nat.add_sub_cancel])
    · rw [List.mem_singleton.1 hc] at hsucc
      exact habove hsucc
    · rw [List.mem_singleton] at hc hsucc
      omega

theorem foldl_takeCandidate_scattered (l : List (Nat × Nat)) {sel : List Nat} (h : Scattered sel) :
    Scattered (l.foldl takeCandidate sel) := by
  induction l generalizing sel with
  | nil => exact h
  | cons x l ih => exact ih (takeCandidate_scattered x h)

theorem foldl_takeCandidate_nodup {l : List (Nat × Nat)} {sel : List Nat} (hsel : sel.Nodup)
    (hl : (l.map Prod.fst).Nodup) (hdisjoint : ∀ c ∈ sel, c ∉ l.map Prod.fst) : (l.foldl takeCandidate sel).Nodup := by
  induction l generalizing sel with
  | nil => exact hsel
  | cons x l ih =>
    obtain ⟨hx, hl⟩ := List.nodup_cons.1 hl
    refine ih ?_ hl fun c hc => ?_
    · unfold takeCandidate
      split
      · exact hsel
      · refine List.nodup_append.2 ⟨hsel, List.nodup_singleton _, fun a ha b hb => ?_⟩
        rintro rfl
        rw [List.mem_singleton] at hb
        exact hdisjoint a ha (by rw [hb]; exact List.mem_cons_self)
    · rcases mem_takeCandidate hc with hc | rfl
      · exact fun hmem => hdisjoint c hc (List.mem_cons_of_mem _ hmem)
      · exact hx

/-- A candidate is in the selection or beside one that is (R116 step 2). -/
theorem foldl_takeCandidate_maximal {l : List (Nat × Nat)} (sel : List Nat) {x : Nat × Nat} (hx : x ∈ l) :
    x.1 ∈ l.foldl takeCandidate sel ∨ x.1 - 1 ∈ l.foldl takeCandidate sel ∨ x.1 + 1 ∈ l.foldl takeCandidate sel := by
  induction l generalizing sel with
  | nil => cases hx
  | cons y l ih =>
    rcases List.mem_cons.1 hx with rfl | hx
    · have hkept := (prefix_foldl_takeCandidate l (takeCandidate sel x)).subset
      by_cases hnext : x.1 - 1 ∈ sel ∨ x.1 + 1 ∈ sel
      · rw [takeCandidate_eq_self hnext] at hkept
        rw [List.foldl_cons, takeCandidate_eq_self hnext]
        exact .inr (hnext.imp (@hkept _) (@hkept _))
      · obtain ⟨hbelow, habove⟩ := not_or.1 hnext
        refine .inl (hkept ?_)
        rw [takeCandidate_eq_append hbelow habove]
        exact List.mem_append_right _ (List.mem_singleton.2 rfl)
    · exact ih _ hx

theorem selectCells_head {l : List (Nat × Nat)} {x : Nat × Nat} (h : (orderCandidates l).head? = some x) :
    (selectCells l).head? = some x.1 := by
  obtain ⟨rest, hrest⟩ := List.head?_eq_some_iff.1 h
  unfold selectCells
  rw [hrest, List.foldl_cons]
  obtain ⟨more, hmore⟩ := prefix_foldl_takeCandidate rest (takeCandidate [] x)
  rw [← hmore]
  rfl

theorem orderCandidates_head {l : List (Nat × Nat)} (hl : l.Pairwise fun x y => x.1 < y.1) {x : Nat × Nat} (hx : x ∈ l)
    (hbest : ∀ y ∈ l, y.2 < x.2 ∨ y.2 = x.2 ∧ x.1 ≤ y.1) : (orderCandidates l).head? = some x := by
  have hmem : x ∈ orderCandidates l := (orderCandidates_perm l).mem_iff.2 hx
  have hsorted := orderCandidates_pairwise hl
  cases hordered : orderCandidates l with
  | nil => rw [hordered] at hmem; cases hmem
  | cons y rest =>
    rw [hordered] at hmem hsorted
    rcases List.mem_cons.1 hmem with rfl | hrest
    · rfl
    · have hyx : Precedes y x := (List.pairwise_cons.1 hsorted).1 x hrest
      have hy : y ∈ l := (orderCandidates_perm l).mem_iff.1 (by rw [hordered]; exact List.mem_cons_self)
      have hxy := hbest y hy
      unfold Precedes at hyx
      omega

theorem map_fst_nodup {l : List (Nat × Nat)} (hl : l.Pairwise fun x y => x.1 < y.1) : (l.map Prod.fst).Nodup :=
  List.pairwise_map.2 (hl.imp fun h => Nat.ne_of_lt h)

theorem mem_selectCells {l : List (Nat × Nat)} {c : Nat} (h : c ∈ selectCells l) : c ∈ l.map Prod.fst := by
  rcases mem_foldl_takeCandidate h with h | h
  · cases h
  · exact ((orderCandidates_perm l).map Prod.fst).mem_iff.1 h

theorem selectCells_nodup {l : List (Nat × Nat)} (hl : l.Pairwise fun x y => x.1 < y.1) : (selectCells l).Nodup :=
  foldl_takeCandidate_nodup .nil (((orderCandidates_perm l).map Prod.fst).nodup_iff.2 (map_fst_nodup hl)) nofun

theorem selectCells_scattered (l : List (Nat × Nat)) : Scattered (selectCells l) :=
  foldl_takeCandidate_scattered _ nofun

/-- Settles O13: the candidates' order is a permutation sorted by `Precedes`, and taking them only ever appends. -/
theorem selectionTakesNoNeighbours : Obligations.SelectionTakesNoNeighbours := by
  intro l hl _
  refine ⟨fun c => mem_selectCells, selectCells_nodup hl, selectCells_scattered l, fun x hx hout => ?_, fun x hx hbest => ?_⟩
  · exact (foldl_takeCandidate_maximal [] ((orderCandidates_perm l).mem_iff.2 hx)).resolve_left hout
  · exact selectCells_head (orderCandidates_head hl hx hbest)

/-! ### The plan's selection -/

theorem fittedCells_pairwise (s : State) : s.fittedCells.Pairwise (· < ·) :=
  List.Pairwise.sublist List.filter_sublist (by decide)

theorem mem_fittedCells {s : State} {c : Nat} (h : c ∈ s.fittedCells) : 1 ≤ c ∧ c ≤ 10 := by
  have hc : c ∈ cellNumbers := List.mem_of_mem_filter h
  unfold cellNumbers at hc
  simp only [List.mem_cons, List.not_mem_nil, or_false] at hc
  omega

theorem candidates_eq_nil_or (s : State) (target : Nat) :
    s.candidates target = [] ∨ ∃ x, s.sweep.latest = some x ∧ s.candidates target =
      s.fittedCells.filterMap fun c => (x.cell c).bind fun v =>
        if target < v ∧ s.cfg.cells.bleedFloor < v then some (c, v) else none := by
  unfold State.candidates
  split
  · next x hx =>
    refine .inr ⟨x, hx, ?_⟩
    congr 1
    funext c
    cases x.cell c <;> rfl
  · exact .inl rfl

theorem map_fst_filterMap_sublist {f : Nat → Option (Nat × Nat)} (hf : ∀ c y, f c = some y → y.1 = c) (l : List Nat) :
    ((l.filterMap f).map Prod.fst).Sublist l := by
  induction l with
  | nil => exact .slnil
  | cons c l ih =>
    cases hc : f c with
    | none => rw [List.filterMap_cons_none hc]; exact ih.cons c
    | some y =>
      rw [List.filterMap_cons_some hc, List.map_cons, hf c y hc]
      exact ih.cons_cons c

theorem candidates_fst_sublist (s : State) (target : Nat) :
    ((s.candidates target).map Prod.fst).Sublist s.fittedCells := by
  rcases candidates_eq_nil_or s target with h | ⟨x, -, h⟩
  · rw [h]; exact List.nil_sublist _
  · rw [h]
    refine map_fst_filterMap_sublist (fun c y hy => ?_) _
    obtain ⟨v, -, hv⟩ := Option.bind_eq_some_iff.1 hy
    split at hv
    · cases hv; rfl
    · cases hv

theorem candidates_pairwise (s : State) (target : Nat) : (s.candidates target).Pairwise fun x y => x.1 < y.1 :=
  List.pairwise_map.1 ((fittedCells_pairwise s).sublist (candidates_fst_sublist s target))

/-- Of the cells 1 to 10 at most 5 have no two neighbours: two of them never share a pair 1 2, 3 4, up to 9 10. -/
theorem length_le_five {l : List Nat} (hnodup : l.Nodup) (hscattered : Scattered l) (hcells : ∀ c ∈ l, 1 ≤ c ∧ c ≤ 10) :
    l.length ≤ 5 := by
  have hpairs : (l.map fun c => (c - 1) / 2).Nodup := by
    refine List.Nodup.map_on (fun c hc d hd heq => ?_) hnodup
    obtain ⟨hc1, -⟩ := hcells c hc
    obtain ⟨hd1, -⟩ := hcells d hd
    by_contra hne
    have hnear : d = c + 1 ∨ c = d + 1 := by omega
    rcases hnear with rfl | rfl
    · exact hscattered c hc hd
    · exact hscattered d hd hc
  have hrange : (l.map fun c => (c - 1) / 2) ⊆ List.range 5 := by
    intro k hk
    obtain ⟨c, hc, rfl⟩ := List.mem_map.1 hk
    have := hcells c hc
    rw [List.mem_range]
    omega
  simpa using (hpairs.subperm hrange).length_le

/-! ### A plan point gives a legal plan -/

theorem grantFor_le (allowed : Bool) (advertised total budget : Nat) : grantFor allowed advertised total budget ≤ advertised := by
  unfold grantFor
  split
  · exact Nat.zero_le _
  · split
    · exact Nat.zero_le _
    · split
      · exact Nat.le_refl _
      · next hover =>
        refine Nat.div_le_of_le_mul ?_
        rw [Nat.mul_comm]
        exact Nat.mul_le_mul_right _ (Nat.le_of_not_le hover)

/-- The cells a plan point selects. -/
theorem planned_selection (s : State) :
    s.planned.selection = [] ∨
      s.planned.reason = none ∧ ∃ target, s.planned.selection = selectCells (s.candidates target) := by
  unfold State.planned
  dsimp only
  split
  · next target hreason htarget => exact .inr ⟨hreason, target, rfl⟩
  · exact .inl rfl

theorem planned_selection_of_reason {s : State} (h : s.planned.reason ≠ none) : s.planned.selection = [] :=
  (planned_selection s).resolve_right fun hs => h hs.1

theorem planned_grant_of_reason {s : State} (h : s.planned.reason ≠ none) : s.planned.grant = 0 := by
  have hreason : s.disallowed s.floor ≠ none := h
  have hallowed : (s.disallowed s.floor).isNone = false := by
    cases hd : s.disallowed s.floor with
    | none => exact absurd hd hreason
    | some r => rfl
  show grantFor (s.disallowed s.floor).isNone _ _ _ = 0
  rw [hallowed]
  rfl

theorem planned_legal (s : State) : PlanLegal (s.setPlan s.planned) := by
  have hcells : ∀ c ∈ s.planned.selection, 1 ≤ c ∧ c ≤ 10 := by
    intro c hc
    rcases planned_selection s with h | ⟨-, target, h⟩
    · rw [h] at hc; cases hc
    · rw [h] at hc
      exact mem_fittedCells ((candidates_fst_sublist s target).subset (mem_selectCells hc))
  have hscattered : Scattered s.planned.selection := by
    rcases planned_selection s with h | ⟨-, target, h⟩
    · rw [h]; nofun
    · rw [h]; exact selectCells_scattered _
  have hnodup : s.planned.selection.Nodup := by
    rcases planned_selection s with h | ⟨-, target, h⟩
    · rw [h]; exact .nil
    · rw [h]; exact selectCells_nodup (candidates_pairwise s target)
  refine ⟨rfl, rfl, ?_, fun h => ?_, length_le_five hnodup hscattered hcells, grantFor_le _ _ _ _, hnodup,
    fun c hc => ⟨(hcells c hc).1, (hcells c hc).2, hscattered c hc⟩⟩
  · exact Option.isNone_iff_eq_none
  · have hreason : s.planned.reason ≠ none := by
      intro hnone
      have hallowed : s.planned.allowed = true := Option.isNone_iff_eq_none.2 hnone
      exact Bool.false_ne_true (h.symm.trans hallowed)
    exact ⟨planned_selection_of_reason hreason, planned_grant_of_reason hreason⟩

end Sys2Proof.Machine

/-! Every step keeps mode, ballot record, switch command, holds, plan and monitors legal (R25, R46, R48, R49, R90, R112). -/

namespace Sys2Proof.Machine

section
variable {c : Instr} {s t : State}

theorem expireAccessWait_eq_setLink (s : State) : ∃ l : LinkController, expireAccessWait s = s.setLink l := by
  unfold expireAccessWait
  split
  · rcases transmit_cases (s.setLink { s.link with wait := none }) with h | ⟨i, b, -, -, h⟩
    · exact ⟨_, h⟩
    · exact ⟨_, h⟩
  · exact ⟨s.link, rfl⟩

/-! ### Mode, ballot record, switch command and holds -/

/-- The laws that a mode change and a hold can break together. -/
structure ModeLegal (s : State) : Prop where
  follows : SwitchFollowsMode s
  record : BallotRecordLegal s
  holds : ClosedHoldsNothing s

theorem ModeLegal.of_same (hs : ModeLegal s) (hcommand : t.switch.command = s.switch.command)
    (hballot : t.ballot = { s.ballot with settle := t.ballot.settle }) (hown : s.holds.own = [] → t.holds.own = [])
    (hremote : s.holds.remote = [] → t.holds.remote = []) : ModeLegal t := by
  obtain ⟨hfollows, hrecord, hholds⟩ := hs
  refine ⟨?_, ?_, fun hclosed => ?_⟩
  · unfold SwitchFollowsMode at hfollows ⊢
    rw [hcommand, hballot]
    exact hfollows
  · unfold BallotRecordLegal at hrecord ⊢
    rw [hballot]
    exact hrecord
  · rw [hballot] at hclosed
    obtain ⟨ho, hr⟩ := hholds hclosed
    exact ⟨hown ho, hremote hr⟩

theorem ModeLegal.of_blocks (hs : ModeLegal s) (hswitch : t.switch = s.switch) (hballot : t.ballot = s.ballot)
    (hholds : t.holds = s.holds) : ModeLegal t :=
  hs.of_same (by rw [hswitch]) (by rw [hballot]) (fun h => by rw [hholds, h]) (fun h => by rw [hholds, h])

theorem ModeLegal.no_current (hs : ModeLegal s) (hmode : s.ballot.mode = .opened) : s.ballot.current = none := by
  obtain ⟨hcurrent, -⟩ := hs.record
  rw [hmode] at hcurrent
  simpa using hcurrent

theorem leave_modeLegal (hfollows : SwitchFollowsMode s) (hrecord : BallotRecordLegal s) : ModeLegal (leave s) := by
  refine ⟨leave_switchFollowsMode hfollows, ?_, fun h => absurd h (leave_not_closed s)⟩
  by_cases hp : s.isParty
  · have hballot := leave_ballot_of_party hp
    obtain ⟨-, hrole, hvotes, hproposal, hpledge, hconfirm⟩ := hrecord
    unfold BallotRecordLegal
    rw [hballot]
    rcases hp with hmode | hmode
    · cases hr : s.ballot.role with
      | none => simp [hmode, hr] at hrole
      | proposer => simp_all [leftRecord, Timer.isRunning]
      | voter => simp_all [leftRecord, Timer.isRunning]
    · simp_all [leftRecord, Timer.isRunning]
  · rwa [leave_of_not_party hp]

theorem raiseHold_modeLegal (cause : Cause) (index : Option Nat) (detail : Option Detail) (hs : ModeLegal s) :
    ModeLegal (raiseHold cause index detail s) := by
  obtain ⟨-, h⟩ | ⟨x, -, -, h⟩ | ⟨x, hx, -, h⟩ := raiseHold_cases cause index detail s
  · rw [h]
    have hballot : (appendNotice .hold s.holds.allocate false (addOwn cause index detail s)).ballot =
        { s.ballot with settle := (addOwn cause index detail s).ballot.settle } := by
      rw [appendNotice_ballot]
      exact settleReadiness_ballot _ _
    refine leave_modeLegal ?_ ?_
    · have hfollows := hs.follows
      unfold SwitchFollowsMode at hfollows ⊢
      rw [hballot]
      simpa using hfollows
    · have hrecord := hs.record
      unfold BallotRecordLegal at hrecord ⊢
      rw [hballot]
      exact hrecord
  · rwa [h]
  · have hchanged : ModeLegal (changeDetail cause index detail s) :=
      hs.of_same rfl rfl (fun hown => by rw [changeDetail_own, hown]; rfl) (fun hremote => hremote)
    rcases h with h | h
    · rwa [h]
    · rw [h]
      exact hchanged.of_same (by simp) (by simp) (by simp) (by simp)

theorem liftHold_modeLegal (cause : Cause) (index : Option Nat) (hs : ModeLegal s) : ModeLegal (liftHold cause index s) := by
  refine hs.of_same (by simp) ?_ (fun hown => by rw [liftHold_own, hown]; rfl) (fun hremote => by simpa using hremote)
  unfold liftHold
  split
  · rfl
  · rw [liftNotices_ballot]
    exact settleReadiness_ballot _ _

theorem modeLegal_lockoutClosed : LockoutClosed ModeLegal where
  raise cause index detail _ hs := raiseHold_modeLegal cause index detail hs
  lift cause index _ hs := liftHold_modeLegal cause index hs
  claim x _ hs := hs.of_blocks (by simp) (by simp) (by simp)
  blocks _ _ _ _ _ hs := ⟨hs.follows, hs.record, hs.holds⟩
  settled _ _ _ hs := ⟨hs.follows, hs.record, hs.holds⟩

theorem enterClosed_modeLegal (hs : ModeLegal s) (hmode : s.ballot.mode = .pledged)
    (hcurrent : s.ballot.current.isSome = true) : ModeLegal (enterClosed s) := by
  by_cases hholds : s.holds.own = [] ∧ s.holds.remote = []
  · obtain ⟨hown, hremote⟩ := hholds
    refine ⟨?_, ?_, fun _ => by simp [hown, hremote]⟩
    · rw [enterClosed_of_no_hold hown hremote]
      exact setMode_switchFollowsMode _ hs.follows
    · unfold BallotRecordLegal
      rw [enterClosed_ballot hmode hown hremote]
      simp [Timer.isRunning, hcurrent]
  · rw [enterClosed_of_hold (by tauto)]
    exact leave_modeLegal hs.follows hs.record

theorem setMode_modeLegal {m : Mode} (hs : ModeLegal s) (hfrom : s.ballot.mode = .start ∨ s.ballot.mode = .join)
    (hm : m = .join ∨ m = .opened) : ModeLegal (setMode m s) := by
  have hclosed : m ≠ .closed := by rcases hm with rfl | rfl <;> decide
  refine ⟨setMode_switchFollowsMode m hs.follows, ?_, fun h => absurd ((setMode_mode m s).symm.trans h) hclosed⟩
  obtain ⟨hcurrent, hrole, hvotes, hproposal, hpledge, hconfirm⟩ := hs.record
  unfold BallotRecordLegal
  rw [setMode_ballot_of_settle]
  rcases hfrom with h | h <;> rcases hm with rfl | rfl <;> simp_all

theorem Move.keeps_mode (h : Move c s t) (hs : ModeLegal s) : ModeLegal t := by
  have hclosed := modeLegal_lockoutClosed
  cases h with
  | outside => exact ⟨hs.follows, hs.record, hs.holds⟩
  | timers _ hproposal hpledge hconfirm =>
    refine ⟨hs.follows, ?_, hs.holds⟩
    obtain ⟨hcurrent, hrole, hvotes, hp, hq, hr⟩ := hs.record
    refine ⟨hcurrent, hrole, hvotes, ?_, ?_, ?_⟩
    · rcases hproposal with rfl | rfl
      · nofun
      · exact hp
    · rcases hpledge with rfl | rfl
      · nofun
      · exact hq
    · rcases hconfirm with rfl | rfl
      · nofun
      · exact hr
  | evaluated | lineCleared | sendAborted | countItem | countNone | mutePending | firstSweep =>
    exact hs.of_blocks rfl rfl rfl
  | settleWait | forgetCounted | claim | lineQuiet | setLastSender | setAnnounce | sweepPlanPoint
    | tallyPlanPoint | suspendBleeding | putMonitor => exact hs.of_blocks (by simp) (by simp) (by simp)
  | frameStart | clearAnnounce | removeQueued => exact hs.of_blocks rfl rfl rfl
  | pausePlan =>
    unfold Machine.pausePlan
    split
    · exact hs
    · exact hs.of_blocks rfl rfl rfl
  | resumePlan => exact hs.of_blocks rfl rfl rfl
  | expireAccessWait =>
    obtain ⟨l, hl⟩ := expireAccessWait_eq_setLink s
    rw [hl]
    exact hs.of_blocks rfl rfl rfl
  | notices h => exact hs.of_same rfl rfl id id
  | appendNotice => exact hs.of_same (by simp) (by simp) (by simp) (by simp)
  | enterMute => exact hs.of_same (by simp) (by simp) id id
  | remote h => exact hs.of_same rfl rfl id h
  | addRemote l =>
    have hballot := settleReadiness_ballot s (s.setHolds { s.holds with remote := l })
    refine leave_modeLegal ?_ ?_
    · have hfollows := hs.follows
      unfold SwitchFollowsMode at hfollows ⊢
      rw [State.changeHolds, hballot]
      simpa using hfollows
    · have hrecord := hs.record
      unfold BallotRecordLegal at hrecord ⊢
      rw [State.changeHolds, hballot]
      exact hrecord
  | raiseHold => exact raiseHold_modeLegal _ _ _ hs
  | liftHold => exact liftHold_modeLegal _ _ hs
  | leave => exact leave_modeLegal hs.follows hs.record
  | highest => exact ⟨hs.follows, hs.record, hs.holds⟩
  | propose hmode =>
    have hcurrent := hs.no_current hmode
    have hballot := propose_ballot hmode hcurrent
    obtain ⟨-, hrole, -, -, hpledge, hconfirm⟩ := hs.record
    have hnone : s.ballot.role = .none := by simpa [hmode] using hrole
    refine ⟨?_, ?_, fun h => ?_⟩
    · rw [switchFollowsMode_iff, propose_command hmode hcurrent, hballot]
      rfl
    · unfold BallotRecordLegal
      rw [hballot]
      simp_all
    · rw [hballot] at h
      cases h
  | assent b hmode =>
    have hballot := assent_ballot b hmode
    obtain ⟨-, hrole, hvotes, hproposal, -, hconfirm⟩ := hs.record
    have hnone : s.ballot.role = .none := by simpa [hmode] using hrole
    refine ⟨?_, ?_, fun h => ?_⟩
    · rw [switchFollowsMode_iff, assent_command b hmode, hballot]
      rfl
    · unfold BallotRecordLegal
      rw [hballot]
      simp_all
    · rw [hballot] at h
      cases h
  | votes hrole =>
    obtain ⟨hcurrent, hr, -, hproposal, hpledge, hconfirm⟩ := hs.record
    exact ⟨hs.follows, ⟨hcurrent, hr, fun h => absurd hrole h, hproposal, hpledge, hconfirm⟩, hs.holds⟩
  | enterClosed hmode hcurrent => exact enterClosed_modeLegal hs hmode hcurrent
  | enterJoin hmode => exact setMode_modeLegal hs (.inl hmode) (.inl rfl)
  | endJoin hmode => exact setMode_modeLegal hs (.inr hmode) (.inr rfl)
  | switchInputs => exact hs.of_same rfl rfl id id
  | read => exact hclosed.settledRead hs
  | escalate e => exact hclosed.escalate e hs
  | completeActive o => exact hclosed.completeActive o hs
  | completeRelease o => exact hclosed.completeRelease o hs
  | completeConfig o => exact hclosed.completeConfig o hs
  | startRelease => exact hclosed.startRelease hs
  | startConfig => exact hclosed.startWrite _ hs

theorem tick_modeLegal (hs : ModeLegal s) : ModeLegal (tick s) := by
  obtain ⟨hfollows, ⟨hcurrent, hrole, hvotes, hproposal, hpledge, hconfirm⟩, hholds⟩ := hs
  have hrunning : ∀ x : Timer, x.tick.isRunning = x.isRunning := fun x => by cases x <;> rfl
  refine ⟨hfollows, ⟨hcurrent, hrole, hvotes, fun h => hproposal ?_, fun h => hpledge ?_, fun h => hconfirm ?_⟩, hholds⟩
  · exact (hrunning _).symm.trans h
  · exact (hrunning _).symm.trans h
  · exact (hrunning _).symm.trans h

theorem startRun_modeLegal (straps : Straps) (feedback : SwitchPos) (medium : Medium) (s : State) :
    ModeLegal (startRun straps feedback medium s) :=
  ⟨by simp [SwitchFollowsMode, startRun, SwitchDriver.atStart, BallotUnit.atStart],
    by simp [BallotRecordLegal, startRun, BallotUnit.atStart, Timer.isRunning], nofun⟩

/-! ### The plan -/

theorem PlanLegal.of_plan (hs : PlanLegal s) (h : t.plan = s.plan) : PlanLegal t := by
  unfold PlanLegal
  rw [h]
  exact hs

theorem emptied_planLegal (r : DisallowReason) (p : PlanRecord) : PlanLegal (s.setPlan (emptied r p)) := by
  simp [PlanLegal, emptied]

theorem setMode_join_plan (hmode : s.ballot.mode ≠ .join) : (setMode .join s).plan = emptied .mode s.plan := by
  unfold setMode
  rw [if_neg hmode, deliverToPlanner, if_pos (.inr rfl)]
  simp

theorem planLegal_lockoutClosed : LockoutClosed PlanLegal where
  raise _ _ _ _ hs := hs.of_plan (by simp)
  lift _ _ _ hs := hs.of_plan (by simp)
  claim _ _ hs := hs.of_plan (by simp)
  blocks _ _ _ _ _ hs := hs.of_plan rfl
  settled _ _ _ hs := hs.of_plan rfl

theorem Move.keeps_plan (h : Move c s t) (hs : PlanLegal s) : PlanLegal t := by
  have hclosed := planLegal_lockoutClosed
  cases h with
  | outside | timers | notices | remote | highest | votes | evaluated | lineCleared | sendAborted | countItem | countNone
    | mutePending | firstSweep | switchInputs | frameStart | clearAnnounce | removeQueued => exact hs.of_plan rfl
  | settleWait | forgetCounted | claim | lineQuiet | setLastSender | setAnnounce | putMonitor | appendNotice | enterMute
    | addRemote | raiseHold | liftHold | leave | propose | assent | enterClosed => exact hs.of_plan (by simp)
  | sweepPlanPoint => exact planned_legal s
  | tallyPlanPoint advertised => exact planned_legal (s.setPlan { s.plan with advertised := advertised })
  | suspendBleeding => exact hs
  | pausePlan =>
    unfold Machine.pausePlan
    split
    · exact hs
    · exact emptied_planLegal (s := s) .paused s.plan
  | resumePlan => exact hs
  | expireAccessWait =>
    obtain ⟨l, hl⟩ := expireAccessWait_eq_setLink s
    rw [hl]
    exact hs.of_plan rfl
  | enterJoin hmode =>
    have hplan := setMode_join_plan (s := s) (by rw [hmode]; decide)
    exact (emptied_planLegal (s := s) .mode s.plan).of_plan hplan
  | endJoin => exact hs.of_plan (by simp)
  | read => exact hclosed.settledRead hs
  | escalate e => exact hclosed.escalate e hs
  | completeActive o => exact hclosed.completeActive o hs
  | completeRelease o => exact hclosed.completeRelease o hs
  | completeConfig o => exact hclosed.completeConfig o hs
  | startRelease => exact hclosed.startRelease hs
  | startConfig => exact hclosed.startWrite _ hs

theorem startRun_planLegal (straps : Straps) (feedback : SwitchPos) (medium : Medium) (s : State) :
    PlanLegal (startRun straps feedback medium s) := by
  simp [PlanLegal, startRun, PlanRecord.atStart]

/-! ### One own hold a key -/

theorem OwnKeysDistinct.of_own (hs : OwnKeysDistinct s) (h : t.holds.own = s.holds.own) : OwnKeysDistinct t := by
  unfold OwnKeysDistinct
  rw [h]
  exact hs

theorem map_key_changeDetail (cause : Cause) (index : Option Nat) (detail : Option Detail) (l : List OwnHold) :
    (l.map fun h => if h.cause = cause ∧ h.index = index then { h with detail := detail } else h).map OwnHold.key =
      l.map OwnHold.key := by
  rw [List.map_map]
  congr 1
  funext h
  show OwnHold.key (if _ then _ else _) = _
  split <;> rfl

theorem raiseHold_ownKeysDistinct (cause : Cause) (index : Option Nat) (detail : Option Detail) (hs : OwnKeysDistinct s) :
    OwnKeysDistinct (raiseHold cause index detail s) := by
  unfold OwnKeysDistinct
  cases h : s.ownHold cause index with
  | none =>
    rw [raiseHold_own_of_new detail h, List.map_append]
    refine List.nodup_append.2 ⟨hs, List.nodup_singleton _, fun k hk k' hk' => ?_⟩
    obtain ⟨x, hx, rfl⟩ := List.mem_map.1 hk
    rw [List.map_singleton, List.mem_singleton] at hk'
    rintro rfl
    obtain ⟨hcause, hindex⟩ := Prod.mk.inj hk'
    exact ownHold_eq_none_iff.1 h x hx ⟨hcause, hindex⟩
  | some x =>
    by_cases hd : x.detail = detail
    · subst hd
      rw [raiseHold_of_same h]
      exact hs
    · rw [raiseHold_own_of_standing detail h hd, map_key_changeDetail]
      exact hs

theorem liftHold_ownKeysDistinct (cause : Cause) (index : Option Nat) (hs : OwnKeysDistinct s) :
    OwnKeysDistinct (liftHold cause index s) := by
  unfold OwnKeysDistinct
  rw [liftHold_own]
  exact hs.sublist (List.filter_sublist.map _)

theorem ownKeysDistinct_lockoutClosed : LockoutClosed OwnKeysDistinct where
  raise _ _ _ _ hs := raiseHold_ownKeysDistinct _ _ _ hs
  lift _ _ _ hs := liftHold_ownKeysDistinct _ _ hs
  claim _ _ hs := hs.of_own (by simp)
  blocks _ _ _ _ _ hs := hs
  settled _ _ _ hs := hs

theorem Move.keeps_ownKeys (h : Move c s t) (hs : OwnKeysDistinct s) : OwnKeysDistinct t := by
  have hclosed := ownKeysDistinct_lockoutClosed
  cases h with
  | outside | timers | notices | remote | highest | votes | evaluated | lineCleared | sendAborted | countItem | countNone
    | mutePending | firstSweep | switchInputs | frameStart | clearAnnounce | removeQueued | resumePlan | suspendBleeding =>
    exact hs
  | settleWait | forgetCounted | claim | lineQuiet | setLastSender | setAnnounce | putMonitor | appendNotice | leave | propose
    | assent | enterClosed | sweepPlanPoint | tallyPlanPoint | enterJoin | endJoin => exact hs.of_own (by simp)
  | enterMute => exact hs
  | addRemote => exact hs.of_own (by simp [State.changeHolds])
  | pausePlan => exact hs.of_own (by unfold Machine.pausePlan; split <;> rfl)
  | expireAccessWait =>
    obtain ⟨l, hl⟩ := expireAccessWait_eq_setLink s
    rw [hl]
    exact hs
  | raiseHold => exact raiseHold_ownKeysDistinct _ _ _ hs
  | liftHold => exact liftHold_ownKeysDistinct _ _ hs
  | read => exact hclosed.settledRead hs
  | escalate e => exact hclosed.escalate e hs
  | completeActive o => exact hclosed.completeActive o hs
  | completeRelease o => exact hclosed.completeRelease o hs
  | completeConfig o => exact hclosed.completeConfig o hs
  | startRelease => exact hclosed.startRelease hs
  | startConfig => exact hclosed.startWrite _ hs

/-! ### The monitors -/

theorem MonitorsShaped.of_blocks (hs : MonitorsShaped s) (hmonitors : t.monitors.records = s.monitors.records)
    (hfitted : t.startup.config = s.startup.config) : MonitorsShaped t := by
  have hcfg : t.fitted = s.fitted := by unfold State.fitted State.cfg; rw [hfitted]
  unfold MonitorsShaped
  rw [hmonitors, hcfg]
  exact hs

/-- The number tells the monitors apart (R89). -/
theorem formMonitors_numbers_nodup (fitted : Nat) : ((formMonitors fitted).map Monitor.number).Nodup := by
  have hsub : ((formMonitors fitted).map Monitor.number).Sublist ((formMonitors 10).map Monitor.number) := by
    have hcells : (cellNumbers.filter fun c => decide (c ≤ fitted)).Sublist (cellNumbers.filter fun c => decide (c ≤ 10)) := by
      rw [show (cellNumbers.filter fun c => decide (c ≤ 10)) = cellNumbers from rfl]
      exact List.filter_sublist
    unfold formMonitors
    exact (((hcells.map _).append (hcells.map _)).append (.refl _)).map _
  exact hsub.nodup (by decide)

theorem monitor_numbers_nodup (hs : MonitorsShaped s) : (s.monitors.records.map Monitor.number).Nodup := by
  have hnumber : ∀ l : List Monitor, l.map Monitor.number = (l.map Monitor.ident).map Prod.fst := fun l => by
    rw [List.map_map]; rfl
  rcases hs with h | h
  · rw [h]; exact .nil
  · rw [hnumber, h, ← hnumber]
    exact formMonitors_numbers_nodup _

theorem putMonitor_ident {m r : Monitor} (hnodup : (s.monitors.records.map Monitor.number).Nodup)
    (hr : r ∈ s.monitors.records) (hident : m.ident = r.ident) :
    (putMonitor m s).monitors.records.map Monitor.ident = s.monitors.records.map Monitor.ident := by
  show (s.monitors.records.map fun x => if x.number = m.number then m else x).map _ = _
  rw [List.map_map]
  refine List.map_congr_left fun x hx => ?_
  show Monitor.ident (if x.number = m.number then m else x) = x.ident
  split
  · next hnumber =>
    have hmr : m.number = r.number := congrArg Prod.fst hident
    have hxr : x = r := List.inj_on_of_nodup_map hnodup hx hr (hnumber.trans hmr)
    rw [hxr, hident]
  · rfl

theorem Move.keeps_monitors (h : Move c s t) (hs : MonitorsShaped s) : MonitorsShaped t := by
  cases h with
  | outside | timers | notices | remote | highest | votes | evaluated | lineCleared | sendAborted | countItem | countNone
    | mutePending | firstSweep | switchInputs | frameStart | clearAnnounce | removeQueued | resumePlan | suspendBleeding =>
    exact hs.of_blocks rfl rfl
  | settleWait | forgetCounted | claim | lineQuiet | setLastSender | setAnnounce | appendNotice | leave | propose
    | assent | enterClosed | sweepPlanPoint | tallyPlanPoint | enterJoin | endJoin | enterMute | addRemote | raiseHold
    | liftHold | escalate => exact hs.of_blocks (by simp) (by simp)
  | pausePlan => exact hs.of_blocks (by unfold Machine.pausePlan; split <;> rfl) (by unfold Machine.pausePlan; split <;> rfl)
  | expireAccessWait =>
    obtain ⟨l, hl⟩ := expireAccessWait_eq_setLink s
    rw [hl]
    exact hs.of_blocks rfl rfl
  | putMonitor hr hident =>
    refine hs.imp (fun h => ?_) (fun h => ?_)
    · rw [h] at hr; cases hr
    · rw [putMonitor_ident (monitor_numbers_nodup (.inr h)) hr hident]
      exact h
  | read => exact .inr rfl
  | completeActive | completeRelease | completeConfig | startRelease | startConfig => exact hs.of_blocks (by simp) (by simp)

theorem startRun_monitorsShaped (straps : Straps) (feedback : SwitchPos) (medium : Medium) (s : State) :
    MonitorsShaped (startRun straps feedback medium s) := .inl rfl

end

/-- Settles O57: each group of laws is kept by every part of an event, by time and by the queue, and holds after a start. -/
theorem modeAndPlanStayLegal : Obligations.ModeAndPlanStayLegal := by
  intro s hfollows hrecord hholds hplan hkeys hmonitors t hstep
  have hmode : ModeLegal t :=
    step_keeps (P := ModeLegal) (fun _ _ hs => ⟨hs.follows, hs.record, hs.holds⟩) (fun _ => tick_modeLegal) startRun_modeLegal
      (fun _ _ _ => Move.keeps_mode) hstep ⟨hfollows, hrecord, hholds⟩
  refine ⟨hmode.follows, hmode.record, hmode.holds, ?_, ?_, ?_⟩
  · exact step_keeps (P := PlanLegal) (fun _ _ hs => hs) (fun _ hs => hs) startRun_planLegal (fun _ _ _ => Move.keeps_plan) hstep hplan
  · exact step_keeps (P := OwnKeysDistinct) (fun _ _ hs => hs) (fun _ hs => hs) (fun _ _ _ _ => .nil) (fun _ _ _ => Move.keeps_ownKeys) hstep hkeys
  · exact step_keeps (P := MonitorsShaped) (fun _ _ hs => hs) (fun _ hs => hs) startRun_monitorsShaped
      (fun _ _ _ => Move.keeps_monitors) hstep hmonitors

end Sys2Proof.Machine

/-! The transmit queue (R183, R184): where a claim goes, and what it sheds. -/

namespace Sys2Proof.Machine

section
variable {s : State} {c : Claim} {q : List QueueEntry} {e : QueueEntry}

/-! ### The place of a frame -/

/-- VOTE frames before ROUTINE frames (R183). -/
def VotesFirst (q : List QueueEntry) : Prop := q = q.filter isVote ++ q.filter fun x => !isVote x

theorem placed_of_routine (h : e.claim.cls ≠ .vote) : placed q e = q ++ [e] := if_neg h

theorem placed_of_vote (h : e.claim.cls = .vote) :
    placed q e = q.takeWhile isVote ++ e :: q.dropWhile isVote := if_pos h

theorem takeWhile_votes (h : VotesFirst q) : q.takeWhile isVote = q.filter isVote := by
  have hroutine : (q.filter fun x => !isVote x).takeWhile isVote = [] := by
    cases hr : q.filter fun x => !isVote x with
    | nil => rfl
    | cons x rest =>
      have hx : x ∈ q.filter fun x => !isVote x := by rw [hr]; exact List.mem_cons_self
      refine List.takeWhile_cons_of_neg ?_
      simpa using (List.mem_filter.1 hx).2
  conv_lhs => rw [h, List.takeWhile_append_of_pos fun x hx => (List.mem_filter.1 hx).2, hroutine, List.append_nil]

theorem dropWhile_votes (h : VotesFirst q) : q.dropWhile isVote = q.filter fun x => !isVote x := by
  have happend := List.takeWhile_append_dropWhile (p := isVote) (l := q)
  rw [takeWhile_votes h] at happend
  exact List.append_cancel_left (happend.trans h)

theorem placed_vote_of_votesFirst (h : VotesFirst q) (he : e.claim.cls = .vote) :
    placed q e = q.filter isVote ++ e :: q.filter fun x => !isVote x := by
  rw [placed_of_vote he, takeWhile_votes h, dropWhile_votes h]

theorem placed_perm (q : List QueueEntry) (e : QueueEntry) : (placed q e).Perm (e :: q) := by
  by_cases he : e.claim.cls = .vote
  · rw [placed_of_vote he]
    have hsplit := List.perm_middle (a := e) (l₁ := q.takeWhile isVote) (l₂ := q.dropWhile isVote)
    rwa [List.takeWhile_append_dropWhile] at hsplit
  · rw [placed_of_routine he]
    exact List.perm_append_singleton e q

theorem isVote_iff : isVote e = true ↔ e.claim.cls = .vote := decide_eq_true_iff

theorem votesFirst_append {a b : List QueueEntry} (ha : ∀ x ∈ a, isVote x = true) (hb : ∀ x ∈ b, isVote x = false) :
    VotesFirst (a ++ b) := by
  have hvotes : (a ++ b).filter isVote = a := by
    rw [List.filter_append, List.filter_eq_self.2 ha, List.filter_eq_nil_iff.2 fun x hx => by simp [hb x hx],
      List.append_nil]
  have hroutine : ((a ++ b).filter fun x => !isVote x) = b := by
    rw [List.filter_append, List.filter_eq_nil_iff.2 fun x hx => by simp [ha x hx],
      List.filter_eq_self.2 fun x hx => by simp [hb x hx], List.nil_append]
  unfold VotesFirst
  rw [hvotes, hroutine]

theorem placed_votesFirst (h : VotesFirst q) (e : QueueEntry) : VotesFirst (placed q e) := by
  have hvotes : ∀ x ∈ q.filter isVote, isVote x = true := fun x hx => (List.mem_filter.1 hx).2
  have hroutine : ∀ x ∈ q.filter fun x => !isVote x, isVote x = false := fun x hx => by
    simpa using (List.mem_filter.1 hx).2
  by_cases he : e.claim.cls = .vote
  · rw [placed_vote_of_votesFirst h he, List.append_cons]
    refine votesFirst_append (fun x hx => ?_) hroutine
    rcases List.mem_append.1 hx with hx | hx
    · exact hvotes x hx
    · rw [List.mem_singleton.1 hx]; exact isVote_iff.2 he
  · rw [placed_of_routine he, h, List.append_assoc]
    refine votesFirst_append hvotes fun x hx => ?_
    rcases List.mem_append.1 hx with hx | hx
    · exact hroutine x hx
    · rw [List.mem_singleton.1 hx]
      exact Bool.eq_false_of_not_eq_true fun hv => he (isVote_iff.1 hv)

theorem filter_votesFirst (p : QueueEntry → Bool) (h : VotesFirst q) : VotesFirst (q.filter p) := by
  have hsplit : q.filter p = (q.filter isVote).filter p ++ (q.filter fun x => !isVote x).filter p := by
    rw [← List.filter_append, ← h]
  rw [hsplit]
  refine votesFirst_append (fun x hx => ?_) fun x hx => ?_
  · exact (List.mem_filter.1 (List.mem_filter.1 hx).1).2
  · simpa using (List.mem_filter.1 (List.mem_filter.1 hx).1).2

/-! ### What is shed -/

theorem shed_sublist (l : LinkController) : l.shed.Sublist l.queue := by
  have h := (List.eraseP_sublist (p := l.mayShed) (l := l.queue.reverse)).reverse
  rwa [List.reverse_reverse] at h

theorem length_shed {l : LinkController} (h : ∃ x ∈ l.queue, l.mayShed x = true) : l.shed.length + 1 = l.queue.length := by
  obtain ⟨x, hx, hshed⟩ := h
  have hlength := List.length_eraseP_of_mem (List.mem_reverse.2 hx) hshed
  have hpos : 0 < l.queue.length := List.length_pos_of_mem hx
  rw [LinkController.shed, List.length_reverse, hlength, List.length_reverse]
  omega

theorem mem_shed {l : LinkController} {x : QueueEntry} (hx : x ∈ l.queue) (hkeep : l.mayShed x = false) : x ∈ l.shed := by
  rw [LinkController.shed, List.mem_reverse]
  exact (List.mem_eraseP_of_neg (by simp [hkeep])).2 (List.mem_reverse.2 hx)

/-- What is shed is the newest frame that may be (R184). -/
theorem shed_eq {l : LinkController} {older newer : List QueueEntry} {x : QueueEntry} (h : l.queue = older ++ x :: newer)
    (hx : l.mayShed x = true) (hnewer : ∀ y ∈ newer, l.mayShed y = false) : l.shed = older ++ newer := by
  rw [LinkController.shed, h, List.reverse_append, List.reverse_cons, List.append_assoc, List.eraseP_append_right]
  · rw [List.singleton_append, List.eraseP_cons_of_pos hx, List.reverse_append, List.reverse_reverse, List.reverse_reverse]
  · intro y hy
    simp [hnewer y (List.mem_reverse.1 hy)]

/-- Shedding only takes ROUTINE frames, so VOTE frames stay first. -/
theorem shed_votesFirst {l : LinkController} (h : VotesFirst l.queue) : VotesFirst l.shed := by
  have hall : ∀ {a b : List QueueEntry}, a.Sublist b → VotesFirst b → VotesFirst a := by
    intro a b hab hb
    unfold VotesFirst at hb
    rw [hb] at hab
    obtain ⟨a1, a2, rfl, h1, h2⟩ := List.sublist_append_iff.1 hab
    refine votesFirst_append (fun x hx => (List.mem_filter.1 (h1.subset hx)).2) fun x hx => ?_
    simpa using (List.mem_filter.1 (h2.subset hx)).2
  exact hall (shed_sublist l) h

/-! ### What a claim can do -/

/-- The queue entry of a claim made now. -/
def State.entryFor (s : State) (c : Claim) : QueueEntry := ⟨s.link.nextItem, c⟩

/-- The state with another queue and the next item number. -/
def State.withQueue (s : State) (q : List QueueEntry) : State :=
  s.setLink { s.link with queue := q, nextItem := s.link.nextItem + 1 }

theorem claim_eq (c : Claim) (s : State) :
    claim c s =
      if s.link.mute then s
      else if c = .tally && s.link.queue.any (fun q => decide (q.claim = .tally)) then s
      else if s.link.queue.length < queueCapacity then settleWait (s.withQueue (placed s.link.queue (s.entryFor c)))
      else if c.cls = .vote && s.link.queue.any s.link.mayShed then settleWait (s.withQueue (placed s.link.shed (s.entryFor c)))
      else s := rfl

theorem claim_of_mute (h : s.link.mute = true) : claim c s = s := by
  rw [claim_eq, if_pos h]

theorem queued_iff_any {x : Claim} : Queued s x ↔ (s.link.queue.any fun q => decide (q.claim = x)) = true := by
  simp [Queued]

theorem claim_tally_of_queued (h : Queued s .tally) : claim .tally s = s := by
  rw [queued_iff_any] at h
  rw [claim_eq]
  simp [h]

/-- A claim that is not coalesced, with room in the queue. -/
theorem claim_with_room (hmute : s.link.mute = false) (hroom : s.link.queue.length < 8)
    (htally : c = .tally → ¬Queued s .tally) :
    claim c s = settleWait (s.withQueue (placed s.link.queue (s.entryFor c))) := by
  have hnew : (decide (c = .tally) && s.link.queue.any fun q => decide (q.claim = .tally)) = false := by
    by_cases hc : c = .tally
    · have hnone := htally hc
      rw [queued_iff_any] at hnone
      simpa [hc] using hnone
    · simp [hc]
  have hroom' : s.link.queue.length < queueCapacity := hroom
  rw [claim_eq, hmute, if_neg (by decide), hnew, if_neg (by decide), if_pos hroom']

theorem claim_of_full_routine (hfull : 8 ≤ s.link.queue.length) (hc : c.cls ≠ .vote) : claim c s = s := by
  have hroom : ¬ s.link.queue.length < queueCapacity := Nat.not_lt.2 hfull
  rw [claim_eq, if_neg hroom]
  simp [hc]

theorem claim_of_full_vote (hmute : s.link.mute = false) (hfull : 8 ≤ s.link.queue.length) (hc : c.cls = .vote) :
    claim c s =
      if s.link.queue.any s.link.mayShed then settleWait (s.withQueue (placed s.link.shed (s.entryFor c))) else s := by
  have hroom : ¬ s.link.queue.length < queueCapacity := Nat.not_lt.2 hfull
  have htally : c ≠ .tally := by rintro rfl; cases hc
  rw [claim_eq, hmute, if_neg (by decide), if_neg hroom]
  simp [hc, htally]

/-- What a claim can do: nothing, or put its frame in its place, in the queue or in what is left of it by shedding. -/
theorem claim_cases (c : Claim) (s : State) :
    claim c s = s ∨
      s.link.mute = false ∧ (c = .tally → ¬Queued s .tally) ∧ ∃ q, claim c s = settleWait (s.withQueue (placed q (s.entryFor c))) ∧
        (q = s.link.queue ∧ s.link.queue.length < 8 ∨
          q = s.link.shed ∧ 8 ≤ s.link.queue.length ∧ ∃ x ∈ s.link.queue, s.link.mayShed x = true) := by
  cases hmute : s.link.mute with
  | true => exact .inl (claim_of_mute hmute)
  | false =>
    by_cases htally : c = .tally ∧ Queued s .tally
    · obtain ⟨rfl, hq⟩ := htally
      exact .inl (claim_tally_of_queued hq)
    · have hnew : c = .tally → ¬Queued s .tally := fun hc hq => htally ⟨hc, hq⟩
      by_cases hroom : s.link.queue.length < 8
      · exact .inr ⟨rfl, hnew, _, claim_with_room hmute hroom hnew, .inl ⟨rfl, hroom⟩⟩
      · have hfull := Nat.not_lt.1 hroom
        by_cases hc : c.cls = .vote
        · rw [claim_of_full_vote hmute hfull hc]
          split
          · next hshed => exact .inr ⟨rfl, hnew, _, rfl, .inr ⟨rfl, hfull, List.any_eq_true.1 hshed⟩⟩
          · exact .inl rfl
        · exact .inl (claim_of_full_routine hfull hc)

@[simp] theorem withQueue_link_queue (s : State) (q : List QueueEntry) : (s.withQueue q).link.queue = q := rfl

theorem cls_eq (c : Claim) : c.cls = match c with
    | .tally | .recall _ | .answer _ _ => AccessClass.routine
    | .propose _ _ _ | .assent _ | .demur _ _ | .commit _ | .withdraw _ => .vote := by
  cases c <;> rfl

end

/-- Settles O40: a claim by its cases, each with the place that `placed` gives it and what `shed` leaves. -/
theorem claimTakesItsPlace : Obligations.ClaimTakesItsPlace := by
  refine ⟨cls_eq, fun c s => ⟨claim_of_mute, fun h => claim_tally_of_queued h, fun hmute hroom htally hlegal => ?room,
    fun hfull hc => claim_of_full_routine hfull (by rw [hc]; decide), fun hfull hc hmute => ⟨fun hnone => ?kept, ?shed, ?newest⟩⟩⟩
  case room =>
    obtain ⟨-, -, hvotes⟩ := hlegal
    rw [claim_with_room hmute hroom htally, settleWait_link_queue, withQueue_link_queue]
    split
    · next hc => exact placed_vote_of_votesFirst hvotes hc
    · next hc => exact placed_of_routine hc
  case kept =>
    rw [claim_of_full_vote hmute hfull hc, if_neg]
    simpa using hnone
  case shed =>
    intro hshed
    rw [claim_of_full_vote hmute hfull hc, if_pos (List.any_eq_true.2 hshed), Queued, settleWait_link_queue,
      withQueue_link_queue]
    have hperm := placed_perm s.link.shed (s.entryFor c)
    refine ⟨⟨s.entryFor c, hperm.mem_iff.2 List.mem_cons_self, rfl⟩, ?_, fun q hq hkeep => ?_⟩
    · rw [hperm.length_eq, List.length_cons, length_shed hshed]
    · exact hperm.mem_iff.2 (List.mem_cons_of_mem _ (mem_shed hq hkeep))
  case newest =>
    intro older newer q hqueue hq hoff hnewer hlegal
    obtain ⟨-, -, hvotes⟩ := hlegal
    have hshed : s.link.mayShed q = true := by simp [LinkController.mayShed, hq, hoff]
    have hmem : q ∈ s.link.queue := by rw [hqueue]; exact List.mem_append_right _ List.mem_cons_self
    have hleft : s.link.shed = older ++ newer := shed_eq hqueue hshed fun y hy => by
      have := hnewer y hy
      simp only [LinkController.mayShed]
      by_contra hc
      simp only [Bool.not_eq_false, Bool.and_eq_true, decide_eq_true_eq, Bool.not_eq_true'] at hc
      exact this hc
    rw [claim_of_full_vote hmute hfull hc, if_pos (List.any_eq_true.2 ⟨q, hmem, hshed⟩), settleWait_link_queue,
      withQueue_link_queue, ← hleft]
    exact placed_vote_of_votesFirst (shed_votesFirst hvotes) hc

end Sys2Proof.Machine

/-! Every step keeps the laws of the link controller (R161, R180, R183, R185, R187, R190, R192, R193). -/

namespace Sys2Proof.Machine

/-- The laws of the link controller together. -/
structure LinkSound (s : State) : Prop where
  queue : QueueLegal s
  silent : MuteIsSilent s
  link : LinkLegal s

section
variable {c : Instr} {s t : State}

/-- Laws that only read the link, the emptiness of the notice list, the own address and whether the mode is START. -/
theorem LinkSound.of_link (hs : LinkSound s) (hlink : t.link = s.link) (hnotices : s.holds.notices = [] → t.holds.notices = [])
    (haddress : t.startup.address = s.startup.address) (hmode : t.ballot.mode = .start → s.ballot.mode = .start) : LinkSound t := by
  obtain ⟨hqueue, hsilent, hlegal⟩ := hs
  refine ⟨?_, ?_, ?_⟩
  · unfold QueueLegal at hqueue ⊢
    rw [hlink]
    exact hqueue
  · unfold MuteIsSilent at hsilent ⊢
    rw [hlink]
    intro hmute
    obtain ⟨hq, hn, hrest⟩ := hsilent hmute
    exact ⟨hq, hnotices hn, hrest⟩
  · have hown : t.own = s.own := haddress
    unfold LinkLegal at hlegal ⊢
    rw [hlink, hown]
    exact ⟨fun h => hlegal.1 (hmode h), hlegal.2⟩

theorem LinkSound.of_blocks (hs : LinkSound s) (hlink : t.link = s.link) (hholds : t.holds = s.holds)
    (hstartup : t.startup = s.startup) (hballot : t.ballot = s.ballot) : LinkSound t :=
  hs.of_link hlink (fun h => by rw [hholds, h]) (by rw [hstartup]) (fun h => by rw [← hballot]; exact h)

theorem mayWait_iff : s.mayWait = true ↔
    s.ballot.mode ≠ .start ∧ s.link.mute = false ∧ s.link.medium = .idle ∧ s.link.sending = none := by
  simp [State.mayWait, and_assoc]

/-- Judging the access wait changes nothing, or the wait alone, of a station that may wait. -/
theorem settleWait_cases (s : State) :
    settleWait s = s ∨ s.mayWait = true ∧ ∃ w, settleWait s = s.setLink { s.link with wait := some w } := by
  unfold settleWait
  split
  · next h =>
    split
    · exact .inr ⟨h, _, rfl⟩
    · exact .inl rfl
  · exact .inl rfl

theorem settleWait_linkSound (hs : LinkSound s) : LinkSound (settleWait s) := by
  obtain h | ⟨hmay, w, h⟩ := settleWait_cases s
  · rwa [h]
  · obtain ⟨hmode, hmute, hmedium, hsending⟩ := mayWait_iff.1 hmay
    obtain ⟨hqueue, -, -, hbusy, hsender, -, hattempts⟩ := hs
    rw [h]
    refine ⟨hqueue, fun hm => ?_, fun hm => absurd hm hmode, hbusy, hsender, fun _ => ⟨hmedium, hsending⟩, hattempts⟩
    cases hmute.symm.trans hm

/-- A queue that a claim may grow: legal, and without a second TALLY. -/
theorem placed_queueLegal {q : List QueueEntry} {e : QueueEntry} {n : Nat} (hlength : q.length < 8) (hvotes : VotesFirst q)
    (htallies : (q.filter fun x => decide (x.claim = .tally)).length ≤ 1)
    (hnew : e.claim = .tally → ∀ x ∈ q, x.claim ≠ .tally) :
    QueueLegal (s.setLink { s.link with queue := placed q e, nextItem := n }) := by
  have hperm := placed_perm q e
  refine ⟨?_, ?_, placed_votesFirst hvotes e⟩
  · show (placed q e).length ≤ 8
    rw [hperm.length_eq, List.length_cons]
    omega
  · show ((placed q e).filter fun x => decide (x.claim = .tally)).length ≤ 1
    rw [(hperm.filter _).length_eq]
    by_cases he : e.claim = .tally
    · have hnone : (q.filter fun x => decide (x.claim = .tally)) = [] :=
        List.filter_eq_nil_iff.2 fun x hx => by simpa using hnew he x hx
      simp [he, hnone]
    · simpa [he] using htallies

/-- What is left of the laws when only the queue, and the number it gives next, have changed. -/
theorem LinkSound.of_queue {q : List QueueEntry} {n : Nat} (hs : LinkSound s) (hmute : s.link.mute = false)
    (hqueue : QueueLegal (s.setLink { s.link with queue := q, nextItem := n })) :
    LinkSound (s.setLink { s.link with queue := q, nextItem := n }) :=
  ⟨hqueue, fun hm => (by cases hmute.symm.trans hm), hs.link⟩

theorem claim_linkSound (x : Claim) (hs : LinkSound s) : LinkSound (claim x s) := by
  obtain ⟨hlength, htallies, hvotes⟩ := hs.queue
  obtain h | ⟨hmute, htally, q, h, hq⟩ := claim_cases x s
  · rwa [h]
  · rw [h]
    have hsub : q.Sublist s.link.queue := by
      rcases hq with ⟨rfl, -⟩ | ⟨rfl, -, -⟩
      · exact List.Sublist.refl _
      · exact shed_sublist _
    have hfirst : VotesFirst q := by
      rcases hq with ⟨rfl, -⟩ | ⟨rfl, -, -⟩
      · exact hvotes
      · exact shed_votesFirst hvotes
    have hroom : q.length < 8 := by
      rcases hq with ⟨rfl, hroom⟩ | ⟨rfl, -, hshed⟩
      · exact hroom
      · have hlen := length_shed hshed
        have hcap : s.link.queue.length ≤ 8 := hlength
        omega
    refine settleWait_linkSound (hs.of_queue hmute (placed_queueLegal hroom hfirst ?_ fun hx y hy hyt => ?_))
    · exact ((hsub.filter _).length_le).trans htallies
    · exact htally hx ⟨y, hsub.subset hy, hyt⟩

theorem takesNotices_iff : s.takesNotices = true ↔ s.ballot.mode ≠ .start ∧ s.link.mute = false := by
  simp [State.takesNotices]

theorem appendNotice_linkSound (kind : NoticeKind) (serial : Byte) (replay : Bool) (hs : LinkSound s) :
    LinkSound (appendNotice kind serial replay s) := by
  unfold appendNotice
  split
  · next h =>
    obtain ⟨-, hmute⟩ := takesNotices_iff.1 h
    exact settleWait_linkSound ⟨hs.queue, fun hm => (by cases hmute.symm.trans hm), hs.link⟩
  · exact hs

theorem setMode_linkSound {m : Mode} (hm : m ≠ .start) (hs : LinkSound s) : LinkSound (setMode m s) :=
  hs.of_link (by simp) (by simp) (by simp) (fun h => absurd ((setMode_mode m s).symm.trans h) hm)

theorem leave_linkSound (hs : LinkSound s) : LinkSound (leave s) := by
  have hclaimed : LinkSound (withdrawClaim s) := by
    unfold withdrawClaim
    split
    · exact claim_linkSound _ hs
    · exact hs
  by_cases hp : s.isParty
  · rw [leave_of_party hp]
    refine setMode_linkSound (by decide) (hclaimed.of_link rfl id rfl fun h => ?_)
    have hmode : (leftRecord s.ballot).mode = s.ballot.mode := by unfold leftRecord; split <;> rfl
    rw [withdrawClaim_ballot, ← hmode]
    exact h
  · rwa [leave_of_not_party hp]

/-- A change of readiness' inputs that leaves link, notices and START alone. -/
theorem settleReadiness_linkSound (before : State) (hs : LinkSound s) : LinkSound (settleReadiness before s) :=
  hs.of_link (by simp) (by simp) (by simp) (by simp)

theorem offer_linkSound (b : Ballot) (hs : LinkSound s) : LinkSound (offer b s) := by
  have hoffered : LinkSound (s.changeBallot { s.ballot with highest := b }) :=
    hs.of_link (by simp) (by simp) (by simp) (by simp [State.changeBallot])
  unfold offer
  split
  · dsimp only
    split
    · exact leave_linkSound hoffered
    · exact hoffered
  · exact hs

theorem raiseHold_linkSound (cause : Cause) (index : Option Nat) (detail : Option Detail) (hs : LinkSound s) :
    LinkSound (raiseHold cause index detail s) := by
  have hadded : LinkSound (addOwn cause index detail s) :=
    hs.of_link (by simp) (by simp [addOwn, State.changeHolds]) (by simp) (by simp [addOwn])
  have hchanged : LinkSound (changeDetail cause index detail s) := hs.of_link rfl id rfl id
  obtain ⟨-, h⟩ | ⟨x, -, -, h⟩ | ⟨x, -, -, h | h⟩ := raiseHold_cases cause index detail s <;> rw [h]
  · exact leave_linkSound (appendNotice_linkSound _ _ _ hadded)
  · exact hs
  · exact hchanged
  · exact appendNotice_linkSound _ _ _ hchanged

theorem removeNotice_linkSound (n : Nat) (hs : LinkSound s) : LinkSound (removeNotice n s) :=
  hs.of_link rfl (fun h => by unfold removeNotice; rw [h]; rfl) rfl id

theorem liftNotices_linkSound (serial : Byte) (hs : LinkSound s) : LinkSound (liftNotices serial s) := by
  unfold liftNotices
  split
  · exact appendNotice_linkSound _ _ _ hs
  · split
    · exact appendNotice_linkSound _ _ _ hs
    · split
      · exact appendNotice_linkSound _ _ _ (removeNotice_linkSound _ hs)
      · exact removeNotice_linkSound _ hs

theorem liftHold_linkSound (cause : Cause) (index : Option Nat) (hs : LinkSound s) : LinkSound (liftHold cause index s) := by
  unfold liftHold
  split
  · exact hs
  · exact liftNotices_linkSound _ (hs.of_link (by simp) (by simp [State.changeHolds]) (by simp) (by simp))

theorem linkSound_lockoutClosed : LockoutClosed LinkSound where
  raise cause index detail _ hs := raiseHold_linkSound cause index detail hs
  lift cause index _ hs := liftHold_linkSound cause index hs
  claim x _ hs := claim_linkSound x hs
  blocks _ _ _ _ _ hs := hs.of_link rfl id rfl id
  settled _ _ haddress hs := hs.of_link rfl id haddress id

theorem setBallot_linkSound {b : BallotUnit} (hmode : b.mode = .start → s.ballot.mode = .start) (hs : LinkSound s) :
    LinkSound (s.setBallot b) := hs.of_link rfl id rfl hmode

theorem propose_linkSound (hs : LinkSound s) : LinkSound (propose s) := by
  have hproposer : LinkSound (proposerState s) := setBallot_linkSound id (offer_linkSound _ hs)
  exact setBallot_linkSound id (setMode_linkSound (by decide) (claim_linkSound _ hproposer))

theorem assent_linkSound (b : Ballot) (hs : LinkSound s) : LinkSound (assent b s) :=
  setBallot_linkSound id (setMode_linkSound (by decide) (claim_linkSound _ (setBallot_linkSound id hs)))

theorem enterClosed_linkSound (hs : LinkSound s) : LinkSound (enterClosed s) := by
  by_cases hholds : s.holds.own = [] ∧ s.holds.remote = []
  · rw [enterClosed_of_no_hold hholds.1 hholds.2]
    exact setMode_linkSound (by decide) (hs.of_link rfl id rfl id)
  · rw [enterClosed_of_hold (by tauto)]
    exact leave_linkSound hs

/-- The link of a station that keeps all but its wait, its medium and its send. -/
theorem LinkSound.of_line {l : LinkController} (hs : LinkSound s) (hqueue : l.queue = s.link.queue) (hmute : l.mute = s.link.mute)
    (hsilent : l.mute = true → l.announceFlag = false ∧ l.wait = none ∧ l.sending = none ∧ l.attempts = 0 ∧ l.counted = none ∧
      l.mutePending = false)
    (hlegal : LinkLegal (s.setLink l)) : LinkSound (s.setLink l) := by
  refine ⟨?_, fun hm => ?_, hlegal⟩
  · have hlegal := hs.queue
    unfold QueueLegal at hlegal ⊢
    rw [State.setLink_link, hqueue]
    exact hlegal
  · obtain ⟨hq, hn, -⟩ := hs.silent (hmute.symm.trans hm)
    obtain ⟨ha, hw, hsend, hattempts, hcounted, hpending⟩ := hsilent hm
    exact ⟨hqueue.trans hq, hn, ha, hw, hsend, hattempts, hcounted, hpending⟩

theorem forgetCounted_linkSound (hs : LinkSound s) : LinkSound (forgetCounted s) := by
  obtain ⟨hstart, hbusy, hsender, hwait, -, -⟩ := hs.link
  unfold forgetCounted
  split
  · split
    · exact hs
    · refine hs.of_line rfl rfl (fun hm => ?_) ⟨hstart, hbusy, hsender, hwait, Nat.zero_lt_succ _, fun _ => rfl⟩
      obtain ⟨-, -, ha, hw, hsend, -, -, hpending⟩ := hs.silent hm
      exact ⟨ha, hw, hsend, rfl, rfl, hpending⟩
  · exact hs

theorem lineQuiet_linkSound (hs : LinkSound s) : LinkSound (lineQuiet s) := by
  obtain ⟨hstart, -, hsender, -, hattempts⟩ := hs.link
  unfold lineQuiet
  split
  · exact hs
  · next hnone =>
    refine hs.of_line rfl rfl (fun hm => ?_) ⟨fun h => ⟨rfl, (hstart h).2⟩, fun h => absurd h hnone, hsender, nofun, hattempts⟩
    obtain ⟨-, -, ha, -, hsend, hrest⟩ := hs.silent hm
    exact ⟨ha, rfl, hsend, hrest⟩

/-- A transmission start: the wait ends, and what was waited for goes on the line (R187). -/
theorem expireAccessWait_linkSound (hs : LinkSound s) : LinkSound (expireAccessWait s) := by
  obtain ⟨hstart, hbusy, hsender, hwait, hattempts⟩ := hs.link
  unfold expireAccessWait
  cases hw : s.link.wait with
  | none => exact hs
  | some w =>
    have hmute : s.link.mute = false := Bool.eq_false_of_not_eq_true fun hm => by
      obtain ⟨-, -, -, hnone, -⟩ := hs.silent hm
      cases hnone.symm.trans hw
    have hmode : s.ballot.mode ≠ .start := fun h => by cases (hstart h).1.symm.trans hw
    have hstopped : LinkSound (s.setLink { s.link with wait := none }) :=
      hs.of_line rfl rfl (fun hm => by cases hmute.symm.trans hm) ⟨fun h => absurd h hmode, hbusy, hsender, nofun, hattempts⟩
    obtain h | ⟨i, b, -, -, h⟩ := transmit_cases (s.setLink { s.link with wait := none })
    · rwa [h]
    · rw [h]
      refine hstopped.of_line rfl rfl (fun hm => by cases hmute.symm.trans hm)
        ⟨fun h => absurd h hmode, fun _ => rfl, fun x hx => ?_, nofun, hattempts⟩
      cases hx
      rfl

theorem removeQueued_linkSound (item : Nat) (hs : LinkSound s) : LinkSound (removeQueued item s) := by
  obtain ⟨hlength, htallies, hvotes⟩ := hs.queue
  refine ⟨⟨(List.length_filter_le _ _).trans hlength, ?_, filter_votesFirst _ hvotes⟩, fun hm => ?_, hs.link⟩
  · exact ((List.filter_sublist.filter _).length_le).trans htallies
  · obtain ⟨hq, hrest⟩ := hs.silent hm
    refine ⟨?_, hrest⟩
    show s.link.queue.filter _ = []
    rw [hq]
    rfl

/-- A station that holds something to send is not MUTE. -/
theorem LinkSound.mute_of_holdsItem {i : Item} (hs : LinkSound s) (hi : s.holdsItem i = true) : s.link.mute = false := by
  refine Bool.eq_false_of_not_eq_true fun hm => ?_
  obtain ⟨hq, hn, ha, -⟩ := hs.silent hm
  cases i <;> simp [State.holdsItem, hq, hn, ha] at hi

theorem setAnnounce_linkSound (hs : LinkSound s) : LinkSound (setAnnounce s) := by
  unfold setAnnounce
  split
  · exact hs
  · next hmute => exact settleWait_linkSound ⟨hs.queue, fun hm => absurd hm hmute, hs.link⟩

theorem Move.keeps_link (h : Move c s t) (hs : LinkSound s) : LinkSound t := by
  have hclosed := linkSound_lockoutClosed
  obtain ⟨hstart, hbusy, hsender, hwait, hattempts, hcounted⟩ := hs.link
  cases h with
  | outside | firstSweep | timers | remote | highest | votes | switchInputs | suspendBleeding | resumePlan | evaluated
    | sweepPlanPoint | tallyPlanPoint | putMonitor => exact hs.of_link rfl id rfl id
  | notices h => exact hs.of_link rfl h rfl id
  | pausePlan =>
    unfold Machine.pausePlan
    split
    · exact hs
    · exact hs.of_link rfl id rfl id
  | settleWait => exact settleWait_linkSound hs
  | forgetCounted => exact forgetCounted_linkSound hs
  | claim x => exact claim_linkSound x hs
  | appendNotice => exact appendNotice_linkSound _ _ _ hs
  | addRemote l => exact leave_linkSound (hs.of_link (by simp) (by simp [State.changeHolds]) (by simp) (by simp))
  | raiseHold => exact raiseHold_linkSound _ _ _ hs
  | liftHold => exact liftHold_linkSound _ _ hs
  | leave => exact leave_linkSound hs
  | propose => exact propose_linkSound hs
  | assent b => exact assent_linkSound b hs
  | enterClosed => exact enterClosed_linkSound hs
  | enterJoin | endJoin => exact setMode_linkSound (by decide) hs
  | read => exact hclosed.settledRead hs
  | escalate e => exact hclosed.escalate e hs
  | completeActive o => exact hclosed.completeActive o hs
  | completeRelease o => exact hclosed.completeRelease o hs
  | completeConfig o => exact hclosed.completeConfig o hs
  | startRelease => exact hclosed.startRelease hs
  | startConfig => exact hclosed.startWrite _ hs
  | lineQuiet => exact lineQuiet_linkSound hs
  | frameStart =>
    refine hs.of_line rfl rfl (fun hm => ?_) ⟨fun h => ⟨rfl, (hstart h).2⟩, fun _ => rfl, hsender, nofun, hattempts, hcounted⟩
    obtain ⟨-, -, ha, -, hrest⟩ := hs.silent hm
    exact ⟨ha, rfl, hrest⟩
  | setLastSender =>
    refine hs.of_line rfl rfl (fun hm => ?_) ⟨hstart, hbusy, hsender, hwait, hattempts, hcounted⟩
    obtain ⟨-, -, hrest⟩ := hs.silent hm
    exact hrest
  | expireAccessWait => exact expireAccessWait_linkSound hs
  | lineCleared =>
    refine hs.of_line rfl rfl (fun hm => ?_)
      ⟨fun h => ⟨(hstart h).1, rfl⟩, nofun, nofun, fun h => ⟨rfl, rfl⟩, Nat.zero_lt_succ _, fun _ => rfl⟩
    obtain ⟨-, -, ha, hw, -, -, -, hpending⟩ := hs.silent hm
    exact ⟨ha, hw, rfl, rfl, rfl, hpending⟩
  | sendAborted =>
    refine hs.of_line rfl rfl (fun hm => ?_)
      ⟨fun h => ⟨(hstart h).1, rfl⟩, nofun, nofun, fun h => ⟨(hwait h).1, rfl⟩, hattempts, hcounted⟩
    obtain ⟨-, -, ha, hw, -, hrest⟩ := hs.silent hm
    exact ⟨ha, hw, rfl, hrest⟩
  | countItem hn hi =>
    refine hs.of_line rfl rfl (fun hm => ?_) ⟨hstart, hbusy, hsender, hwait, hn, nofun⟩
    cases (hs.mute_of_holdsItem hi).symm.trans hm
  | countNone =>
    refine hs.of_line rfl rfl (fun hm => ?_) ⟨hstart, hbusy, hsender, hwait, Nat.zero_lt_succ _, fun _ => rfl⟩
    obtain ⟨-, -, ha, hw, hsend, -, -, hpending⟩ := hs.silent hm
    exact ⟨ha, hw, hsend, rfl, rfl, hpending⟩
  | setAnnounce => exact setAnnounce_linkSound hs
  | clearAnnounce =>
    refine hs.of_line rfl rfl (fun hm => ?_) ⟨hstart, hbusy, hsender, hwait, hattempts, hcounted⟩
    obtain ⟨-, -, -, hrest⟩ := hs.silent hm
    exact ⟨rfl, hrest⟩
  | removeQueued item => exact removeQueued_linkSound item hs
  | enterMute hnone =>
    exact ⟨⟨Nat.zero_le _, Nat.zero_le _, rfl⟩, fun _ => ⟨rfl, rfl, rfl, rfl, hnone, rfl, rfl, rfl⟩,
      fun h => ⟨rfl, hnone⟩, hbusy, hsender, nofun, Nat.zero_lt_succ _, fun _ => rfl⟩
  | mutePending hnotices =>
    refine hs.of_line rfl rfl (fun hm => ?_) ⟨hstart, hbusy, hsender, hwait, hattempts, hcounted⟩
    obtain ⟨-, hn, -⟩ := hs.silent hm
    exact absurd hn hnotices

theorem tick_linkSound (hs : LinkSound s) : LinkSound (tick s) := by
  have hwait : ∀ w : Option AccessWait, (w.map fun x => { x with left := x.left - 1 }).isSome = w.isSome := fun w => by
    cases w <;> rfl
  obtain ⟨hstart, hbusy, hsender, hidle, hattempts⟩ := hs.link
  refine ⟨hs.queue, fun hm => ?_, fun h => ?_, hbusy, hsender, fun h => hidle ((hwait _).symm.trans h), hattempts⟩
  · obtain ⟨hq, hn, ha, hw, hrest⟩ := hs.silent hm
    refine ⟨hq, hn, ha, ?_, hrest⟩
    show s.link.wait.map _ = none
    rw [hw]
    rfl
  · obtain ⟨hw, hsend⟩ := hstart h
    refine ⟨?_, hsend⟩
    show s.link.wait.map _ = none
    rw [hw]
    rfl

theorem startRun_linkSound (straps : Straps) (feedback : SwitchPos) (medium : Medium) (s : State) :
    LinkSound (startRun straps feedback medium s) :=
  ⟨⟨Nat.zero_le _, Nat.zero_le _, rfl⟩, nofun, fun _ => ⟨rfl, rfl⟩, nofun, nofun, nofun, Nat.zero_lt_succ _, fun _ => rfl⟩

end

/-- Settles O58: the laws of the link are kept by every part of an event, by time and by the queue, and hold after a start. -/
theorem linkStaysLegal : Obligations.LinkStaysLegal := by
  intro s hqueue hsilent hlegal t hstep
  have hsound : LinkSound t :=
    step_keeps (P := LinkSound) (fun _ _ hs => hs.of_link rfl id rfl id) (fun _ => tick_linkSound) startRun_linkSound
      (fun _ _ _ => Move.keeps_link) hstep ⟨hqueue, hsilent, hlegal⟩
  exact ⟨hsound.queue, hsound.silent, hsound.link⟩

end Sys2Proof.Machine

/-! Lockout unit, store and LOCKOUT hold stay in step (R141, R143 to R145, R149). -/

namespace Sys2Proof.Machine

section
variable {c : Instr} {s t : State}

/-! ### Which holds stand -/

theorem stands_iff {x : Cause} : s.stands x = true ↔ ∃ h ∈ s.holds.own, h.cause = x ∧ h.index = none := by
  simp [State.stands, State.ownHold, List.find?_isSome]

theorem stands_congr {x : Cause} (h : t.holds.own = s.holds.own) : t.stands x = s.stands x := by
  unfold State.stands State.ownHold
  rw [h]

/-- A raise makes its own hold stand and leaves what stands otherwise (R33, R34). -/
theorem raiseHold_stands_iff (cause : Cause) (index : Option Nat) (detail : Option Detail) (s : State) (x : Cause) :
    (raiseHold cause index detail s).stands x = true ↔ s.stands x = true ∨ cause = x ∧ index = none := by
  have hstanding : ∀ h, s.ownHold cause index = some h → cause = x ∧ index = none → s.stands x = true := by
    rintro h hh ⟨rfl, rfl⟩
    unfold State.stands
    rw [hh]
    rfl
  cases hx : s.ownHold cause index with
  | none =>
    rw [stands_iff, stands_iff, raiseHold_own_of_new detail hx]
    constructor
    · rintro ⟨h, hh, hkey⟩
      rcases List.mem_append.1 hh with hh | hh
      · exact .inl ⟨h, hh, hkey⟩
      · rw [List.mem_singleton.1 hh] at hkey
        exact .inr hkey
    · rintro (⟨h, hh, hkey⟩ | hkey)
      · exact ⟨h, List.mem_append_left _ hh, hkey⟩
      · exact ⟨_, List.mem_append_right _ (List.mem_singleton.2 rfl), hkey⟩
  | some h =>
    by_cases hd : h.detail = detail
    · rw [← hd, raiseHold_of_same hx]
      exact ⟨.inl, fun hor => hor.elim id (hstanding h hx)⟩
    · rw [stands_iff, raiseHold_own_of_standing detail hx hd]
      constructor
      · rintro ⟨k, hk, hkey⟩
        obtain ⟨y, hy, rfl⟩ := List.mem_map.1 hk
        refine .inl (stands_iff.2 ⟨y, hy, ?_⟩)
        split at hkey <;> exact hkey
      · intro hor
        obtain ⟨y, hy, hkey⟩ := stands_iff.1 (hor.elim id (hstanding h hx))
        refine ⟨_, List.mem_map.2 ⟨y, hy, rfl⟩, ?_⟩
        split <;> exact hkey

/-- A lift takes away its own hold alone (R35). -/
theorem liftHold_stands_iff (cause : Cause) (index : Option Nat) (s : State) (x : Cause) :
    (liftHold cause index s).stands x = true ↔ s.stands x = true ∧ ¬(cause = x ∧ index = none) := by
  rw [stands_iff, stands_iff, liftHold_own]
  constructor
  · rintro ⟨h, hh, hkey⟩
    obtain ⟨hmem, hother⟩ := List.mem_filter.1 hh
    refine ⟨⟨h, hmem, hkey⟩, ?_⟩
    rintro ⟨rfl, rfl⟩
    exact of_decide_eq_true hother hkey
  · rintro ⟨⟨h, hh, hcause, hindex⟩, hne⟩
    refine ⟨h, List.mem_filter.2 ⟨hh, decide_eq_true ?_⟩, hcause, hindex⟩
    rintro ⟨hc, hi⟩
    exact hne ⟨hc.symm.trans hcause, hi.symm.trans hindex⟩

theorem raiseHold_stands_self (cause : Cause) (detail : Option Detail) (s : State) :
    (raiseHold cause none detail s).stands cause = true := (raiseHold_stands_iff ..).2 (.inr ⟨rfl, rfl⟩)

theorem liftHold_stands_self (cause : Cause) (s : State) : (liftHold cause none s).stands cause = false :=
  Bool.eq_false_of_not_eq_true fun h => ((liftHold_stands_iff ..).1 h).2 ⟨rfl, rfl⟩

theorem raiseHold_stands_of_ne {cause x : Cause} (index : Option Nat) (detail : Option Detail) (s : State) (h : cause ≠ x) :
    (raiseHold cause index detail s).stands x = s.stands x := by
  rw [Bool.eq_iff_iff, raiseHold_stands_iff]
  exact ⟨fun hor => hor.elim id fun ⟨hx, _⟩ => absurd hx h, .inl⟩

theorem liftHold_stands_of_ne {cause x : Cause} (index : Option Nat) (s : State) (h : cause ≠ x) :
    (liftHold cause index s).stands x = s.stands x := by
  rw [Bool.eq_iff_iff, liftHold_stands_iff]
  exact ⟨And.left, fun hs => ⟨hs, fun ⟨hx, _⟩ => h hx⟩⟩

/-! ### Store and LOCKOUT hold in step -/

/-- What a write leaves torn and counted invalid while it is in flight (R143). -/
theorem write_started (w : Write) (r : RetainedStore) (k : SlotCopies) :
    w.targetTorn (w.stored false r) ∧ w.targetInvalid (w.copied false k) := by
  cases w with
  | active n x => cases n <;> exact ⟨rfl, rfl⟩
  | release n x => cases n <;> exact ⟨rfl, rfl⟩
  | config n x => cases n <;> exact ⟨rfl, rfl⟩

/-- The two laws from the store read on. -/
structure LockoutSound (s : State) : Prop where
  store : StoreLegal s
  hold : LockoutInStep s

theorem LockoutSound.of_lockout (hs : LockoutSound s) (hread : t.startup.readComplete = s.startup.readComplete)
    (hlockout : t.lockout = s.lockout) (hstore : t.store = s.store) (hstands : t.stands .lockout = s.stands .lockout) :
    LockoutSound t := by
  obtain ⟨hlegal, hstep⟩ := hs
  unfold StoreLegal at hlegal
  unfold LockoutInStep at hstep
  refine ⟨?_, ?_⟩
  · unfold StoreLegal
    rw [hread, hlockout, hstore]
    exact hlegal
  · unfold LockoutInStep
    rw [hread, hlockout, hstands]
    exact hstep

theorem LockoutSound.of_blocks (hs : LockoutSound s) (hread : t.startup.readComplete = s.startup.readComplete)
    (hlockout : t.lockout = s.lockout) (hstore : t.store = s.store) (hown : t.holds.own = s.holds.own) : LockoutSound t :=
  hs.of_lockout hread hlockout hstore (stands_congr hown)

/-- A write that starts: with an ACTIVE record, or of a configuration. -/
theorem startWrite_lockoutSound {w : Write} (hs : LockoutSound s) (hpending : s.lockout.pendingWrite = false)
    (hactive : w.isConfig = false → s.lockout.record.state = .active) : LockoutSound (startWrite w s) := by
  obtain ⟨⟨hread, -, -⟩, hstep⟩ := hs
  obtain ⟨htorn, hinvalid⟩ := write_started w s.store s.lockout.copies
  refine ⟨⟨hread, fun v hv => ?_, fun h => ?_⟩, hstep⟩
  · cases hv
    exact ⟨htorn, hinvalid, hactive⟩
  · cases hpending.symm.trans h

/-- The ACTIVE write of an ACTIVE record starts, whatever was in flight or waited before. -/
theorem startActiveTo_lockoutSound (n : SlotName) (attempt : Nat) (hstep : LockoutInStep s)
    (hactive : s.lockout.record.state = .active) (hpending : s.lockout.pendingWrite = false) :
    LockoutSound (startActiveTo n attempt s) := by
  obtain ⟨hread, hstands, hcause⟩ := hstep
  obtain ⟨k, hk⟩ := Option.isSome_iff_exists.1 (hcause hactive)
  unfold startActiveTo LockoutRecord.slot
  rw [hk]
  have hset : LockoutInStep (s.setLockout { s.lockout with record := { s.lockout.record with attempt := attempt } }) :=
    ⟨hread, hstands, hcause⟩
  obtain ⟨htorn, hinvalid⟩ := write_started (.active n ⟨s.lockout.record.serial, .active, k, s.lockout.record.index⟩) s.store
    s.lockout.copies
  refine ⟨⟨hread, fun v hv => ?_, fun h => ?_⟩, hset⟩
  · cases hv
    exact ⟨htorn, hinvalid, fun _ => hactive⟩
  · cases hpending.symm.trans h

/-- No lockout stands: nothing is written but a configuration, and nothing waits. -/
theorem LockoutSound.of_none (hs : LockoutSound s) (hnone : s.lockout.record.state = .none) :
    (∀ w, s.lockout.inFlight = some w → w.isConfig = true) ∧ s.lockout.pendingWrite = false := by
  obtain ⟨-, hwrite, hpending⟩ := hs.store
  have hinactive : s.lockout.record.state ≠ .active := by rw [hnone]; decide
  refine ⟨fun w hw => ?_, Bool.eq_false_of_not_eq_true fun h => hinactive (hpending h).1⟩
  obtain ⟨-, -, hactive⟩ := hwrite w hw
  exact Bool.eq_true_of_not_eq_false fun h => hinactive (hactive h)

theorem beginLockout_lockoutSound (e : Escalation) (hs : LockoutSound s) (hnone : s.lockout.record.state = .none) :
    LockoutSound (beginLockout e s) := by
  obtain ⟨hconfig, hpending⟩ := hs.of_none hnone
  obtain ⟨hread, hwrite, -⟩ := hs.store
  have hlockout : (lockoutRaised e s).lockout = { s.lockout with record := newLockout e s } := by simp [lockoutRaised]
  have hstep : LockoutInStep (lockoutRaised e s) := by
    refine ⟨by simp [lockoutRaised, hread], ?_, fun _ => by rw [hlockout]; rfl⟩
    rw [hlockout]
    exact iff_of_true (raiseHold_stands_self ..) rfl
  have hraised : LockoutSound (lockoutRaised e s) := by
    refine ⟨⟨hstep.1, ?_, ?_⟩, hstep⟩
    · rw [hlockout]
      intro w hw
      obtain ⟨htorn, hinvalid, -⟩ := hwrite w hw
      exact ⟨by simpa [lockoutRaised] using htorn, hinvalid, fun _ => rfl⟩
    · rw [hlockout]
      intro h
      cases hpending.symm.trans h
  rw [beginLockout_eq]
  split
  · exact hraised
  · split
    · exact startActiveTo_lockoutSound _ _ hstep (by rw [hlockout]; rfl) (by rw [hlockout]; exact hpending)
    · next hflight =>
      obtain ⟨hr, hw, -⟩ := hraised.store
      refine ⟨⟨hr, hw, fun _ => ⟨?_, ?_⟩⟩, hstep⟩
      · show (lockoutRaised e s).lockout.record.state = .active
        rw [hlockout]
        rfl
      · show (lockoutRaised e s).lockout.inFlight.any (fun w => w.isConfig) = true
        rw [hlockout] at hflight ⊢
        cases hw : s.lockout.inFlight with
        | none => simp [hw] at hflight
        | some w => exact hconfig w hw

theorem escalate_lockoutSound (e : Escalation) (hs : LockoutSound s) : LockoutSound (escalate e s) := by
  unfold escalate
  split
  · next hnone => exact beginLockout_lockoutSound e hs hnone
  · split
    · exact ⟨hs.store, hs.hold⟩
    · exact hs
  · exact hs

/-- With an ACTIVE or a release write in flight the record is ACTIVE and nothing waits. -/
theorem LockoutSound.of_lockout_write {w : Write} (hs : LockoutSound s) (hw : s.lockout.inFlight = some w)
    (hconfig : w.isConfig = false) : s.lockout.record.state = .active ∧ s.lockout.pendingWrite = false := by
  obtain ⟨-, hwrite, hpending⟩ := hs.store
  obtain ⟨-, -, hactive⟩ := hwrite w hw
  refine ⟨hactive hconfig, Bool.eq_false_of_not_eq_true fun h => ?_⟩
  obtain ⟨-, hany⟩ := hpending h
  rw [hw, Option.any_some, hconfig] at hany
  cases hany

/-- A write that ends with nothing waiting. -/
theorem endWrite_lockoutSound (w : Write) (o : WriteOutcome) (hs : LockoutSound s) (hpending : s.lockout.pendingWrite = false) :
    LockoutSound (endWrite w o s) := by
  obtain ⟨hread, -, -⟩ := hs.store
  exact ⟨⟨hread, nofun, fun h => by cases hpending.symm.trans h⟩, hs.hold⟩

/-- While the laws hold a write that waits, waits behind one in flight. -/
theorem startPending_lockoutSound (hs : LockoutSound s) : LockoutSound (startPending s) := by
  obtain ⟨-, -, hpending⟩ := hs.store
  unfold startPending
  split
  · next h =>
    obtain ⟨hwaits, hflight⟩ := Bool.and_eq_true_iff.1 h
    obtain ⟨-, hany⟩ := hpending hwaits
    rw [Option.isNone_iff_eq_none.1 hflight] at hany
    cases hany
  · exact hs

theorem completeActive_lockoutSound (o : WriteOutcome) (hs : LockoutSound s) : LockoutSound (completeActive o s) := by
  unfold completeActive
  split
  · next n x hw =>
    obtain ⟨hactive, hpending⟩ := hs.of_lockout_write hw rfl
    have hended : ∀ r, LockoutSound (endWrite (.active n x) r s) := fun r => endWrite_lockoutSound _ r hs hpending
    refine startPending_lockoutSound ?_
    cases o with
    | ok => exact ⟨(hended .ok).store, (hended .ok).hold⟩
    | fail =>
      dsimp only
      split
      · exact startActiveTo_lockoutSound n 2 (hended .fail).hold hactive hpending
      · exact hended .fail
  · exact hs

theorem answerAwaited_lockoutSound (r : OrderResult) (hs : LockoutSound s) : LockoutSound (answerAwaited r s) :=
  hs.of_blocks (by simp) (by simp) (by simp) (by simp)

/-- The release of the record with its hold lifted (R152 steps 1 and 2). -/
theorem released_lockoutSound (hs : LockoutSound s) (hflight : s.lockout.inFlight = none)
    (hpending : s.lockout.pendingWrite = false) : LockoutSound (liftHold .lockout none (releaseRecord s)) := by
  obtain ⟨hread, -, -⟩ := hs.store
  have hlockout : (liftHold .lockout none (releaseRecord s)).lockout = (releaseRecord s).lockout := by simp
  refine ⟨⟨by simp [releaseRecord, hread], ?_, ?_⟩, by simp [releaseRecord, hread], ?_, ?_⟩
  · rw [hlockout]
    intro w hw
    cases hflight.symm.trans hw
  · rw [hlockout]
    intro h
    cases hpending.symm.trans h
  · rw [hlockout, liftHold_stands_self]
    exact iff_of_false (by decide) nofun
  · rw [hlockout]
    nofun

theorem applyPendingEscalation_lockoutSound (hs : LockoutSound s) (hnone : s.lockout.record.state = .none) :
    LockoutSound (applyPendingEscalation s) := by
  unfold applyPendingEscalation
  split
  · exact beginLockout_lockoutSound _ ⟨hs.store, hs.hold⟩ hnone
  · exact hs

theorem completeRelease_lockoutSound (o : WriteOutcome) (hs : LockoutSound s) : LockoutSound (completeRelease o s) := by
  unfold completeRelease
  split
  · next n x hw =>
    obtain ⟨-, hpending⟩ := hs.of_lockout_write hw rfl
    have hended : ∀ r, LockoutSound (endWrite (.release n x) r s) := fun r => endWrite_lockoutSound _ r hs hpending
    refine startPending_lockoutSound ?_
    cases o with
    | ok =>
      have hanswered := answerAwaited_lockoutSound (.done []) (released_lockoutSound (hended .ok) rfl hpending)
      exact applyPendingEscalation_lockoutSound hanswered (by simp [releaseRecord])
    | fail =>
      have hanswered := answerAwaited_lockoutSound (.refused .storeFault) (hended .fail)
      exact ⟨hanswered.store, hanswered.hold⟩
  · exact hs

/-- Behind a configuration write an ACTIVE write may wait; it starts now (R143, R155). -/
theorem completeConfig_lockoutSound (o : WriteOutcome) (hs : LockoutSound s) : LockoutSound (completeConfig o s) := by
  unfold completeConfig
  split
  · next n x hw =>
    obtain ⟨hread, -, hwaits⟩ := hs.store
    have hlockout : (answerAwaited (storeResult o) (endWrite (.config n x) o s)).lockout = (endWrite (.config n x) o s).lockout := by
      simp
    cases hpending : s.lockout.pendingWrite with
    | false =>
      exact startPending_lockoutSound (answerAwaited_lockoutSound _ (endWrite_lockoutSound _ o hs hpending))
    | true =>
      obtain ⟨hactive, -⟩ := hwaits hpending
      unfold startPending
      rw [hlockout, if_pos (by simpa [endWrite] using hpending)]
      refine startActiveTo_lockoutSound _ _ ?_ hactive rfl
      obtain ⟨-, hstands, hcause⟩ := hs.hold
      refine ⟨by simpa [endWrite] using hread, ?_, hcause⟩
      show (answerAwaited (storeResult o) (endWrite (.config n x) o s)).stands .lockout = true ↔ _
      rw [stands_congr (t := answerAwaited _ _) (s := s) (by simp)]
      exact hstands
  · exact hs

theorem LockoutSound.idle_of_not_writing (h : s.lockout.isWriting = false) :
    s.lockout.inFlight = none ∧ s.lockout.pendingWrite = false := by
  simpa [LockoutUnit.isWriting] using h

theorem Move.keeps_lockout (h : Move c s t) (hs : LockoutSound s) : LockoutSound t := by
  cases h with
  | outside | firstSweep | timers | remote | highest | votes | switchInputs | suspendBleeding | resumePlan | evaluated
    | notices | lineCleared | sendAborted | countItem | countNone | mutePending | frameStart | clearAnnounce | removeQueued
    | enterMute => exact hs.of_blocks rfl rfl rfl rfl
  | settleWait | forgetCounted | claim | lineQuiet | setLastSender | setAnnounce | putMonitor | appendNotice | leave | propose
    | assent | enterClosed | sweepPlanPoint | tallyPlanPoint | enterJoin | endJoin =>
    exact hs.of_blocks (by simp) (by simp) (by simp) (by simp)
  | addRemote => exact hs.of_blocks (by simp) (by simp) (by simp) (by simp [State.changeHolds])
  | pausePlan =>
    unfold Machine.pausePlan
    split
    · exact hs
    · exact hs.of_blocks rfl rfl rfl rfl
  | expireAccessWait =>
    obtain ⟨l, hl⟩ := expireAccessWait_eq_setLink s
    rw [hl]
    exact hs.of_blocks rfl rfl rfl rfl
  | raiseHold _ _ hne => exact hs.of_lockout (by simp) (by simp) (by simp) (raiseHold_stands_of_ne _ _ _ hne)
  | liftHold _ hne => exact hs.of_lockout (by simp) (by simp) (by simp) (liftHold_stands_of_ne _ _ hne)
  | read _ hread => cases hread.symm.trans hs.store.1
  | escalate e => exact escalate_lockoutSound e hs
  | completeActive o => exact completeActive_lockoutSound o hs
  | completeRelease o => exact completeRelease_lockoutSound o hs
  | completeConfig o => exact completeConfig_lockoutSound o hs
  | startRelease hidle hactive =>
    obtain ⟨-, hpending⟩ := LockoutSound.idle_of_not_writing hidle
    unfold Machine.startRelease
    split
    · exact startWrite_lockoutSound hs hpending fun _ => hactive
    · exact hs
  | startConfig _ _ hidle =>
    obtain ⟨-, hpending⟩ := LockoutSound.idle_of_not_writing hidle
    exact startWrite_lockoutSound hs hpending nofun

/-! ### Before the store read -/

theorem NoLockoutYet.of_lockout (hs : NoLockoutYet s) (hread : t.startup.readComplete = s.startup.readComplete)
    (hmode : s.ballot.mode = .start → t.ballot.mode = .start) (hlockout : t.lockout = s.lockout)
    (hstands : t.stands .lockout = s.stands .lockout) : NoLockoutYet t := by
  obtain ⟨hr, hm, hrest⟩ := hs
  unfold NoLockoutYet
  rw [hread, hlockout, hstands]
  exact ⟨hr, hmode hm, hrest⟩

theorem NoLockoutYet.of_blocks (hs : NoLockoutYet s) (hread : t.startup.readComplete = s.startup.readComplete)
    (hballot : t.ballot.mode = s.ballot.mode) (hlockout : t.lockout = s.lockout) (hown : t.holds.own = s.holds.own) :
    NoLockoutYet t :=
  hs.of_lockout hread (fun h => hballot.trans h) hlockout (stands_congr hown)

/-- A part of an event keeps that the store has been read. -/
theorem Move.keeps_readComplete (h : Move c s t) (hread : s.startup.readComplete = true) : t.startup.readComplete = true := by
  cases h with
  | pausePlan => unfold Machine.pausePlan; split <;> exact hread
  | expireAccessWait =>
    obtain ⟨l, hl⟩ := expireAccessWait_eq_setLink s
    rw [hl]
    exact hread
  | read => rfl
  | outside | firstSweep | timers | remote | highest | votes | switchInputs | suspendBleeding | resumePlan | evaluated
    | notices | lineCleared | sendAborted | countItem | countNone | mutePending | frameStart | clearAnnounce | removeQueued
    | enterMute => exact hread
  | _ => simpa using hread

/-- A part of an event that no settle check's expiry makes: no lockout begins before the store read. -/
theorem Move.keeps_noLockoutYet (hc : c ≠ .settleCheckExpiry) (h : Move c s t) (hs : NoLockoutYet s) :
    t.startup.readComplete = true ∨ NoLockoutYet t := by
  obtain ⟨hread, hmode, hnone, hstands, hflight, hpending⟩ := id hs
  have hnot : ∀ {m : Mode}, m ≠ .start → s.ballot.mode ≠ m := fun hm h => hm (h.symm.trans hmode)
  cases h with
  | outside | firstSweep | timers | remote | highest | votes | switchInputs | suspendBleeding | resumePlan | evaluated
    | notices | lineCleared | sendAborted | countItem | countNone | mutePending | frameStart | clearAnnounce | removeQueued
    | enterMute => exact .inr (hs.of_blocks rfl rfl rfl rfl)
  | settleWait | forgetCounted | claim | lineQuiet | setLastSender | setAnnounce | putMonitor | appendNotice | sweepPlanPoint
    | tallyPlanPoint => exact .inr (hs.of_blocks (by simp) (by simp) (by simp) (by simp))
  | leave => exact .inr (hs.of_lockout (by simp) (by simp) (by simp) (stands_congr (by simp)))
  | addRemote =>
    exact .inr (hs.of_lockout (by simp) (by simp [State.changeHolds]) (by simp) (stands_congr (by simp [State.changeHolds])))
  | pausePlan =>
    unfold Machine.pausePlan
    split
    · exact .inr hs
    · exact .inr (hs.of_blocks rfl rfl rfl rfl)
  | expireAccessWait =>
    obtain ⟨l, hl⟩ := expireAccessWait_eq_setLink s
    rw [hl]
    exact .inr (hs.of_blocks rfl rfl rfl rfl)
  | raiseHold _ _ hne =>
    exact .inr (hs.of_lockout (by simp) (by simp) (by simp) (raiseHold_stands_of_ne _ _ _ hne))
  | liftHold _ hne => exact .inr (hs.of_lockout (by simp) (by simp) (by simp) (liftHold_stands_of_ne _ _ hne))
  | read => exact .inl rfl
  | escalate e h =>
    rcases h with h | h | h
    · exact absurd h hc
    · exact absurd hmode h
    · cases hread.symm.trans h
  | completeActive o => rw [show Machine.completeActive o s = s by unfold Machine.completeActive; rw [hflight]]; exact .inr hs
  | completeRelease o => rw [show Machine.completeRelease o s = s by unfold Machine.completeRelease; rw [hflight]]; exact .inr hs
  | completeConfig o => rw [show Machine.completeConfig o s = s by unfold Machine.completeConfig; rw [hflight]]; exact .inr hs
  | startRelease _ hactive => cases hnone.symm.trans hactive
  | startConfig _ _ _ hopen => exact absurd hopen (hnot (by decide))
  | propose hopen => exact absurd hopen (hnot (by decide))
  | assent _ hopen => exact absurd hopen (hnot (by decide))
  | enterClosed hpledged => exact absurd hpledged (hnot (by decide))
  | enterJoin _ hcomplete => cases hread.symm.trans hcomplete
  | endJoin hjoin => exact absurd hjoin (hnot (by decide))

theorem startRun_noLockoutYet (straps : Straps) (feedback : SwitchPos) (medium : Medium) (s : State) :
    NoLockoutYet (startRun straps feedback medium s) := ⟨rfl, rfl, rfl, rfl, rfl, rfl⟩

end

/-- What a step is: the command at the front of the queue, an expiry that has fallen due, or time (log 1, log 2). -/
theorem step_cases {s t : State} (h : step s = .next t) :
    (∃ c rest, s.pending = c :: rest ∧ exec c (s.setPending rest) = .next t) ∨
      (∃ c, s.pending = [] ∧ s.dueExpiry = some c ∧ exec c s = .next t) ∨
      s.pending = [] ∧ s.dueExpiry = none ∧ t = tick s := by
  unfold step at h
  split at h
  · next c rest hp => exact .inl ⟨c, rest, hp, h⟩
  · next hp =>
    unfold idle at h
    split at h
    · next c hdue => exact .inr (.inl ⟨c, hp, hdue, h⟩)
    · next hdue =>
      cases h
      exact .inr (.inr ⟨hp, hdue, rfl⟩)

/-- Settles O60. From the read on, the parts of an event keep the laws and a start ends the period; before it, the parts of an event
other than a settle check's expiry lead to the read or begin no lockout. -/
theorem lockoutAndStoreStayInStep : Obligations.LockoutAndStoreStayInStep := by
  refine ⟨fun s hstore hhold t hstep hread => ?_, fun s hs hfront hidle t hstep => ?_⟩
  · have hexec : ∀ c u, LockoutSound u → exec c u = .next t → LockoutSound t := by
      intro c u hu hc
      obtain ⟨straps, feedback, medium, rfl⟩ | hmoves := exec_started_or_moves hc
      · cases hread
      · exact hmoves.keeps (fun _ _ => Move.keeps_lockout) hu
    have hsound : LockoutSound t := by
      obtain ⟨c, rest, -, hc⟩ | ⟨c, -, -, hc⟩ | ⟨-, -, rfl⟩ := step_cases hstep
      · exact hexec c (s.setPending rest) ⟨hstore, hhold⟩ hc
      · exact hexec c s ⟨hstore, hhold⟩ hc
      · exact ⟨hstore, hhold⟩
    exact ⟨hsound.store, hsound.hold⟩
  · have hexec : ∀ c u, c ≠ .settleCheckExpiry → NoLockoutYet u → exec c u = .next t →
        t.startup.readComplete = true ∨ NoLockoutYet t := by
      intro c u hne hu hc
      obtain ⟨straps, feedback, medium, rfl⟩ | hmoves := exec_started_or_moves hc
      · exact .inr (startRun_noLockoutYet ..)
      · refine hmoves.keeps (P := fun u => u.startup.readComplete = true ∨ NoLockoutYet u) (fun v w hmove hv => ?_) (.inr hu)
        exact hv.elim (fun hread => .inl (hmove.keeps_readComplete hread)) (hmove.keeps_noLockoutYet hne)
    obtain ⟨c, rest, hp, hc⟩ | ⟨c, hp, hdue, hc⟩ | ⟨-, -, rfl⟩ := step_cases hstep
    · refine hexec c (s.setPending rest) (fun hcheck => hfront ?_) hs hc
      rw [hp, hcheck]
      rfl
    · refine hexec c s (fun hcheck => hidle hp ?_) hs hc
      rw [hdue, hcheck]
    · exact .inr hs

end Sys2Proof.Machine

/-! Time, the due expiries, starts, access waits, the monitors' state machine (log 1, log 2, R98 to R102, R160, R161, R164, R185). -/

namespace Sys2Proof.Machine

/-- Settles O1: the step function's first case. -/
theorem stepRunsFrontCommand : Obligations.StepRunsFrontCommand := fun _ _ _ => rfl

section
variable {s t : State}

/-! ### Expiries and time -/

theorem ite_some_eq_none_iff {α : Type} {b : Bool} {x : α} {o : Option α} :
    (if b = true then some x else o) = none ↔ b = false ∧ o = none := by
  cases b <;> simp

theorem ite_some_eq_some_iff {α : Type} {b : Bool} {x y : α} {o : Option α} :
    (if b = true then some x else o) = some y ↔ y = x ∧ b = true ∨ b = false ∧ o = some y := by
  cases b <;> simp [eq_comm]

theorem dueExpiry_eq_none_iff : s.dueExpiry = none ↔
    s.sweep.timer.due = false ∧ s.roster.tallyTimer.due = false ∧ s.ballot.settle.due = false ∧ s.ballot.proposal.due = false ∧
      s.ballot.pledge.due = false ∧ s.ballot.confirm.due = false ∧ s.switch.due = false ∧ s.link.due = false := by
  simp only [State.dueExpiry, ite_some_eq_none_iff, and_true]

/-- An expiry that is taken has fallen due. -/
theorem due_of_dueExpiry {c : Instr} (h : s.dueExpiry = some c) :
    c = .sweepTimerExpiry ∧ s.sweep.timer.due = true ∨ c = .tallyTimerExpiry ∧ s.roster.tallyTimer.due = true ∨
      c = .settleTimerExpiry ∧ s.ballot.settle.due = true ∨ c = .proposalTimerExpiry ∧ s.ballot.proposal.due = true ∨
      c = .pledgeTimerExpiry ∧ s.ballot.pledge.due = true ∨ c = .confirmTimerExpiry ∧ s.ballot.confirm.due = true ∨
      c = .settleCheckExpiry ∧ s.switch.due = true ∨ c = .accessWaitExpiry ∧ s.link.due = true := by
  simp only [State.dueExpiry, ite_some_eq_some_iff, reduceCtorEq, and_false, or_false] at h
  tauto

theorem step_of_no_command (h : s.pending = []) :
    step s = match s.dueExpiry with
      | some c => exec c s
      | none => .next (tick s) := by
  unfold step
  rw [h]
  rfl

/-- The clock as one count of microseconds; the millisecond count wraps. -/
theorem stationClock_tick (c : StationClock) :
    c.tick.ms.toNat * 1000 + c.tick.us =
      if c.us + 1 < 1000 then c.ms.toNat * 1000 + c.us + 1 else ((c.ms.toNat + 1) % 4294967296) * 1000 := by
  unfold StationClock.tick
  split
  · exact (Nat.add_assoc ..).symm
  · simp [BitVec.toNat_add]

theorem timer_tick (x : Timer) :
    (x = .stopped → x.tick = .stopped) ∧ ∀ n left, x = .running n left → x.tick = .running n (left - 1) :=
  ⟨fun h => by rw [h]; rfl, fun n left h => by rw [h]; rfl⟩

theorem tick_check_of_running {k : CheckCause} {n left : Nat} (h : s.switch.check = some ⟨k, .running n left⟩) :
    (tick s).switch.check = some ⟨k, .running n (left - 1)⟩ := by
  show s.switch.check.map _ = _
  rw [h]
  rfl

theorem tick_wait_of_running {k : AccessClass} {left : Nat} (h : s.link.wait = some ⟨k, left⟩) :
    (tick s).link.wait = some ⟨k, left - 1⟩ := by
  show s.link.wait.map _ = _
  rw [h]
  rfl

theorem tick_check_of_stopped (h : s.switch.check = none) : (tick s).switch.check = none := by
  show s.switch.check.map _ = _
  rw [h]
  rfl

theorem tick_wait_of_stopped (h : s.link.wait = none) : (tick s).link.wait = none := by
  show s.link.wait.map _ = _
  rw [h]
  rfl

end

/-- Settles O2: an empty queue leaves the due expiry or one microsecond, which each running timer takes. -/
theorem emptyQueueTakesDueExpiryOrTime : Obligations.EmptyQueueTakesDueExpiryOrTime := by
  intro s hpending
  have hstep := step_of_no_command hpending
  refine ⟨fun c hc => by rw [hstep, hc], ⟨?_, fun c hc => ?_⟩, fun hnone => ⟨tick s, by rw [hstep, hnone], ?_⟩⟩
  · simp only [← Timer.due_iff, ← SwitchDriver.due_iff, ← LinkController.due_iff, Bool.not_eq_true]
    exact dueExpiry_eq_none_iff
  · simp only [← Timer.due_iff, ← SwitchDriver.due_iff, ← LinkController.due_iff]
    exact due_of_dueExpiry hc
  · exact ⟨stationClock_tick s.clock, timer_tick _, timer_tick _, timer_tick _, timer_tick _, timer_tick _, timer_tick _,
      tick_check_of_stopped, fun _ _ _ => tick_check_of_running, tick_wait_of_stopped, fun _ _ => tick_wait_of_running, rfl⟩

/-! ### Starts -/

/-- A start's event ends with the start (log 13): START leaves nothing to settle. -/
theorem endEvent_startRun (before : State) (straps : Straps) (feedback : SwitchPos) (medium : Medium) (s : State) :
    endEvent before (startRun straps feedback medium s) = startRun straps feedback medium s := by
  simp [endEvent, settleReadiness, State.ready, startRun, forgetCounted, LinkController.atStart, settleWait, State.mayWait,
    BallotUnit.atStart, State.setBallot]

theorem exec_supplyStart (straps : Straps) (feedback : SwitchPos) (medium : Medium) (s : State) :
    exec (.supplyStart straps feedback medium) s = .next (startRun straps feedback medium s) :=
  congrArg Host.Outcome.next (endEvent_startRun s straps feedback medium s)

/-- An entry of the roster in which every one of the 25 addresses has its start value. -/
theorem entry_of_atStart {s : State} {a : Nat} (h : s.roster = Roster.atStart) (ha : a ≤ 24) :
    s.entry a = RosterEntry.vacant a := by
  unfold State.entry
  rw [h]
  interval_cases a <;> rfl

/-- Settles O4: a start writes out every block, its first sweep and settle check by the strap address. -/
theorem supplyStartGivesStartValues : Obligations.SupplyStartGivesStartValues := by
  intro straps feedback medium s
  refine ⟨startRun straps feedback medium s, exec_supplyStart .., rfl, rfl, rfl, rfl, rfl, rfl, rfl, rfl, rfl, rfl,
    fun a ha => entry_of_atStart rfl ha, rfl, rfl, rfl, rfl, rfl, rfl, rfl, rfl, rfl, rfl, rfl, rfl, rfl, rfl, rfl, rfl, rfl, rfl,
    rfl, rfl, rfl, rfl, fun hvalid => ?_, fun hinvalid => ?_⟩
  · have hv : validAddress straps.level.toNat = true := decide_eq_true hvalid
    simp [startRun, SweepUnit.atStart, PlanRecord.atStart, SwitchDriver.atStart, hv, firstSweepInterval, firstSettleTime]
  · have hv : validAddress straps.level.toNat = false := decide_eq_false hinvalid
    simp [startRun, SweepUnit.atStart, PlanRecord.atStart, SwitchDriver.atStart, hv]

/-! ### Access waits -/

/-- The rotation counts the addresses from the one after the last sender (R185). -/
theorem rotation_spec {a l : Nat} (ha : a ≤ 24) : rotation a l ≤ 24 ∧ (l + 1 + rotation a l) % 25 = a := by
  unfold rotation
  omega

theorem offset_cases (c : AccessClass) : c.offset = 0 ∨ c.offset = 25 ∨ c.offset = 50 := by
  cases c <;> simp [AccessClass.offset]

/-- Settles O33, by the rotation's place among the addresses. -/
theorem accessWaitLengths : Obligations.AccessWaitLengths := by
  intro a b l c ha hb _
  obtain ⟨hra, hwa⟩ := rotation_spec (l := l) ha
  obtain ⟨hrb, hwb⟩ := rotation_spec (l := l) hb
  have hoffset := offset_cases c
  unfold waitTime
  refine ⟨⟨rotation a l, hra, hwa, rfl⟩, by omega, by omega, fun hne => ?_, rfl, rfl, rfl⟩
  have hrotation : rotation a l ≠ rotation b l := fun h => hne (by rw [← hwa, ← hwb, h])
  omega

/-! ### The monitors' state machine -/

/-- Settles O10: the transition table, class by class. -/
theorem monitorStateMachineByTable : Obligations.MonitorStateMachineByTable :=
  fun _ _ _ => ⟨rfl, rfl, rfl, rfl, rfl, rfl, rfl, rfl, rfl, rfl, rfl, rfl, rfl⟩

end Sys2Proof.Machine

/-! Sweeps and plan points: a sweep's start, the sample set, the plan on what the blocks hold (R76 to R84, R112 to R123). -/

namespace Sys2Proof.Machine

section
variable {s t : State}

/-! ### Sweeps -/

theorem bleedOutput_of_suspended (h : s.plan.suspended = true) (c : Nat) : s.bleedOutput c = false := by
  simp [State.bleedOutput, h]

theorem bleedOutput_iff (c : Nat) : s.bleedOutput c = true ↔ c ∈ s.plan.bleedSet ∧ s.plan.suspended = false := by
  simp [State.bleedOutput]

/-- The state in which the sweep timer's expiry leaves the blocks (R76, R77). -/
theorem expireSweepTimer_of_running (h : s.sweep.timer.isRunning = true) :
    expireSweepTimer s =
      (s.setSweep { s.sweep with timer := Timer.startMs s.sweepInterval, inProgress := true }).setPlan
        { s.plan with suspended := true } := by
  unfold expireSweepTimer
  rw [if_pos h]
  rfl

/-- A reading limited to a range (R80 to R82). -/
theorem limited_eq {lo hi v : Int} (h : lo ≤ hi) : limited lo hi v = max lo (min hi v) := by
  unfold limited
  split <;> [skip; split] <;> omega

theorem thermistor_eq (v : Option Int) : thermistor v = v.bind fun x => if -400 ≤ x ∧ x ≤ 1250 then some x else none := by
  cases v <;> rfl

theorem sampleSetOf_cell (r : Readings) (now : ClockTime) {c : Nat} (h1 : 1 ≤ c) (h10 : c ≤ 10) :
    (sampleSetOf r now).cell c = cellOf r c := by
  interval_cases c <;> rfl

theorem sampleSetOf_isOpen (r : Readings) (now : ClockTime) {k : Nat} (h : k ≤ 10) :
    (sampleSetOf r now).isOpen k = tapFound r k := by
  interval_cases k <;> rfl

theorem cellOf_eq (r : Readings) (c : Nat) :
    cellOf r c = if (r.tapOpen[c - 1]?).getD false = true ∨ (r.tapOpen[c]?).getD false = true then none
      else some (max 0 (min 5000 ((r.cells[c - 1]?).getD 0))).toNat := by
  unfold cellOf tapFound
  rw [limited_eq (by decide)]
  simp only [Bool.or_eq_true]

/-- A sweep's completion past START: the monitors and then the planner take the new sample set (R83, R84). -/
def sweptState (r : Readings) (s : State) : State := evaluateMonitors (sampleSetOf r s.now) (takeReadings r s)

theorem deliverSweep_takeReadings (r : Readings) (s : State) :
    deliverSweep (takeReadings r s) = sweepPlanPoint (sweptState r s) := rfl

theorem completeSweep_past_start (r : Readings) (hsweep : s.sweep.inProgress = true) (hmode : s.ballot.mode ≠ .start) :
    completeSweep r s = sweepPlanPoint (sweptState r s) := by
  have hmode' : (takeReadings r s).ballot.mode ≠ .start := hmode
  unfold completeSweep
  rw [if_pos hsweep]
  exact if_neg hmode'

@[simp] theorem takeReadings_cfg (r : Readings) (s : State) : (takeReadings r s).cfg = s.cfg := rfl

/-! ### Plan points -/

/-- The plan depends on roster entries, configuration, mode, latest sample set, monitors and the plan record alone (R114 to R120). -/
theorem planned_congr (hroster : t.roster.entries = s.roster.entries) (hconfig : t.startup.config = s.startup.config)
    (hmode : t.ballot.mode = s.ballot.mode) (hsweep : t.sweep.latest = s.sweep.latest)
    (hmonitors : t.monitors.records = s.monitors.records) (hplan : t.plan = s.plan) : t.planned = s.planned := by
  have hcfg : t.cfg = s.cfg := by unfold State.cfg; rw [hconfig]
  have hmember : ∀ a, t.isMember a = s.isMember a := fun a => by unfold State.isMember State.size; rw [hcfg]
  have hfloor : t.floor = s.floor := by unfold State.floor State.floorTerm; simp only [hroster, hmember]
  have htotal : t.totalDemand = s.totalDemand := by unfold State.totalDemand State.demandTerm; simp only [hroster, hmember]
  have hdisallowed : t.disallowed s.floor = s.disallowed s.floor := by
    unfold State.disallowed State.dieTooHot State.hotNotClear
    rw [hmode, hplan, hcfg, hsweep, hmonitors]
  have hcandidates : ∀ f, t.candidates f = s.candidates f := fun f => by
    unfold State.candidates State.fittedCells State.fitted
    rw [hcfg, hsweep]
  unfold State.planned
  dsimp only
  rw [hfloor, htotal, hdisallowed, hcfg, hplan]
  simp only [hcandidates]

theorem sweepPlanPoint_plan_congr (hroster : t.roster.entries = s.roster.entries) (hconfig : t.startup.config = s.startup.config)
    (hmode : t.ballot.mode = s.ballot.mode) (hsweep : t.sweep.latest = s.sweep.latest)
    (hmonitors : t.monitors.records = s.monitors.records) (hplan : t.plan = s.plan) :
    (sweepPlanPoint t).plan = (sweepPlanPoint s).plan := by
  show { t.planned with suspended := false } = { s.planned with suspended := false }
  rw [planned_congr hroster hconfig hmode hsweep hmonitors hplan]

theorem floor_none_iff : s.floor = none ↔ ∀ e ∈ s.roster.entries, s.floorTerm e = none := by
  have h := (foldl_optMin s.floorTerm s.roster.entries none).1
  simpa [State.floor] using h

theorem floor_some_iff (f : Nat) : s.floor = some f ↔
    (∃ e ∈ s.roster.entries, s.floorTerm e = some f) ∧ ∀ e ∈ s.roster.entries, ∀ v, s.floorTerm e = some v → f ≤ v := by
  have h := (foldl_optMin s.floorTerm s.roster.entries none).2 f
  simpa [State.floor] using h

/-- What a member's entry adds to the total demand (R21). -/
theorem demandTerm_of_member {e : RosterEntry} (h : s.isMember e.address = true) :
    s.demandTerm e =
      if e.state = .present ∨ e.state = .stale then (e.summary.map fun t => t.advertisedDemand).getD 5 else 5 := by
  unfold State.demandTerm
  rw [if_pos h]
  simp only [← RosterEntry.heard_iff]
  cases e.heard <;> cases e.summary <;> rfl

theorem foldl_add_eq {α : Type} (g : α → Nat) (l : List α) (a : Nat) :
    l.foldl (fun acc x => acc + g x) a = a + (l.map g).sum := by
  induction l generalizing a with
  | nil => rfl
  | cons x l ih => rw [List.foldl_cons, ih, List.map_cons, List.sum_cons, Nat.add_assoc]

theorem totalDemand_eq : s.totalDemand =
    ((s.roster.entries.filter fun e => decide (1 ≤ e.address ∧ e.address ≤ s.cfg.shared.size)).map fun e =>
      if e.state = .present ∨ e.state = .stale then (e.summary.map fun t => t.advertisedDemand).getD 5 else 5).sum := by
  unfold State.totalDemand
  rw [foldl_add_eq, Nat.zero_add]
  induction s.roster.entries with
  | nil => rfl
  | cons e l ih =>
    rw [List.map_cons, List.sum_cons, ih]
    by_cases hm : s.isMember e.address = true
    · rw [List.filter_cons_of_pos (by simpa using s.isMember_iff e.address |>.1 hm), List.map_cons, List.sum_cons,
        demandTerm_of_member hm]
    · rw [List.filter_cons_of_neg (by simpa using mt (s.isMember_iff e.address).2 hm)]
      simp [State.demandTerm, hm]

theorem hotNotClear_iff : s.hotNotClear = true ↔ ∃ m ∈ s.monitors.records, m.kind = .hot ∧ m.state ≠ .clear := by
  simp [State.hotNotClear]

/-- The first condition that disallows bleeding (R114). -/
theorem disallowed_of_mode (f : Option Nat) (h : s.ballot.mode = .start ∨ s.ballot.mode = .join) :
    s.disallowed f = some .mode := if_pos h

theorem disallowed_past_join (f : Option Nat) (hstart : s.ballot.mode ≠ .start) (hjoin : s.ballot.mode ≠ .join) :
    s.disallowed f =
      if s.plan.paused then some .paused
      else if s.cfg.shared.budget = 0 then some .noBudget
      else if s.dieTooHot then some .die
      else if s.hotNotClear then some .hot
      else if f.isNone then some .noFloor
      else none := if_neg (by tauto)

theorem dieTooHot_iff {x : SampleSet} (h : s.sweep.latest = some x) :
    s.dieTooHot = true ↔ s.cfg.limits.dieLimit ≤ x.die := by
  simp [State.dieTooHot, h]

theorem planned_reason : s.planned.reason = s.disallowed s.floor := rfl
theorem planned_allowed : s.planned.allowed = s.planned.reason.isNone := rfl

theorem planned_grant : s.planned.grant = grantFor s.planned.allowed s.plan.advertised s.totalDemand s.cfg.shared.budget := rfl

theorem planned_selection_of_allowed {x : SampleSet} {f : Nat} (hallowed : s.planned.allowed = true)
    (hlatest : s.sweep.latest = some x) (hfloor : s.floor = some f) :
    s.planned.selection = selectCells (s.fittedCells.filterMap fun c => (x.cell c).bind fun v =>
      if f + s.cfg.shared.margin < v ∧ s.cfg.cells.bleedFloor < v then some (c, v) else none) := by
  have hreason : s.disallowed s.floor = none := Option.isNone_iff_eq_none.1 hallowed
  have hcandidates : s.candidates (f + s.cfg.shared.margin) = s.fittedCells.filterMap fun c => (x.cell c).bind fun v =>
      if f + s.cfg.shared.margin < v ∧ s.cfg.cells.bleedFloor < v then some (c, v) else none := by
    unfold State.candidates
    rw [hlatest]
    refine List.filterMap_congr fun c _ => ?_
    cases x.cell c <;> rfl
  rw [← hcandidates]
  show (match s.disallowed s.floor, s.floor.map (fun f => f + s.cfg.shared.margin) with
    | none, some t => selectCells (s.candidates t)
    | _, _ => []) = _
  rw [hreason, hfloor]
  rfl

end

/-- Settles O7: the expiry changes the sweep unit and the suspension alone. -/
theorem sweepTimerExpiryBeginsSweep : Obligations.SweepTimerExpiryBeginsSweep := by
  intro s hrunning
  refine ⟨_, event_eq_next expireSweepTimer s, ?_⟩
  rw [expireSweepTimer_of_running hrunning]
  refine ⟨?_, by simp, bleedOutput_of_suspended (by simp), by simp, by simp, by simp, by simp, by simp, by simp, by simp,
    by simp, by simp, by simp⟩
  simp only [endEvent_sweep, State.setPlan_sweep, State.setSweep_sweep]
  unfold State.sweepInterval
  cases s.startup.config <;> rfl

/-- Settles O8: the readings are taken whole, and monitors and planner keep the sweep unit. -/
theorem sweepCompletionFormsSampleSet : Obligations.SweepCompletionFormsSampleSet := by
  intro r s hsweep hmode
  refine ⟨_, event_eq_next (completeSweep r) s, ?_⟩
  rw [completeSweep_past_start r hsweep hmode]
  refine ⟨by simp [sweptState, takeReadings], by simp [sweptState, takeReadings], sampleSetOf r s.now,
    by simp [sweptState, takeReadings], by simp [sweepPlanPoint], by simp [sweptState, evaluateMonitors, sampleSetOf], rfl,
    fun c h1 h10 => by rw [sampleSetOf_cell r _ h1 h10, cellOf_eq], fun k hk => sampleSetOf_isOpen r _ hk,
    congrArg Int.toNat (limited_eq (by decide)), thermistor_eq r.t1, thermistor_eq r.t2, limited_eq (by decide),
    by simp [sweptState], by simp [sweptState], by simp [sweptState], ?_⟩
  simp [sweepPlanPoint, State.planned, sweptState]

/-- Settles O12: a completion's plan is that of the state it leaves; the view's quantities and the plan's fields one by one. -/
theorem planPointRecomputes : Obligations.PlanPointRecomputes := by
  refine ⟨fun r s hsweep hmode => ⟨_, event_eq_next (completeSweep r) s, ?_⟩, fun s => ?view, fun s => ?fields⟩
  · rw [completeSweep_past_start r hsweep hmode, endEvent_plan]
    refine sweepPlanPoint_plan_congr ?_ ?_ ?_ ?_ ?_ ?_ <;> simp [sweptState]
  case view =>
    refine ⟨fun f => ?_, ?_, totalDemand_eq, hotNotClear_iff, bleedOutput_iff⟩
    · simp only [floor_some_iff, State.floorTerm_iff]
    · rw [floor_none_iff]
      simp only [← State.floorTerm_iff]
      exact forall₂_congr fun e _ => Option.eq_none_iff_forall_ne_some
  case fields =>
    intro p
    have hallowed : p.allowed = true ↔ p.reason = none := Option.isNone_iff_eq_none
    have hlegal := planned_legal s
    obtain ⟨hdemand, hbleed, -, hempty, -, hgrant, -⟩ := hlegal
    refine ⟨rfl, rfl, rfl, rfl, rfl, rfl, hallowed, fun h => disallowed_of_mode _ h, fun hstart hjoin => ?_, fun h => ?_, hdemand,
      hbleed, fun ha htotal => ?_, fun ha htotal => ?_, hgrant, fun x f ha hlatest hfloor => planned_selection_of_allowed ha hlatest hfloor⟩
    · have hreason : p.reason = _ := disallowed_past_join s.floor hstart hjoin
      refine ⟨fun hpaused => by rw [hreason, if_pos hpaused], fun hpaused => ⟨fun hbudget => ?_, fun hbudget x hx => ?_⟩⟩
      · rw [hreason, if_neg (by simp [hpaused]), if_pos hbudget]
      · have hdie := dieTooHot_iff hx
        rw [hreason, if_neg (by simp [hpaused]), if_neg hbudget]
        refine ⟨fun h => if_pos (hdie.2 h), fun h hh => ?_, fun h hh hf => ?_, fun h hh hf => ?_⟩
        · rw [if_neg (mt hdie.1 (not_le.2 h)), if_pos hh]
        · rw [if_neg (mt hdie.1 (not_le.2 h)), if_neg (by simp [hh]), hf]
          rfl
        · rw [if_neg (mt hdie.1 (not_le.2 h)), if_neg (by simp [hh]), if_neg (by simpa using hf)]
    · obtain ⟨hselection, hg⟩ := hempty h
      refine ⟨hselection, hg, ?_⟩
      rw [show p.bleedSet = p.selection.take p.grant from hbleed, show p.selection = [] from hselection]
      exact List.take_nil
    · show grantFor s.planned.allowed _ _ _ = _
      rw [show s.planned.allowed = true from ha, grantFor, if_neg (by decide)]
      split
      · next h0 => exact h0.symm
      · exact if_pos htotal
    · show grantFor s.planned.allowed _ _ _ = _
      rw [show s.planned.allowed = true from ha, grantFor, if_neg (by decide)]
      split
      · next h0 => rw [h0, Nat.zero_mul, Nat.zero_div]
      · exact if_neg (not_le.2 htotal)

end Sys2Proof.Machine

/-! Raising and lifting own holds: the serial allocator, the notices, the records (R27, R29, R33 to R36). -/

namespace Sys2Proof.Machine

section
variable {s t : State}

/-! ### The serial allocator -/

/-- The allocator passes over used serials, and stops at one that is not used or after the count given. -/
theorem firstFree_spec (used : List Byte) (n : Nat) (c : Byte) :
    ∃ k ≤ n, firstFree used n c = c + BitVec.ofNat 8 k ∧ (∀ j < k, c + BitVec.ofNat 8 j ∈ used) ∧
      (k < n → firstFree used n c ∉ used) := by
  induction n generalizing c with
  | zero => exact ⟨0, le_rfl, by simp [firstFree], nofun, nofun⟩
  | succ n ih =>
    by_cases hc : c ∈ used
    · obtain ⟨k, hk, heq, hused, hfree⟩ := ih (c + 1)
      have hnext : firstFree used (n + 1) c = firstFree used n (c + 1) := by simp [firstFree, hc]
      have hshift : ∀ j, c + 1 + BitVec.ofNat 8 j = c + BitVec.ofNat 8 (j + 1) := fun j => by
        rw [BitVec.ofNat_add, BitVec.add_assoc, BitVec.add_comm 1]
        rfl
      rw [hnext]
      refine ⟨k + 1, by omega, by rw [heq, hshift], fun j hj => ?_, fun h => hfree (by omega)⟩
      cases j with
      | zero => simpa using hc
      | succ j => rw [← hshift]; exact hused j (by omega)
    · exact ⟨0, by omega, by simp [firstFree, hc], nofun, fun _ => by simp [firstFree, hc]⟩

/-- Fewer than 256 serials in use leave one free. -/
theorem firstFree_not_mem {used : List Byte} (h : used.length < 256) (c : Byte) : firstFree used 256 c ∉ used := by
  obtain ⟨k, hk, -, hused, hfree⟩ := firstFree_spec used 256 c
  rcases Nat.lt_or_eq_of_le hk with hlt | rfl
  · exact hfree hlt
  · have hnodup : ((List.range 256).map fun j => c + BitVec.ofNat 8 j).Nodup := by
      refine List.nodup_range.map_on fun i hi j hj heq => ?_
      have hij := congrArg BitVec.toNat (BitVec.add_right_inj c |>.1 heq)
      rw [List.mem_range] at hi hj
      simpa [Nat.mod_eq_of_lt hi, Nat.mod_eq_of_lt hj] using hij
    have hsub : ((List.range 256).map fun j => c + BitVec.ofNat 8 j) ⊆ used := fun x hx => by
      obtain ⟨j, hj, rfl⟩ := List.mem_map.1 hx
      exact hused j (List.mem_range.1 hj)
    have hlength := (List.subperm_of_subset hnodup hsub).length_le
    rw [List.length_map, List.length_range] at hlength
    omega

theorem usedSerials_length_le (h : HoldUnit) : h.usedSerials.length ≤ h.own.length + h.notices.length := by
  have hfilter := List.length_filter_le (fun n : Notice => decide (n.kind = .lift)) h.notices
  simp only [HoldUnit.usedSerials, List.length_append, List.length_map]
  omega

theorem allocate_not_used {h : HoldUnit} (hroom : h.own.length + h.notices.length < 256) : h.allocate ∉ h.usedSerials :=
  firstFree_not_mem (lt_of_le_of_lt (usedSerials_length_le h) hroom) _

/-- Every serial from the next one up to the one allocated is used (R27). -/
theorem skipped_serials_used (h : HoldUnit) {k : Byte} (hk : k.toNat < (h.allocate - h.nextSerial).toNat) :
    h.nextSerial + k ∈ h.usedSerials := by
  obtain ⟨n, -, heq, hused, -⟩ := firstFree_spec h.usedSerials 256 h.nextSerial
  have hdist : h.allocate - h.nextSerial = BitVec.ofNat 8 n := by
    show firstFree h.usedSerials 256 h.nextSerial - h.nextSerial = _
    rw [heq, BitVec.add_comm, BitVec.add_sub_cancel]
  rw [hdist, BitVec.toNat_ofNat] at hk
  have hlt := hused k.toNat (lt_of_lt_of_le hk (Nat.mod_le _ _))
  rwa [BitVec.ofNat_toNat, BitVec.setWidth_eq] at hlt

/-! ### Notices -/

theorem appendNotice_of_silent (kind : NoticeKind) (serial : Byte) (replay : Bool)
    (h : s.ballot.mode = .start ∨ s.link.mute = true) : appendNotice kind serial replay s = s := by
  refine if_neg fun htakes => ?_
  obtain ⟨hmode, hmute⟩ := takesNotices_iff.1 htakes
  rcases h with h | h
  · exact hmode h
  · cases hmute.symm.trans h

/-- A notice goes to the tail of the list, which makes room for it (R29). -/
theorem appendNotice_notices (kind : NoticeKind) (serial : Byte) (replay : Bool) (hmode : s.ballot.mode ≠ .start)
    (hmute : s.link.mute = false) :
    (appendNotice kind serial replay s).holds.notices = s.roomyNotices ++ [⟨s.link.nextItem, kind, serial, replay⟩] := by
  unfold appendNotice
  rw [if_pos (takesNotices_iff.2 ⟨hmode, hmute⟩), settleWait_holds]
  rfl

theorem onLine_congr {l m : LinkController} (hsending : m.sending = l.sending) (i : Item) : m.onLine i = l.onLine i := by
  unfold LinkController.onLine
  rw [hsending]

theorem roomyNotices_congr (hnotices : t.holds.notices = s.holds.notices) (hsending : t.link.sending = s.link.sending) :
    t.roomyNotices = s.roomyNotices := by
  unfold State.roomyNotices
  simp only [hnotices, onLine_congr hsending]

theorem holdNotice_congr (hnotices : t.holds.notices = s.holds.notices) (hsending : t.link.sending = s.link.sending) (serial : Byte) :
    t.holdNotice serial = s.holdNotice serial := by
  unfold State.holdNotice
  simp only [hnotices, onLine_congr hsending]

/-! ### The record of a key -/

theorem ownHold_congr (h : t.holds.own = s.holds.own) (c : Cause) (i : Option Nat) : t.ownHold c i = s.ownHold c i := by
  unfold State.ownHold
  rw [h]

theorem ownHold_spec {c : Cause} {i : Option Nat} {x : OwnHold} (h : s.ownHold c i = some x) :
    x ∈ s.holds.own ∧ x.cause = c ∧ x.index = i := by
  have hkey : decide (x.cause = c ∧ x.index = i) = true := List.find?_some (p := fun y : OwnHold => decide (y.cause = c ∧ y.index = i)) h
  obtain ⟨hcause, hindex⟩ := of_decide_eq_true hkey
  exact ⟨List.mem_of_find?_eq_some h, hcause, hindex⟩

/-- A changed detail leaves every record under its key. -/
theorem changeDetail_ownHold (c : Cause) (i : Option Nat) (d : Option Detail) (s : State) (e : Cause) (j : Option Nat) :
    (changeDetail c i d s).ownHold e j =
      (s.ownHold e j).map fun h => if h.cause = c ∧ h.index = i then { h with detail := d } else h := by
  unfold State.ownHold
  rw [changeDetail_own, List.find?_map]
  congr 2
  funext h
  simp only [Function.comp_apply]
  split <;> rfl

/-- The state in which a raise of a new key reports to the ballot unit (R33 steps 1 and 2). -/
theorem addOwn_frame (c : Cause) (i : Option Nat) (d : Option Detail) (s : State) :
    (addOwn c i d s).holds.notices = s.holds.notices ∧ (addOwn c i d s).holds.nextSerial = s.holds.allocate + 1 ∧
      (addOwn c i d s).link = s.link ∧ (addOwn c i d s).ballot.mode = s.ballot.mode := by
  refine ⟨?_, ?_, by simp, by simp [addOwn]⟩ <;> (unfold addOwn State.changeHolds; rw [settleReadiness_holds]; rfl)

end

/-- Settles O21, by the three cases of a raise. -/
theorem raiseRequest : Obligations.RaiseRequest := by
  intro c i d s kept
  refine ⟨fun hnew => ?_, fun h hh hd => by rw [← hd]; exact raiseHold_of_same hh, fun h hh hne => ?_⟩
  · obtain ⟨hnotices, hserial, hlink, hmode⟩ := addOwn_frame c i d s
    have hroomy : (addOwn c i d s).roomyNotices = kept := roomyNotices_congr hnotices (congrArg LinkController.sending hlink)
    refine ⟨raiseHold_own_of_new d hnew, ?_⟩
    rw [raiseHold_of_new d hnew]
    refine ⟨?_, fun hroom => ?_, leave_not_pledged _, leave_not_closed _, fun hsilent => ?_, fun hstart hmute => ?_⟩
    · rw [leave_holds, appendNotice_holds_nextSerial, hserial]
    · have hfree := allocate_not_used hroom
      refine ⟨fun x hx heq => hfree ?_, fun n hn hkind heq => hfree ?_, fun k hk => skipped_serials_used _ hk⟩
      · rw [← heq]
        exact List.mem_append_left _ (List.mem_map_of_mem hx)
      · rw [← heq]
        exact List.mem_append_right _ (List.mem_map_of_mem (List.mem_filter.2 ⟨hn, decide_eq_true hkind⟩))
    · rw [leave_holds, appendNotice_of_silent _ _ _ (by rwa [hmode, hlink]), hnotices]
    · rw [leave_holds, appendNotice_notices _ _ _ (by rwa [hmode]) (by rwa [hlink]), hroomy, hlink]
  · obtain ⟨-, hcause, hindex⟩ := ownHold_spec hh
    have hown := raiseHold_own_of_standing d hh hne
    have hfound : ∀ e j, (raiseHold c i d s).ownHold e j = (changeDetail c i d s).ownHold e j :=
      ownHold_congr (hown.trans (changeDetail_own c i d s).symm)
    have hothers : ∀ e j, (e, j) ≠ (c, i) → (raiseHold c i d s).ownHold e j = s.ownHold e j := by
      intro e j hkey
      rw [hfound, changeDetail_ownHold]
      cases hx : s.ownHold e j with
      | none => rfl
      | some x =>
        obtain ⟨-, hxc, hxi⟩ := ownHold_spec hx
        rw [Option.map_some, if_neg]
        rintro ⟨rfl, rfl⟩
        exact hkey (by rw [hxc, hxi])
    have hself : ∃ g, (raiseHold c i d s).ownHold c i = some g ∧ g.detail = d ∧ g.serial = h.serial ∧ g.raised = h.raised := by
      refine ⟨{ h with detail := d }, ?_, rfl, rfl, rfl⟩
      rw [hfound, changeDetail_ownHold, hh, Option.map_some, if_pos ⟨hcause, hindex⟩]
    have hkeys : (raiseHold c i d s).holds.own.map OwnHold.key = s.holds.own.map OwnHold.key := by
      rw [hown, map_key_changeDetail]
    rw [raiseHold_of_other hh hne] at hothers hself hkeys ⊢
    cases hn : s.holdNotice h.serial with
    | some n =>
      rw [hn] at hothers hself hkeys
      exact ⟨rfl, hkeys, rfl, hothers, fun _ => rfl, nofun, hself⟩
    | none =>
      rw [hn] at hothers hself hkeys
      refine ⟨appendNotice_ballot _ _ _ _, hkeys, appendNotice_holds_nextSerial _ _ _ _, hothers, fun hor => ?_,
        fun _ hmode hmute => appendNotice_notices (s := changeDetail c i d s) _ _ _ hmode hmute, hself⟩
      dsimp only
      rw [appendNotice_of_silent]
      · rfl
      · exact hor.elim (fun h => absurd rfl h) id

/-- Settles O22, by the four cases of a lift's notice. -/
theorem liftRequest : Obligations.LiftRequest := by
  intro c i s
  refine ⟨fun hnone => by unfold liftHold; rw [hnone], fun h hh => ?_⟩
  intro t kept lifted
  obtain ⟨u, hu⟩ : ∃ u, u = s.changeHolds { s.holds with own := s.holds.own.filter fun x => decide (¬(x.cause = c ∧ x.index = i)) } :=
    ⟨_, rfl⟩
  have ht : t = liftNotices h.serial u := by
    show liftHold c i s = _
    unfold liftHold
    rw [hh, hu]
  have hlink : u.link = s.link := by rw [hu]; simp
  have hmode : u.ballot.mode = s.ballot.mode := by rw [hu]; simp
  have hnotices : u.holds.notices = s.holds.notices := by rw [hu, State.changeHolds, settleReadiness_holds]; rfl
  have hlifted : ∀ v : State, v.link = s.link → v.ballot.mode = s.ballot.mode → t = appendNotice .lift h.serial false v →
      lifted v.holds.notices := by
    intro v hvlink hvmode htv
    refine ⟨fun hsilent => ?_, fun hstart hmute => ?_⟩
    · rw [htv, appendNotice_of_silent _ _ _ (by rwa [hvlink, hvmode])]
    · rw [htv, appendNotice_notices _ _ _ (by rwa [hvmode]) (by rwa [hvlink]), State.roomyNotices, hvlink]
      rfl
  refine ⟨liftHold_own c i s, ?_, fun hnone => ?_, fun x hx => ⟨fun honline => ?_, fun hoff hreplay => ?_, fun hoff hreplay => ?_⟩⟩
  · rw [ht, liftNotices_ballot, hu]
    exact settleReadiness_ballot _ _
  · rw [← hnotices]
    refine hlifted u hlink hmode ?_
    rw [ht]
    unfold liftNotices
    rw [holdNotice_congr hnotices (congrArg LinkController.sending hlink), hnone]
  · rw [← hnotices]
    refine hlifted u hlink hmode ?_
    rw [ht]
    unfold liftNotices
    rw [holdNotice_congr hnotices (congrArg LinkController.sending hlink), hx, hlink]
    exact if_pos honline
  · rw [ht]
    unfold liftNotices
    rw [holdNotice_congr hnotices (congrArg LinkController.sending hlink), hx, hlink]
    simp only [hoff, hreplay, Bool.false_eq_true, if_false]
    show u.holds.notices.filter _ = _
    rw [hnotices]
  · rw [← hnotices]
    refine hlifted (removeNotice x.item u) hlink hmode ?_
    rw [ht]
    unfold liftNotices
    rw [holdNotice_congr hnotices (congrArg LinkController.sending hlink), hx, hlink]
    simp only [hoff, hreplay, Bool.false_eq_true, if_false, if_true]

end Sys2Proof.Machine

/-! Room in the transmit queue (R52, R183): how many frames an operation can add. A proposer owes the WITHDRAW that it claims in leaving
its ballot, so that the frame is counted before it is claimed. -/

namespace Sys2Proof.Machine

/-- The frames that leaving the ballot would claim. -/
def State.owed (s : State) : Nat := if s.ballot.mode = .pledged ∧ s.ballot.role = .proposer then 1 else 0

/-- The queue takes k frames more, beside the WITHDRAW that is owed. -/
def Roomy (k : Nat) (s : State) : Prop := s.link.mute = false ∧ s.link.queue.length + s.owed + k ≤ 8

/-- From s to t at most k frames have been queued, and none has been lost where there was room for them. -/
structure Fills (k : Nat) (s t : State) : Prop where
  fits : ∀ n, Roomy (n + k) s → Roomy n t ∧ ∀ q ∈ s.link.queue, q ∈ t.link.queue

section
variable {s t u : State} {k l : Nat}

theorem owed_le_one (s : State) : s.owed ≤ 1 := by
  unfold State.owed
  split <;> omega

theorem HasRoom.roomy (h : HasRoom s) : Roomy 2 s := by
  obtain ⟨hmute, hroom⟩ := h
  have hcap : s.link.queue.length + 3 ≤ 8 := hroom
  have := owed_le_one s
  exact ⟨hmute, by omega⟩

theorem Roomy.mono (h : Roomy k s) (hlk : l ≤ k) : Roomy l s := ⟨h.1, by have := h.2; omega⟩

theorem Roomy.length_lt (h : Roomy (k + 1) s) : s.link.queue.length < 8 := by
  have := h.2
  omega

theorem Fills.refl (s : State) : Fills 0 s s := ⟨fun _ h => ⟨h, fun _ hq => hq⟩⟩

theorem Fills.trans (h : Fills k s t) (h' : Fills l t u) : Fills (k + l) s u := by
  refine ⟨fun n hn => ?_⟩
  obtain ⟨ht, hkept⟩ := h.fits (n + l) (by rw [Nat.add_assoc, Nat.add_comm l k]; exact hn)
  obtain ⟨hu, hkept'⟩ := h'.fits n ht
  exact ⟨hu, fun q hq => hkept' q (hkept q hq)⟩

theorem Fills.then_none (h : Fills k s t) (h' : Fills 0 t u) : Fills k s u := h.trans h'

theorem Fills.after_none (h : Fills 0 s t) (h' : Fills k t u) : Fills k s u := by
  have hboth := h.trans h'
  rwa [Nat.zero_add] at hboth

theorem Fills.mono (h : Fills k s t) (hkl : k ≤ l) : Fills l s t :=
  ⟨fun n hn => h.fits n (hn.mono (Nat.add_le_add_left hkl n))⟩

theorem Fills.roomy (h : Fills k s t) (hs : Roomy (l + k) s) : Roomy l t := (h.fits l hs).1

/-- What is queued stays queued. -/
theorem Fills.queued {x : Claim} (h : Fills k s t) (hs : Roomy k s) (hx : Queued s x) : Queued t x := by
  obtain ⟨q, hq, hclaim⟩ := hx
  exact ⟨q, (h.fits 0 (by rwa [Nat.zero_add])).2 q hq, hclaim⟩

theorem Queued.of_link {x : Claim} (h : Queued s x) (hqueue : t.link.queue = s.link.queue) : Queued t x := by
  unfold Queued
  rw [hqueue]
  exact h

/-- A change that leaves the queue alone and makes no proposer. -/
theorem Fills.of_same (hqueue : t.link.queue = s.link.queue) (hmute : t.link.mute = s.link.mute) (howed : t.owed ≤ s.owed) :
    Fills 0 s t := by
  refine ⟨fun n hn => ?_⟩
  obtain ⟨hm, hroom⟩ := hn
  refine ⟨⟨hmute.trans hm, ?_⟩, fun q hq => by rwa [hqueue]⟩
  rw [hqueue]
  omega

theorem owed_congr (hmode : t.ballot.mode = s.ballot.mode) (hrole : t.ballot.role = s.ballot.role) : t.owed = s.owed := by
  unfold State.owed
  rw [hmode, hrole]

theorem owed_of_mode (h : s.ballot.mode ≠ .pledged) : s.owed = 0 := if_neg fun hp => h hp.1
theorem owed_of_role (h : s.ballot.role ≠ .proposer) : s.owed = 0 := if_neg fun hp => h hp.2

/-- A change that leaves the link's queue and the ballot's mode and role alone. -/
theorem Fills.of_blocks (hqueue : t.link.queue = s.link.queue) (hmute : t.link.mute = s.link.mute)
    (hmode : t.ballot.mode = s.ballot.mode) (hrole : t.ballot.role = s.ballot.role) : Fills 0 s t :=
  .of_same hqueue hmute (owed_congr hmode hrole).le

/-! ### Claims -/

theorem mem_placed {q : List QueueEntry} {e x : QueueEntry} : x ∈ placed q e ↔ x = e ∨ x ∈ q := by
  rw [(placed_perm q e).mem_iff, List.mem_cons]

theorem claim_link_queue_of_room {x : Claim} (hmute : s.link.mute = false) (hroom : s.link.queue.length < 8)
    (hnew : x = .tally → ¬Queued s .tally) : (claim x s).link.queue = placed s.link.queue (s.entryFor x) := by
  rw [claim_with_room hmute hroom hnew, settleWait_link_queue]
  rfl

/-- A frame claimed with room is queued, if it was not queued before. -/
theorem claim_queued (x : Claim) (hmute : s.link.mute = false) (hroom : s.link.queue.length < 8) : Queued (claim x s) x := by
  by_cases hx : x = .tally ∧ Queued s .tally
  · obtain ⟨rfl, hq⟩ := hx
    rwa [claim_tally_of_queued hq]
  · rw [Queued, claim_link_queue_of_room hmute hroom fun h hq => hx ⟨h, hq⟩]
    exact ⟨s.entryFor x, mem_placed.2 (.inl rfl), rfl⟩

theorem Roomy.claim_queued (x : Claim) (h : Roomy (k + 1) s) : Queued (claim x s) x :=
  Machine.claim_queued x h.1 h.length_lt

theorem claim_fills (x : Claim) (s : State) : Fills 1 s (claim x s) := by
  refine ⟨fun n hn => ?_⟩
  have howed : (claim x s).owed = s.owed := owed_congr (by simp) (by simp)
  by_cases hx : x = .tally ∧ Queued s .tally
  · obtain ⟨rfl, hq⟩ := hx
    rw [claim_tally_of_queued hq]
    exact ⟨hn.mono (Nat.le_add_right _ _), fun _ h => h⟩
  · have hqueue := claim_link_queue_of_room hn.1 hn.length_lt (x := x) fun h hq => hx ⟨h, hq⟩
    refine ⟨⟨by rw [claim_link_mute]; exact hn.1, ?_⟩, fun q hq => ?_⟩
    · have hlength := (placed_perm s.link.queue (s.entryFor x)).length_eq
      rw [List.length_cons] at hlength
      have := hn.2
      rw [hqueue, howed, hlength]
      omega
    · rw [hqueue]
      exact mem_placed.2 (.inr hq)

/-! ### Modes and holds -/

theorem setMode_fills {m : Mode} (hm : m ≠ .pledged) (s : State) : Fills 0 s (setMode m s) :=
  .of_same (by simp) (by simp) (by rw [owed_of_mode (by rwa [setMode_mode])]; exact Nat.zero_le _)

/-- Leaving claims the frame that was owed. -/
theorem leave_fills (s : State) : Fills 0 s (leave s) := by
  by_cases hp : s.isParty
  · have howed : (leave s).owed = 0 := owed_of_mode (by rw [leave_mode_of_party hp]; decide)
    have hlink : (leave s).link = (withdrawClaim s).link := by rw [leave_of_party hp]; simp
    by_cases hproposer : s.ballot.mode = .pledged ∧ s.ballot.role = .proposer
    · refine ⟨fun n hn => ?_⟩
      have hone : s.owed = 1 := if_pos hproposer
      have hclaimed : Fills 1 s (withdrawClaim s) := by
        unfold withdrawClaim
        split
        · exact claim_fills _ s
        · exact (Fills.refl s).mono (Nat.zero_le 1)
      have hballot : (withdrawClaim s).owed = 1 := by
        rw [owed_congr (s := s) (by simp) (by simp)]
        exact hone
      have hroom : s.link.queue.length + 1 + n ≤ 8 := by have := hn.2; omega
      have hclaimedLength : (withdrawClaim s).link.queue.length ≤ s.link.queue.length + 1 ∧
          ∀ q ∈ s.link.queue, q ∈ (withdrawClaim s).link.queue := by
        unfold withdrawClaim
        split
        · next b _ _ _ =>
          have hqueue := claim_link_queue_of_room hn.1 (by omega) (x := .withdraw b) nofun
          rw [hqueue, (placed_perm _ _).length_eq, List.length_cons]
          exact ⟨le_rfl, fun q hq => mem_placed.2 (.inr hq)⟩
        · exact ⟨Nat.le_succ _, fun _ hq => hq⟩
      refine ⟨⟨?_, ?_⟩, fun q hq => ?_⟩
      · rw [hlink, withdrawClaim_link_mute]
        exact hn.1
      · rw [hlink, howed]
        omega
      · rw [hlink]
        exact hclaimedLength.2 q hq
    · have hnone : withdrawClaim s = s := by
        unfold withdrawClaim
        split
        · next hm hr _ => exact absurd ⟨hm, hr⟩ hproposer
        · rfl
      rw [hnone] at hlink
      exact .of_same (by rw [hlink]) (by rw [hlink]) (by rw [howed]; exact Nat.zero_le _)
  · rw [leave_of_not_party hp]
    exact .refl s

/-- The WITHDRAW that a proposer owed is queued when it leaves. -/
theorem leave_queued_withdraw {b : Ballot} (hroom : Roomy 0 s) (hmode : s.ballot.mode = .pledged)
    (hrole : s.ballot.role = .proposer) (hcurrent : s.ballot.current = some b) : Queued (leave s) (.withdraw b) := by
  have howed : s.owed = 1 := if_pos ⟨hmode, hrole⟩
  have hlink : (leave s).link = (claim (.withdraw b) s).link := by
    rw [leave_of_party (.inl hmode), setMode_link]
    show (withdrawClaim s).link = _
    unfold withdrawClaim
    rw [hmode, hrole, hcurrent]
  refine (claim_queued (.withdraw b) hroom.1 ?_).of_link (by rw [hlink])
  have := hroom.2
  omega

theorem settleReadiness_fills (before s : State) : Fills 0 s (settleReadiness before s) :=
  .of_blocks (by simp) (by simp) (by simp) (by simp)

theorem raiseHold_fills (cause : Cause) (index : Option Nat) (detail : Option Detail) (s : State) :
    Fills 0 s (raiseHold cause index detail s) := by
  have happend : ∀ v serial replay, Fills 0 v (appendNotice .hold serial replay v) := fun v _ _ =>
    .of_blocks (by simp) (by simp) (by simp) (by simp)
  obtain ⟨-, h⟩ | ⟨x, -, -, h⟩ | ⟨x, -, -, h | h⟩ := raiseHold_cases cause index detail s <;> rw [h]
  · have hadded : Fills 0 s (addOwn cause index detail s) :=
      .of_blocks (by simp) (by simp) (by simp [addOwn]) (by simp [addOwn])
    exact (hadded.then_none (happend _ _ _)).then_none (leave_fills _)
  · exact .refl s
  · exact .of_blocks rfl rfl rfl rfl
  · have hchanged : Fills 0 s (changeDetail cause index detail s) := .of_blocks rfl rfl rfl rfl
    exact hchanged.then_none (happend _ _ _)

theorem liftHold_fills (cause : Cause) (index : Option Nat) (s : State) : Fills 0 s (liftHold cause index s) :=
  .of_blocks (by simp) (by simp) (by simp) (by simp)

theorem judgeLink_fills (s : State) : Fills 0 s (judgeLink s) := by
  unfold judgeLink
  split
  · split
    · exact liftHold_fills ..
    · exact raiseHold_fills ..
  · exact .refl s

theorem judgeDiscord_fills (s : State) : Fills 0 s (judgeDiscord s) := by
  unfold judgeDiscord
  split
  · exact .refl s
  · split
    · exact raiseHold_fills ..
    · exact liftHold_fills ..

theorem judgeView_fills (s : State) : Fills 0 s (judgeView s) := (judgeLink_fills s).then_none (judgeDiscord_fills _)

theorem endEvent_fills (before s : State) : Fills 0 s (endEvent before s) :=
  .of_blocks (by simp) (by simp) (by simp) (by simp)

/-! ### Hearing -/

theorem updateEntry_fills (a : Nat) (f : RosterEntry → RosterEntry) (s : State) : Fills 0 s (s.updateEntry a f) :=
  .of_blocks (by simp) (by simp) (by simp) (by simp)

theorem purge_fills (a : Nat) (s : State) : Fills 0 s (purge a s) := .of_blocks (by simp) (by simp) (by simp) (by simp)

theorem requestRecall_fills (p : Nat) (s : State) : Fills 1 s (requestRecall p s) := by
  unfold requestRecall
  split
  · exact ((purge_fills p s).then_none (updateEntry_fills ..)).after_none (claim_fills ..)
  · exact (Fills.refl s).mono (Nat.zero_le 1)

theorem hear_fills (a : Nat) (s : State) : Fills 1 s (hear a s) := by
  have hpresent := updateEntry_fills a (fun e => { e with state := .present, age := 0 }) s
  have hkept := hpresent.mono (Nat.zero_le 1)
  unfold hear
  dsimp only
  split
  · split
    · exact hkept
    · exact hpresent.after_none (requestRecall_fills ..)
  · split
    · exact hkept
    · exact hpresent.after_none (requestRecall_fills ..)
  · exact hkept
  · exact hkept

/-- The gateway is asked for no RECALL. -/
theorem hear_gateway (s : State) : hear 0 s = s.updateEntry 0 fun e => { e with state := .present, age := 0 } := by
  unfold hear
  cases (s.entry 0).state <;> rfl

theorem hear_gateway_fills (s : State) : Fills 0 s (hear 0 s) := by
  rw [hear_gateway]
  exact updateEntry_fills ..

theorem lineHeard_fills (a : Nat) (s : State) : Fills 0 s (setLastSender a (lineQuiet s)) :=
  .of_blocks (by simp) (by simp) (by simp) (by simp)

theorem heardState_fills (a : Nat) (s : State) : Fills 1 s (heardState a s) :=
  ((lineHeard_fills a s).after_none (hear_fills ..)).then_none (judgeDiscord_fills _)

theorem heardState_gateway_fills (s : State) : Fills 0 s (heardState 0 s) :=
  ((lineHeard_fills 0 s).then_none (hear_gateway_fills _)).then_none (judgeDiscord_fills _)

/-! ### Owners -/

theorem offer_fills (b : Ballot) (s : State) : Fills 0 s (offer b s) := by
  have hoffered : Fills 0 s (s.changeBallot { s.ballot with highest := b }) :=
    .of_blocks (by simp) (by simp) (by simp) (by simp)
  unfold offer
  split
  · dsimp only
    split
    · exact hoffered.then_none (leave_fills _)
    · exact hoffered
  · exact .refl s

theorem reconcile_fills (p n : Nat) (pending : Bool) (s : State) : Fills 1 s (reconcile p n pending s) := by
  have hnone := (Fills.refl s).mono (Nat.zero_le 1)
  unfold reconcile
  dsimp only
  split
  · exact hnone
  · split
    · exact (purge_fills p s).mono (Nat.zero_le 1)
    · split
      · exact hnone
      · exact requestRecall_fills p s

theorem confirmOffer_fills (a : Nat) (m : Mode) (b : Ballot) (s : State) : Fills 0 s (confirmOffer a m b s) := by
  unfold confirmOffer
  split
  · split
    · exact updateEntry_fills ..
    · exact .refl s
    · exact leave_fills s
  · exact .refl s

theorem storeRemote_fills (r : RemoteHold) (s : State) : Fills 1 s (storeRemote r s) := by
  unfold storeRemote
  split
  · refine Fills.mono ?_ (Nat.zero_le 1)
    exact .of_blocks rfl rfl rfl rfl
  · split
    · exact (Fills.of_blocks (by simp) (by simp) (by simp) (by simp)).mono (Nat.zero_le 1)
    · exact requestRecall_fills ..

theorem enterClosed_fills (s : State) : Fills 0 s (enterClosed s) := by
  by_cases hholds : s.holds.own = [] ∧ s.holds.remote = []
  · rw [enterClosed_of_no_hold hholds.1 hholds.2]
    refine .of_same (by simp [closingState]) (by simp [closingState]) ?_
    rw [owed_of_mode (by rw [setMode_mode]; decide)]
    exact Nat.zero_le _
  · rw [enterClosed_of_hold (by tauto)]
    exact leave_fills s

theorem addVote_fills (a : Nat) (s : State) : Fills 0 s (addVote a s) := by
  unfold addVote
  split
  · exact .of_blocks rfl rfl rfl rfl
  · exact .refl s

theorem claimCommit_fills (b : Ballot) (s : State) : Fills 1 s (claimCommit b s) := by
  unfold claimCommit
  split
  · exact (claim_fills (.commit b) s).then_none (.of_blocks rfl rfl rfl rfl)
  · exact (Fills.refl s).mono (Nat.zero_le 1)

end

end Sys2Proof.Machine

/-! Escalations, and the completions of retained-store writes (R142 to R155). -/

namespace Sys2Proof.Machine

section
variable {s t : State}

/-! ### The hold that a raise leaves -/

/-- After a raise the record of its key has its detail (R33, R34). -/
theorem raiseHold_ownHold_self (c : Cause) (i : Option Nat) (d : Option Detail) (s : State) :
    ∃ h, (raiseHold c i d s).ownHold c i = some h ∧ h.detail = d := by
  cases hx : s.ownHold c i with
  | none =>
    refine ⟨⟨s.holds.allocate, c, i, d, s.now⟩, ?_, rfl⟩
    unfold State.ownHold at hx ⊢
    rw [raiseHold_own_of_new d hx, List.find?_append, hx]
    simp
  | some x =>
    by_cases hd : x.detail = d
    · exact ⟨x, by rw [← hd, raiseHold_of_same hx, hx], hd⟩
    · obtain ⟨-, hcause, hindex⟩ := ownHold_spec hx
      refine ⟨{ x with detail := d }, ?_, rfl⟩
      rw [ownHold_congr ((raiseHold_own_of_standing d hx hd).trans (changeDetail_own c i d s).symm), changeDetail_ownHold, hx,
        Option.map_some, if_pos ⟨hcause, hindex⟩]

/-! ### The newest slot -/

/-- The other slot of a kind. -/
def SlotName.other : SlotName → SlotName
  | .a => .b
  | .b => .a

theorem lockoutTarget_of_newest {c : SlotCopies} {n : SlotName} {x : LockoutSlot} (h : c.newest = some (n, x)) :
    c.lockoutTarget = n.other := by
  unfold SlotCopies.lockoutTarget
  rw [h]
  cases n <;> rfl

theorem storedSerial_of_newest {c : SlotCopies} {n : SlotName} {x : LockoutSlot} (h : c.newest = some (n, x)) :
    c.storedSerial = x.serial := by
  unfold SlotCopies.storedSerial
  rw [h]

theorem exhausted_of_newest {c : SlotCopies} {n : SlotName} {x : LockoutSlot} (h : c.newest = some (n, x)) :
    c.exhausted = true ↔ x.serial = 65535 ∧ x.state = .released := by
  unfold SlotCopies.exhausted
  rw [h]
  simp

/-- The newest record is read off the lockout slots alone. -/
theorem lockoutTarget_setConfig (c : SlotCopies) (n : SlotName) (x : Option ConfigSlot) :
    (c.setConfig n x).lockoutTarget = c.lockoutTarget := by
  cases n <;> rfl

/-! ### The beginning of a lockout -/

@[simp] theorem lockoutRaised_lockout (e : Escalation) (s : State) :
    (lockoutRaised e s).lockout = { s.lockout with record := newLockout e s } := by simp [lockoutRaised]

@[simp] theorem lockoutRaised_store (e : Escalation) (s : State) : (lockoutRaised e s).store = s.store := by
  simp [lockoutRaised]

/-- The write of the lockout that begins, and the unit with it (R145, R147). -/
def LockoutUnit.begun (u : LockoutUnit) (e : Escalation) (n : SlotName) : LockoutUnit :=
  { u with
    record := ⟨.active, u.copies.nextSerial, some e.cause, e.index, false, 1⟩
    inFlight := some (.active n ⟨u.copies.nextSerial, .active, e.cause, e.index⟩)
    copies := u.copies.setLockout n none }

theorem beginLockout_of_exhausted (e : Escalation) (h : s.lockout.copies.exhausted = true) :
    beginLockout e s = lockoutRaised e s := by
  rw [beginLockout_eq, if_pos]
  rwa [lockoutRaised_lockout]

theorem beginLockout_of_idle (e : Escalation) (hfresh : s.lockout.copies.exhausted = false) (hidle : s.lockout.inFlight = none) :
    (beginLockout e s).lockout = s.lockout.begun e s.lockout.copies.lockoutTarget ∧
      (beginLockout e s).store = s.store.setLockout s.lockout.copies.lockoutTarget .torn := by
  rw [beginLockout_eq, if_neg (by simp [hfresh]), if_pos (by simp [hidle])]
  unfold startActive startActiveTo
  rw [lockoutRaised_lockout]
  unfold startWrite
  simp [LockoutRecord.slot, newLockout, LockoutUnit.begun, Write.copied, Write.stored]

theorem beginLockout_of_writing (e : Escalation) (hfresh : s.lockout.copies.exhausted = false) (hwriting : s.lockout.inFlight ≠ none) :
    beginLockout e s = (lockoutRaised e s).setLockout { (lockoutRaised e s).lockout with pendingWrite := true } := by
  have hsome : s.lockout.inFlight.isNone = false := by
    rw [Bool.eq_false_iff]
    exact fun h => hwriting (Option.isNone_iff_eq_none.1 h)
  rw [beginLockout_eq, if_neg (by simp [hfresh]), if_neg (by simp [hsome])]

theorem beginLockout_holds (e : Escalation) (s : State) : (beginLockout e s).holds = (lockoutRaised e s).holds := by
  rw [beginLockout_eq]
  split
  · rfl
  · split <;> simp

/-- However its write goes, the lockout has begun (R145). -/
theorem beginLockout_record (e : Escalation) (s : State) :
    (beginLockout e s).lockout.record.state = .active ∧ (beginLockout e s).lockout.record.cause = some e.cause ∧
      (beginLockout e s).lockout.record.index = e.index ∧ (beginLockout e s).lockout.record.retained = false ∧
      (beginLockout e s).lockout.record.serial = s.lockout.copies.nextSerial := by
  by_cases hfresh : s.lockout.copies.exhausted = true
  · rw [beginLockout_of_exhausted e hfresh, lockoutRaised_lockout]
    exact ⟨rfl, rfl, rfl, rfl, rfl⟩
  · rw [Bool.not_eq_true] at hfresh
    by_cases hidle : s.lockout.inFlight = none
    · rw [(beginLockout_of_idle e hfresh hidle).1]
      exact ⟨rfl, rfl, rfl, rfl, rfl⟩
    · rw [beginLockout_of_writing e hfresh hidle, lockoutRaised_lockout]
      exact ⟨rfl, rfl, rfl, rfl, rfl⟩

theorem beginLockout_ownHold (e : Escalation) (s : State) :
    ∃ h, (beginLockout e s).ownHold .lockout none = some h ∧ h.detail = some (.lockout e.cause) := by
  obtain ⟨h, hh, hd⟩ := raiseHold_ownHold_self .lockout none (some (.lockout e.cause))
    (s.setLockout { s.lockout with record := newLockout e s })
  exact ⟨h, (ownHold_congr (by rw [beginLockout_holds]; rfl) _ _).trans hh, hd⟩

theorem beginLockout_fills (e : Escalation) (s : State) : Fills 0 s (beginLockout e s) := by
  have hset : Fills 0 s (s.setLockout { s.lockout with record := newLockout e s }) := .of_blocks rfl rfl rfl rfl
  have hraised : Fills 0 s (lockoutRaised e s) := hset.then_none (raiseHold_fills ..)
  rw [beginLockout_eq]
  split
  · exact hraised
  · split
    · exact hraised.then_none (.of_blocks (by simp) (by simp) (by simp) (by simp))
    · exact hraised.then_none (.of_blocks rfl rfl rfl rfl)

theorem stands_of_ownHold {c : Cause} {h : OwnHold} (hh : s.ownHold c none = some h) : s.stands c = true := by
  unfold State.stands
  rw [hh]
  rfl

theorem escalate_of_none (e : Escalation) (h : s.lockout.record.state = .none) : escalate e s = beginLockout e s := by
  unfold escalate
  rw [h]

theorem escalate_of_release (e : Escalation) {n : SlotName} {x : LockoutSlot} (h : s.lockout.record.state = .active)
    (hw : s.lockout.inFlight = some (.release n x)) :
    escalate e s = if s.lockout.pendingEscalation.isNone then s.setLockout { s.lockout with pendingEscalation := some e } else s := by
  unfold escalate
  rw [h, hw]

theorem escalate_of_active (e : Escalation) (h : s.lockout.record.state = .active)
    (hw : ∀ n x, s.lockout.inFlight ≠ some (.release n x)) : escalate e s = s := by
  unfold escalate
  rw [h]
  cases hf : s.lockout.inFlight with
  | none => rfl
  | some w =>
    cases w with
    | active => rfl
    | release n x => exact absurd hf (hw n x)
    | config => rfl

/-! ### Awaited answers -/

theorem answerAwaited_awaited (r : OrderResult) (s : State) : (answerAwaited r s).orders.awaited = none := by
  unfold answerAwaited
  split
  · next h => exact h
  · rfl

theorem answerAwaited_memory {k : Byte} {m : OrderMemory} (r : OrderResult) (hk : s.orders.awaited = some k)
    (hm : s.orders.memory = some m) :
    (answerAwaited r s).orders.memory =
      some (if m.number = k then { m with status := .done, answer := some (answerPayload k r) } else m) := by
  unfold answerAwaited
  rw [hk]
  simp [hm]

theorem answerAwaited_fills (r : OrderResult) (s : State) : Fills 1 s (answerAwaited r s) := by
  unfold answerAwaited
  split
  · exact (Fills.refl s).mono (Nat.zero_le 1)
  · have hset : ∀ (v : State) (x : OrderHandler), Fills 0 v (v.setOrders x) := fun _ _ => .of_blocks rfl rfl rfl rfl
    exact ((hset s _).after_none (claim_fills ..)).then_none (hset _ _)

theorem answerAwaited_queued {k : Byte} (r : OrderResult) (hk : s.orders.awaited = some k) (hroom : Roomy 1 s) :
    Queued (answerAwaited r s) (.answer (answerPayload k r) false) := by
  unfold answerAwaited
  rw [hk]
  refine Queued.of_link (s := claim _ _) ?_ rfl
  exact claim_queued (s := s.setOrders _) _ hroom.1 hroom.length_lt

/-- What the delivery of a write's result does to memory and queue (R203). -/
def Delivered (s t : State) (r : OrderResult) : Prop :=
  t.orders.awaited = none ∧ ∀ k, s.orders.awaited = some k →
    (HasRoom s → Queued t (.answer (answerPayload k r) false)) ∧ ∀ m, s.orders.memory = some m →
      (m.number = k → AnsweredWith t k m.kind (answerPayload k r)) ∧ (m.number ≠ k → t.orders.memory = s.orders.memory)

/-- A result delivered in the midst of an event that otherwise leaves the order handler alone and queues nothing. -/
theorem delivered_of_answerAwaited {u : State} {r : OrderResult} (hbefore : Fills 0 s u) (hafter : Fills 0 (answerAwaited r u) t)
    (horders : u.orders = s.orders) (hlast : t.orders = (answerAwaited r u).orders) : Delivered s t r := by
  refine ⟨by rw [hlast, answerAwaited_awaited], fun k hk => ⟨fun hroom => ?_, fun m hm => ?_⟩⟩
  · have hs : Roomy 1 s := hroom.roomy.mono (by decide)
    have hu : Roomy 1 u := hbefore.roomy hs
    exact hafter.queued ((answerAwaited_fills r u).roomy (l := 0) hu) (answerAwaited_queued r (by rwa [horders]) hu)
  · have hmemory := answerAwaited_memory (s := u) r (by rwa [horders]) (by rwa [horders])
    unfold AnsweredWith
    rw [hlast, hmemory]
    refine ⟨fun hn => by rw [if_pos hn, ← hn], fun hn => by rw [if_neg hn, hm]⟩

theorem startActiveTo_eq {c : LockoutCause} (n : SlotName) (attempt : Nat) (h : s.lockout.record.cause = some c) :
    startActiveTo n attempt s = startWrite (.active n ⟨s.lockout.record.serial, .active, c, s.lockout.record.index⟩)
      (s.setLockout { s.lockout with record := { s.lockout.record with attempt := attempt } }) := by
  unfold startActiveTo LockoutRecord.slot
  rw [h]
  rfl

theorem startActiveTo_of_no_cause (n : SlotName) (attempt : Nat) (h : s.lockout.record.cause = none) :
    startActiveTo n attempt s = s := by
  unfold startActiveTo LockoutRecord.slot
  rw [h]
  rfl

@[simp] theorem startActiveTo_pendingWrite (n : SlotName) (attempt : Nat) (s : State) :
    (startActiveTo n attempt s).lockout.pendingWrite = s.lockout.pendingWrite := by
  unfold startActiveTo
  split <;> rfl

/-- An ACTIVE write that starts leaves the configuration slots alone. -/
@[simp] theorem startActiveTo_store_config (n : SlotName) (attempt : Nat) (s : State) :
    (startActiveTo n attempt s).store.configA = s.store.configA ∧ (startActiveTo n attempt s).store.configB = s.store.configB := by
  unfold startActiveTo
  split
  · cases n <;> exact ⟨rfl, rfl⟩
  · exact ⟨rfl, rfl⟩

theorem completeActive_ok {n : SlotName} {x : LockoutSlot} (h : s.lockout.inFlight = some (.active n x))
    (hpending : s.lockout.pendingWrite = false) :
    completeActive .ok s = (endWrite (.active n x) .ok s).setLockout
      { (endWrite (.active n x) .ok s).lockout with record := { s.lockout.record with retained := true } } := by
  unfold completeActive
  rw [h]
  exact startPending_of_none _ hpending

theorem completeActive_fail {n : SlotName} {x : LockoutSlot} (h : s.lockout.inFlight = some (.active n x))
    (hpending : s.lockout.pendingWrite = false) :
    completeActive .fail s = if s.lockout.record.attempt = 1 then startActiveTo n 2 (endWrite (.active n x) .fail s)
      else endWrite (.active n x) .fail s := by
  unfold completeActive
  rw [h]
  refine startPending_of_none _ ?_
  dsimp only
  split
  · rw [startActiveTo_pendingWrite]
    exact hpending
  · exact hpending

end

/-- Settles O41, by the record's state and the write in flight. -/
theorem escalationBeginsLockout : Obligations.EscalationBeginsLockout := by
  refine ⟨fun c => ⟨fun x h => lockoutTarget_of_newest h, fun x h => lockoutTarget_of_newest h, fun h => ?_, fun n x h =>
    ⟨storedSerial_of_newest h, exhausted_of_newest h⟩⟩, fun e s => ⟨fun hnone => ?_, fun hactive => ?_⟩⟩
  · simp [SlotCopies.lockoutTarget, SlotCopies.storedSerial, SlotCopies.exhausted, h]
  · intro t
    have ht : t = beginLockout e s := escalate_of_none e hnone
    obtain ⟨hstate, hcause, hindex, hretained, hserial⟩ := beginLockout_record e s
    obtain ⟨h, hh, -⟩ := beginLockout_ownHold e s
    rw [ht]
    refine ⟨hstate, hcause, hindex, hretained, stands_of_ownHold hh, hserial, fun hex => ?_, fun hfresh hidle => ?_,
      fun hfresh hwriting => ?_⟩
    · rw [beginLockout_of_exhausted e hex, lockoutRaised_lockout]
      exact ⟨rfl, rfl⟩
    · obtain ⟨hlockout, hstore⟩ := beginLockout_of_idle e hfresh hidle
      rw [hlockout, hstore]
      refine ⟨rfl, rfl, fun htarget => ?_, fun htarget => ?_⟩ <;> rw [htarget] <;> exact ⟨rfl, rfl⟩
    · rw [beginLockout_of_writing e hfresh hwriting]
      exact ⟨rfl, by simp, by simp⟩
  · by_cases hrelease : ∃ n x, s.lockout.inFlight = some (.release n x)
    · obtain ⟨n, x, hw⟩ := hrelease
      rw [escalate_of_release e hactive hw]
      refine ⟨?_, ?_, ?_, fun _ _ _ => ?_, fun h => absurd hw (h n x)⟩
      · split <;> rfl
      · split <;> rfl
      · split <;> rfl
      · simp only [Option.isNone_iff_eq_none]
        split <;> rfl
    · have hw : ∀ n x, s.lockout.inFlight ≠ some (.release n x) := fun n x h => hrelease ⟨n, x, h⟩
      rw [escalate_of_active e hactive hw]
      exact ⟨rfl, rfl, rfl, fun n x h => absurd h (hw n x), fun _ => rfl⟩

/-- Settles O42, by the outcome and the attempt. -/
theorem activeWriteCompletes : Obligations.ActiveWriteCompletes := by
  intro s n x hw hpending
  refine ⟨⟨_, event_eq_next (completeActive .ok) s, ?_⟩, _, event_eq_next (completeActive .fail) s, ?_⟩
  · rw [completeActive_ok hw hpending]
    simp only [endEvent_lockout, endEvent_holds, endEvent_store]
    refine ⟨rfl, rfl, rfl, ?_, ?_⟩ <;> rintro rfl <;> exact ⟨rfl, rfl⟩
  · rw [completeActive_fail hw hpending]
    simp only [endEvent_lockout, endEvent_holds, endEvent_store]
    by_cases hattempt : s.lockout.record.attempt = 1
    · rw [if_pos hattempt]
      cases hc : s.lockout.record.cause with
      | none =>
        rw [startActiveTo_of_no_cause (s := endWrite _ _ s) n 2 hc]
        refine ⟨rfl, rfl, rfl, ?_, ?_, nofun, fun h => ?_⟩
        · rintro rfl; exact ⟨rfl, rfl⟩
        · rintro rfl; exact ⟨rfl, rfl⟩
        · omega
      | some c =>
        rw [startActiveTo_eq (s := endWrite _ _ s) n 2 hc]
        refine ⟨rfl, rfl, rfl, ?_, ?_, fun k _ hk => ?_, fun h => ?_⟩
        · rintro rfl; exact ⟨rfl, rfl⟩
        · rintro rfl; exact ⟨rfl, rfl⟩
        · cases hk; exact ⟨rfl, rfl⟩
        · omega
    · rw [if_neg hattempt]
      refine ⟨rfl, rfl, rfl, ?_, ?_, fun _ h => absurd h hattempt, fun h => ⟨rfl, h⟩⟩
      · rintro rfl; exact ⟨rfl, rfl⟩
      · rintro rfl; exact ⟨rfl, rfl⟩

section
variable {s : State}

/-! ### A release write's completion -/

/-- The lockout unit once its release write has landed and its record is NONE (R143, R152). -/
def LockoutUnit.released (u : LockoutUnit) (n : SlotName) (x : LockoutSlot) : LockoutUnit :=
  { u with
    record := { u.record with state := .none, retained := false, attempt := 0 }
    inFlight := none
    copies := u.copies.setLockout n (some x) }

/-- The released record with its hold lifted (R152 steps 1 and 2). -/
def releasedState (n : SlotName) (x : LockoutSlot) (s : State) : State :=
  liftHold .lockout none (releaseRecord (endWrite (.release n x) .ok s))

/-- That state with the awaited answer delivered (R152 step 3). -/
def answeredState (n : SlotName) (x : LockoutSlot) (s : State) : State := answerAwaited (.done []) (releasedState n x s)

theorem releasedState_fills (n : SlotName) (x : LockoutSlot) (s : State) : Fills 0 s (releasedState n x s) := by
  have hended : Fills 0 s (releaseRecord (endWrite (.release n x) .ok s)) := .of_blocks rfl rfl rfl rfl
  exact hended.then_none (liftHold_fills ..)

@[simp] theorem releasedState_orders (n : SlotName) (x : LockoutSlot) (s : State) : (releasedState n x s).orders = s.orders := by
  simp [releasedState, releaseRecord, endWrite]

theorem answeredState_lockout (n : SlotName) (x : LockoutSlot) (s : State) :
    (answeredState n x s).lockout = s.lockout.released n x := by
  simp [answeredState, releasedState, releaseRecord, endWrite, LockoutUnit.released, Write.copied]

theorem answeredState_store (n : SlotName) (x : LockoutSlot) (s : State) :
    (answeredState n x s).store = s.store.setLockout n (.written x) := by
  simp [answeredState, releasedState, releaseRecord, endWrite, Write.stored]

theorem answeredState_stands (n : SlotName) (x : LockoutSlot) (s : State) : (answeredState n x s).stands .lockout = false :=
  (stands_congr (by simp [answeredState, releasedState])).trans
    (liftHold_stands_self .lockout (releaseRecord (endWrite (.release n x) .ok s)))

theorem completeRelease_ok {n : SlotName} {x : LockoutSlot} (h : s.lockout.inFlight = some (.release n x)) :
    completeRelease .ok s = startPending (applyPendingEscalation (answeredState n x s)) := by
  unfold completeRelease
  rw [h]
  rfl

theorem completeRelease_ok_of_no_escalation {n : SlotName} {x : LockoutSlot} (h : s.lockout.inFlight = some (.release n x))
    (hpending : s.lockout.pendingWrite = false) (hnone : s.lockout.pendingEscalation = none) :
    completeRelease .ok s = answeredState n x s := by
  rw [completeRelease_ok h]
  unfold applyPendingEscalation
  rw [answeredState_lockout, show (s.lockout.released n x).pendingEscalation = none from hnone]
  exact startPending_of_none _ (by rw [answeredState_lockout]; exact hpending)

/-- The answered state, its kept escalation taken up. -/
def escalatedState (n : SlotName) (x : LockoutSlot) (s : State) : State :=
  (answeredState n x s).setLockout { (answeredState n x s).lockout with pendingEscalation := none }

theorem escalatedState_lockout (n : SlotName) (x : LockoutSlot) (s : State) :
    (escalatedState n x s).lockout = { s.lockout.released n x with pendingEscalation := none } := by
  rw [← answeredState_lockout]
  rfl

theorem beginLockout_pendingWrite_of_idle (e : Escalation) (hidle : s.lockout.inFlight = none) :
    (beginLockout e s).lockout.pendingWrite = s.lockout.pendingWrite ∧
      (beginLockout e s).lockout.pendingEscalation = s.lockout.pendingEscalation := by
  cases hfresh : s.lockout.copies.exhausted with
  | true =>
    rw [beginLockout_of_exhausted e hfresh, lockoutRaised_lockout]
    exact ⟨rfl, rfl⟩
  | false =>
    rw [(beginLockout_of_idle e hfresh hidle).1]
    exact ⟨rfl, rfl⟩

theorem completeRelease_ok_of_escalation {n : SlotName} {x : LockoutSlot} {e : Escalation}
    (h : s.lockout.inFlight = some (.release n x)) (hpending : s.lockout.pendingWrite = false)
    (hkept : s.lockout.pendingEscalation = some e) : completeRelease .ok s = beginLockout e (escalatedState n x s) := by
  have hlockout := escalatedState_lockout n x s
  rw [completeRelease_ok h]
  unfold applyPendingEscalation
  rw [answeredState_lockout, show (s.lockout.released n x).pendingEscalation = some e from hkept]
  have hstate : (answeredState n x s).setLockout { s.lockout.released n x with pendingEscalation := none } = escalatedState n x s := by
    rw [← answeredState_lockout]
    rfl
  dsimp only
  rw [hstate]
  refine startPending_of_none _ ?_
  rw [(beginLockout_pendingWrite_of_idle e (by rw [hlockout]; rfl)).1, hlockout]
  exact hpending

theorem completeRelease_fail {n : SlotName} {x : LockoutSlot} (h : s.lockout.inFlight = some (.release n x))
    (hpending : s.lockout.pendingWrite = false) :
    completeRelease .fail s = (answerAwaited (.refused .storeFault) (endWrite (.release n x) .fail s)).setLockout
      { (endWrite (.release n x) .fail s).lockout with pendingEscalation := none } := by
  unfold completeRelease
  rw [h]
  dsimp only
  rw [answerAwaited_lockout]
  exact startPending_of_none _ hpending

/-- The stored serial is that of a slot just written, unless the other slot holds a higher (R142). -/
theorem storedSerial_of_written {c : SlotCopies} {n : SlotName} {x : LockoutSlot}
    (h : ∀ y, (if n = .a then c.lockoutB else c.lockoutA) = some y → y.serial ≤ x.serial) :
    (c.setLockout n (some x)).storedSerial = x.serial := by
  cases n with
  | a =>
    unfold SlotCopies.storedSerial SlotCopies.newest SlotCopies.setLockout
    dsimp only
    cases hy : c.lockoutB with
    | none => rfl
    | some y =>
      have hle := h y hy
      dsimp only
      by_cases hwins : slotAWins x y = true
      · rw [if_pos hwins]
      · rw [if_neg hwins]
        simp only [slotAWins, Bool.or_eq_true, decide_eq_true_eq, not_or] at hwins
        exact le_antisymm hle (not_lt.1 hwins.1)
  | b =>
    unfold SlotCopies.storedSerial SlotCopies.newest SlotCopies.setLockout
    dsimp only
    cases hy : c.lockoutA with
    | none => rfl
    | some y =>
      have hle := h y hy
      dsimp only
      by_cases hwins : slotAWins y x = true
      · rw [if_pos hwins]
        simp only [slotAWins, Bool.or_eq_true, Bool.and_eq_true, decide_eq_true_eq] at hwins
        rcases hwins with hlt | ⟨heq, -⟩
        · exact le_antisymm hle hlt.le
        · exact heq
      · rw [if_neg hwins]

/-! ### A configuration write's completion -/

/-- The configuration write ended and its answer delivered (R155). -/
def configEnded (o : WriteOutcome) (n : SlotName) (x : ConfigSlot) (s : State) : State :=
  answerAwaited (storeResult o) (endWrite (.config n x) o s)

theorem completeConfig_eq {o : WriteOutcome} {n : SlotName} {x : ConfigSlot} (h : s.lockout.inFlight = some (.config n x)) :
    completeConfig o s = startPending (configEnded o n x s) := by
  unfold completeConfig
  rw [h]
  rfl

theorem configEnded_lockout (o : WriteOutcome) (n : SlotName) (x : ConfigSlot) (s : State) :
    (configEnded o n x s).lockout =
      { s.lockout with inFlight := none, copies := s.lockout.copies.setConfig n (if o = .ok then some x else none) } := by
  simp [configEnded, endWrite, Write.copied]

theorem configEnded_store (o : WriteOutcome) (n : SlotName) (x : ConfigSlot) (s : State) :
    (configEnded o n x s).store = s.store.setConfig n (if o = .ok then .written x else .torn) := by
  simp [configEnded, endWrite, Write.stored]

theorem startPending_of_waiting (hpending : s.lockout.pendingWrite = true) (hidle : s.lockout.inFlight = none) :
    startPending s = startActive (s.setLockout { s.lockout with pendingWrite := false }) := by
  unfold startPending
  rw [if_pos (by simp [hpending, hidle])]

/-- A pending write that starts touches lockout unit and lockout slots alone. -/
theorem startPending_store_config (s : State) :
    (startPending s).store.configA = s.store.configA ∧ (startPending s).store.configB = s.store.configB := by
  unfold startPending startActive
  split
  · exact startActiveTo_store_config _ _ _
  · exact ⟨rfl, rfl⟩

theorem startPending_pendingWrite (hidle : s.lockout.inFlight = none) : (startPending s).lockout.pendingWrite = false := by
  cases hpending : s.lockout.pendingWrite with
  | false => rw [startPending_of_none s hpending, hpending]
  | true => rw [startPending_of_waiting hpending hidle, startActive, startActiveTo_pendingWrite]; rfl

theorem storeResult_payload (o : WriteOutcome) (k : Byte) :
    answerPayload k (storeResult o) = [k, if o = .ok then 0x10#8 else 0x22#8] := by
  cases o <;> rfl

end

/-- Settles O43, by the outcome and the escalation kept. -/
theorem releaseWriteCompletes : Obligations.ReleaseWriteCompletes := by
  intro s n x hw hpending copies answers
  refine ⟨⟨_, event_eq_next (completeRelease .ok) s, ?_⟩, _, event_eq_next (completeRelease .fail) s, ?_⟩
  · have hafter : Fills 0 (answeredState n x s) (completeRelease .ok s) ∧
        (completeRelease .ok s).orders = (answeredState n x s).orders ∧
        (completeRelease .ok s).lockout.pendingEscalation = none := by
      cases hkept : s.lockout.pendingEscalation with
      | none =>
        rw [completeRelease_ok_of_no_escalation hw hpending hkept, answeredState_lockout]
        exact ⟨.refl _, rfl, hkept⟩
      | some e =>
        rw [completeRelease_ok_of_escalation hw hpending hkept]
        have hset : Fills 0 (answeredState n x s) (escalatedState n x s) := .of_blocks rfl rfl rfl rfl
        refine ⟨hset.then_none (beginLockout_fills ..), by simp [escalatedState], ?_⟩
        have hlockout := escalatedState_lockout n x s
        rw [(beginLockout_pendingWrite_of_idle e (by rw [hlockout]; rfl)).2, hlockout]
    obtain ⟨hfills, horders, hescalation⟩ := hafter
    have hdelivered : Delivered s (endEvent s (completeRelease .ok s)) (.done []) :=
      delivered_of_answerAwaited (releasedState_fills n x s) (hfills.then_none (endEvent_fills ..)) (by simp)
        (by rw [endEvent_orders, horders]; rfl)
    refine ⟨hdelivered, by rw [endEvent_lockout, hescalation], fun hnone => ?_, storedSerial_of_written, fun e hkept => ?_⟩
    · rw [endEvent_lockout, endEvent_store, stands_congr (t := endEvent s (completeRelease .ok s)) (s := completeRelease .ok s) (by rw [endEvent_holds]),
        completeRelease_ok_of_no_escalation hw hpending hnone, answeredState_lockout, answeredState_store]
      refine ⟨rfl, answeredState_stands n x s, rfl, rfl, ?_, ?_⟩ <;> rintro rfl <;> exact ⟨rfl, rfl⟩
    · intro next
      have hlockout := escalatedState_lockout n x s
      have hcopies : (escalatedState n x s).lockout.copies = copies := by rw [hlockout]; rfl
      have hidle : (escalatedState n x s).lockout.inFlight = none := by rw [hlockout]; rfl
      have hstore : (escalatedState n x s).store = s.store.setLockout n (.written x) := answeredState_store n x s
      obtain ⟨hstate, hcause, hindex, hretained, hserial⟩ := beginLockout_record e (escalatedState n x s)
      obtain ⟨h, hh, hd⟩ := beginLockout_ownHold e (escalatedState n x s)
      rw [endEvent_lockout, endEvent_store, completeRelease_ok_of_escalation hw hpending hkept]
      rw [hcopies] at hserial
      refine ⟨hstate, hserial, hcause, hindex, hretained, ⟨h, ?_, hd⟩, fun hex => ?_, fun hfresh => ?_, fun hor => ?_⟩
      · rw [← hh]
        exact ownHold_congr (by rw [endEvent_holds]) _ _
      · rw [beginLockout_of_exhausted e (by rwa [hcopies]), lockoutRaised_lockout]
        exact ⟨hidle, rfl⟩
      · rw [(beginLockout_of_idle e (by rwa [hcopies]) hidle).1]
        refine ⟨rfl, ?_⟩
        rw [LockoutUnit.begun, hcopies]
        rfl
      · have hslot : (beginLockout e (escalatedState n x s)).store = s.store.setLockout n (.written x) ∨
            copies.lockoutTarget ≠ n ∧ (beginLockout e (escalatedState n x s)).store =
              (s.store.setLockout n (.written x)).setLockout copies.lockoutTarget .torn := by
          cases hex : copies.exhausted with
          | true =>
            rw [beginLockout_of_exhausted e (by rwa [hcopies]), lockoutRaised_store, hstore]
            exact .inl rfl
          | false =>
            rw [(beginLockout_of_idle e (by rwa [hcopies]) hidle).2, hcopies, hstore]
            exact .inr ⟨hor.resolve_left (by rw [hex]; decide), rfl⟩
        rcases hslot with hslot | ⟨hother, hslot⟩
        · rw [hslot]
          refine ⟨?_, ?_⟩ <;> rintro rfl <;> rfl
        · rw [hslot]
          cases htarget : copies.lockoutTarget <;> cases n <;> simp [htarget, RetainedStore.setLockout] at hother ⊢
  · rw [completeRelease_fail hw hpending]
    have hended : Fills 0 s (endWrite (.release n x) .fail s) := .of_blocks rfl rfl rfl rfl
    refine ⟨delivered_of_answerAwaited (r := .refused .storeFault) hended ?_ rfl ?_, ?_⟩
    · refine Fills.then_none ?_ (endEvent_fills s _)
      exact .of_blocks rfl rfl rfl rfl
    · rw [endEvent_orders]
      rfl
    · refine ⟨by simp [endWrite], by simp [endWrite], by simp, by simp [endWrite], ?_, ?_⟩ <;> rintro rfl <;>
        simp [endWrite, Write.stored, Write.copied, RetainedStore.setLockout, SlotCopies.setLockout]

/-- Settles O44: the write ends, its answer is delivered, and a write that waited starts. -/
theorem configWriteCompletes : Obligations.ConfigWriteCompletes := by
  intro s o n x hw
  have hlockout := configEnded_lockout o n x s
  have hidle : (configEnded o n x s).lockout.inFlight = none := by rw [hlockout]
  obtain ⟨hconfigA, hconfigB⟩ := startPending_store_config (configEnded o n x s)
  refine ⟨_, event_eq_next (completeConfig o) s, ?_⟩
  rw [completeConfig_eq hw]
  have hended : Fills 0 s (endWrite (.config n x) o s) := .of_blocks rfl rfl rfl rfl
  have hstarted : Fills 0 (configEnded o n x s) (startPending (configEnded o n x s)) :=
    .of_blocks (by simp) (by simp) (by simp) (by simp)
  have hdelivered : Delivered s (endEvent s (startPending (configEnded o n x s))) (storeResult o) :=
    delivered_of_answerAwaited hended (hstarted.then_none (endEvent_fills ..)) rfl (by simp [configEnded])
  obtain ⟨hawaited, hanswers⟩ := hdelivered
  simp only [storeResult_payload] at hanswers
  simp only [endEvent_lockout, endEvent_store]
  refine ⟨by simp [configEnded, endWrite], by simp [configEnded, endWrite], hawaited, startPending_pendingWrite hidle, ?_, ?_, hanswers,
    fun hpending => ?_, fun c hpending hcause => ?_⟩
  · rintro rfl
    rw [hconfigA, configEnded_store]
    rfl
  · rintro rfl
    rw [hconfigB, configEnded_store]
    rfl
  · rw [startPending_of_none _ (by rw [hlockout]; exact hpending), hlockout]
    exact ⟨rfl, rfl⟩
  · have htarget := lockoutTarget_setConfig s.lockout.copies n (if o = .ok then some x else none)
    rw [startPending_of_waiting (by rw [hlockout]; exact hpending) hidle, startActive, startActiveTo_eq (c := c) _ _ (by rw [hlockout]; exact hcause)]
    simp only [State.setLockout_lockout, hlockout, htarget]
    exact ⟨rfl, rfl⟩

end Sys2Proof.Machine

/-! The line: frame starts and ends, aborted sends, duplicate frames; the switch's events (R131 to R137, R180 to R191). -/

namespace Sys2Proof.Machine

/-- From s to t no frame but WITHDRAWs has been queued. -/
def OnlyWithdraws (s t : State) : Prop := ∀ q ∈ t.link.queue, q ∈ s.link.queue ∨ ∃ b, q.claim = .withdraw b

section
variable {s t u : State}

theorem OnlyWithdraws.of_queue (h : t.link.queue = s.link.queue) : OnlyWithdraws s t := fun q hq => .inl (by rwa [← h])

theorem OnlyWithdraws.trans (h : OnlyWithdraws s t) (h' : OnlyWithdraws t u) : OnlyWithdraws s u := fun q hq =>
  (h' q hq).elim (h q) .inr

theorem mem_claim_queue {x : Claim} {q : QueueEntry} (hq : q ∈ (claim x s).link.queue) : q ∈ s.link.queue ∨ q.claim = x := by
  obtain h | ⟨-, -, l, h, hl⟩ := claim_cases x s
  · rw [h] at hq
    exact .inl hq
  · rw [h, settleWait_link_queue, withQueue_link_queue, mem_placed] at hq
    rcases hq with rfl | hq
    · exact .inr rfl
    · rcases hl with ⟨rfl, -⟩ | ⟨rfl, -, -⟩
      · exact .inl hq
      · exact .inl ((shed_sublist _).subset hq)

theorem leave_onlyWithdraws (s : State) : OnlyWithdraws s (leave s) := by
  by_cases hp : s.isParty
  · have hlink : (leave s).link = (withdrawClaim s).link := by rw [leave_of_party hp]; simp
    intro q hq
    rw [hlink] at hq
    unfold withdrawClaim at hq
    split at hq
    · next b _ _ _ => exact (mem_claim_queue hq).imp_right fun h => ⟨b, h⟩
    · exact .inl hq
  · rw [leave_of_not_party hp]
    exact .of_queue rfl

theorem raiseHold_onlyWithdraws (c : Cause) (i : Option Nat) (d : Option Detail) (s : State) :
    OnlyWithdraws s (raiseHold c i d s) := by
  obtain ⟨-, h⟩ | ⟨x, -, -, h⟩ | ⟨x, -, -, h | h⟩ := raiseHold_cases c i d s <;> rw [h]
  · refine OnlyWithdraws.trans (.of_queue ?_) (leave_onlyWithdraws _)
    simp
  · exact .of_queue rfl
  · exact .of_queue rfl
  · refine .of_queue ?_
    rw [appendNotice_link_queue]
    rfl

theorem judgeDiscord_onlyWithdraws (s : State) : OnlyWithdraws s (judgeDiscord s) := by
  unfold judgeDiscord
  split
  · exact .of_queue rfl
  · split
    · exact raiseHold_onlyWithdraws _ _ _ _
    · exact .of_queue (by simp)

theorem judgeView_onlyWithdraws (s : State) : OnlyWithdraws s (judgeView s) := by
  have hlink : OnlyWithdraws s (judgeLink s) := by
    unfold judgeLink
    split
    · split
      · exact .of_queue (by simp)
      · exact raiseHold_onlyWithdraws _ _ _ _
    · exact .of_queue rfl
  exact hlink.trans (judgeDiscord_onlyWithdraws _)

theorem enterClosed_onlyWithdraws (s : State) : OnlyWithdraws s (enterClosed s) := by
  by_cases hholds : s.holds.own = [] ∧ s.holds.remote = []
  · rw [enterClosed_of_no_hold hholds.1 hholds.2]
    exact .of_queue (by simp [closingState])
  · rw [enterClosed_of_hold (by tauto)]
    exact leave_onlyWithdraws s

theorem confirmOffer_onlyWithdraws (a : Nat) (m : Mode) (b : Ballot) (s : State) : OnlyWithdraws s (confirmOffer a m b s) := by
  unfold confirmOffer
  split
  · split
    · exact .of_queue (by simp)
    · exact .of_queue rfl
    · exact leave_onlyWithdraws s
  · exact .of_queue rfl

/-! ### The end of an event, seen from the line -/

theorem settleWait_of_busy (h : s.link.medium = .busy) : settleWait s = s :=
  if_neg fun hmay => by
    obtain ⟨-, -, hidle, -⟩ := mayWait_iff.1 hmay
    rw [h] at hidle
    cases hidle

/-- At an event's end a wait starts for what is pending, once nothing is on an IDLE line (R185). -/
theorem endEvent_wait_of_busy (before : State) (h : s.link.medium = .busy) : (endEvent before s).link.wait = s.link.wait := by
  unfold endEvent
  rw [settleWait_of_busy (by simpa using h)]
  unfold forgetCounted
  split
  · split <;> simp
  · simp

theorem onLine_of_quiet (h : s.link.sending = none) (i : Item) : s.link.onLine i = false := by
  unfold LinkController.onLine
  rw [h]

theorem find?_true {α : Type} (l : List α) : l.find? (fun _ => true) = l.head? := by
  cases l <;> rfl

/-- With nothing on the line everything that is kept is pending (R181). -/
theorem pendingClass_of_quiet (h : s.link.sending = none) :
    s.pendingClass = if s.link.announceFlag = true ∨ s.holds.notices ≠ [] then some .urgent
      else s.link.queue.head?.map fun q => q.claim.cls := by
  unfold State.pendingClass State.announcePending State.nextNotice State.nextQueued
  simp only [onLine_of_quiet h, Bool.not_false, Bool.and_true, find?_true, Bool.or_eq_true]
  congr 1
  cases s.holds.notices <;> simp

/-- The pending class is read off flag, notices, queue and what is on the line. -/
theorem pendingClass_congr (hsending : t.link.sending = s.link.sending) (hflag : t.link.announceFlag = s.link.announceFlag)
    (hqueue : t.link.queue = s.link.queue) (hnotices : t.holds.notices = s.holds.notices) : t.pendingClass = s.pendingClass := by
  unfold State.pendingClass State.announcePending State.nextNotice State.nextQueued LinkController.onLine
  rw [hsending, hflag, hqueue, hnotices]

theorem forgetCounted_cases (s : State) :
    forgetCounted s = s ∨ forgetCounted s = s.setLink { s.link with attempts := 0, counted := none } := by
  unfold forgetCounted
  split
  · split
    · exact .inl rfl
    · exact .inr rfl
  · exact .inl rfl

theorem settleWait_of_not_may (h : s.mayWait = false) : settleWait s = s := if_neg (by simp [h])

/-- What a wait becomes at the end of an event that leaves an IDLE line without a wait. -/
theorem settleWait_of_quiet (hwait : s.link.wait = none) (hmedium : s.link.medium = .idle) (hsending : s.link.sending = none) :
    (s.ballot.mode = .start ∨ s.link.mute = true → (settleWait s).link.wait = none) ∧
      (s.ballot.mode ≠ .start → s.link.mute = false →
        (settleWait s).link.wait = s.pendingClass.map fun c => ⟨c, waitTime s.own s.link.lastSender c⟩) := by
  refine ⟨fun hsilent => ?_, fun hmode hmute => ?_⟩
  · rw [settleWait_of_not_may, hwait]
    refine Bool.eq_false_of_not_eq_true fun hmay => ?_
    obtain ⟨hmode, hmute, -⟩ := mayWait_iff.1 hmay
    rcases hsilent with h | h
    · exact hmode h
    · cases hmute.symm.trans h
  · unfold settleWait
    rw [if_pos (mayWait_iff.2 ⟨hmode, hmute, hmedium, hsending⟩)]
    cases hclass : s.pendingClass with
    | none => exact hwait
    | some c => simp [hwait, waitFor]

/-- The state of an event before its wait is judged. -/
def beforeWait (before s : State) : State := forgetCounted (settleReadiness before s)

theorem endEvent_eq (before s : State) : endEvent before s = settleWait (beforeWait before s) := rfl

theorem beforeWait_frame (before s : State) :
    (beforeWait before s).link.wait = s.link.wait ∧ (beforeWait before s).link.medium = s.link.medium ∧
      (beforeWait before s).link.sending = s.link.sending ∧ (beforeWait before s).ballot.mode = s.ballot.mode ∧
      (beforeWait before s).link.mute = s.link.mute ∧ (beforeWait before s).link.lastSender = s.link.lastSender ∧
      (beforeWait before s).own = s.own ∧ (beforeWait before s).pendingClass = s.pendingClass := by
  have hlink : (settleReadiness before s).link = s.link := settleReadiness_link _ _
  have hholds : (settleReadiness before s).holds = s.holds := settleReadiness_holds _ _
  have hown : (settleReadiness before s).own = s.own := congrArg StartSequence.address (settleReadiness_startup _ _)
  unfold beforeWait
  obtain h | h := forgetCounted_cases (settleReadiness before s)
  · rw [h, hlink, hown]
    exact ⟨rfl, rfl, rfl, by simp, rfl, rfl, rfl, pendingClass_congr (by rw [hlink]) (by rw [hlink]) (by rw [hlink]) (by rw [hholds])⟩
  · rw [h]
    simp only [State.setLink_link, State.setLink_ballot, State.setLink_own, hlink, hown]
    exact ⟨trivial, trivial, trivial, by simp, trivial, trivial, trivial,
      pendingClass_congr rfl rfl rfl (by rw [State.setLink_holds, hholds])⟩

/-- The count of failed attempts at the end of an event: kept while its item is in its place (R180). -/
theorem endEvent_count (before s : State) :
    (endEvent before s).link.attempts = (forgetCounted s).link.attempts ∧
      (endEvent before s).link.counted = (forgetCounted s).link.counted := by
  have hlink : (settleReadiness before s).link = s.link := settleReadiness_link _ _
  have hitem : ∀ i, (settleReadiness before s).holdsItem i = s.holdsItem i := fun i => by
    unfold State.holdsItem
    cases i <;> simp
  have hforget : (forgetCounted (settleReadiness before s)).link = (forgetCounted s).link := by
    unfold forgetCounted
    rw [hlink]
    cases s.link.counted with
    | none => exact hlink
    | some i =>
      dsimp only
      rw [hitem]
      split
      · exact hlink
      · rfl
  rw [endEvent, settleWait_link_attempts, settleWait_link_counted, hforget]
  exact ⟨rfl, rfl⟩

theorem endEvent_count_of_none (before : State) (hcounted : s.link.counted = none) (hattempts : s.link.attempts = 0) :
    (endEvent before s).link.attempts = 0 ∧ (endEvent before s).link.counted = none := by
  obtain ⟨ha, hc⟩ := endEvent_count before s
  have hforget : forgetCounted s = s := by unfold forgetCounted; rw [hcounted]
  rw [ha, hc, hforget]
  exact ⟨hattempts, hcounted⟩

theorem endEvent_count_of_held (before : State) {i : Item} (hcounted : s.link.counted = some i) (hheld : s.holdsItem i = true) :
    (endEvent before s).link.attempts = s.link.attempts ∧ (endEvent before s).link.counted = some i := by
  obtain ⟨ha, hc⟩ := endEvent_count before s
  have hforget : forgetCounted s = s := by
    unfold forgetCounted
    rw [hcounted]
    exact if_pos hheld
  rw [ha, hc, hforget]
  exact ⟨rfl, hcounted⟩

theorem lineQuiet_of_quiet (h : s.link.sending = none) : lineQuiet s = s.setLink { s.link with medium := .idle, wait := none } := by
  unfold lineQuiet
  rw [h]
  rfl

end

/-- Settles O34: a frame's start and end change the line alone. -/
theorem frameStartAndFrameEnd : Obligations.FrameStartAndFrameEnd := by
  intro s
  refine ⟨⟨_, event_eq_next hearFrameStart s, ?_⟩, fun hsending => ⟨_, event_eq_next lineQuiet s, ?_⟩⟩
  · refine ⟨by simp [hearFrameStart], ?_, by simp [hearFrameStart], by simp [hearFrameStart], by simp [hearFrameStart],
      by simp [hearFrameStart]⟩
    rw [endEvent_wait_of_busy _ rfl]
    rfl
  · rw [lineQuiet_of_quiet hsending]
    obtain ⟨u, hu⟩ : ∃ u, u = s.setLink { s.link with medium := .idle, wait := none } := ⟨_, rfl⟩
    rw [← hu]
    obtain ⟨hwait, hmedium, hsend, hmode, hmute, hlast, hown, hclass⟩ := beforeWait_frame s u
    have huclass : u.pendingClass = s.pendingClass := pendingClass_congr (by rw [hu]; rfl) (by rw [hu]; rfl) (by rw [hu]; rfl) (by rw [hu]; rfl)
    obtain ⟨hsilent, hpending⟩ := settleWait_of_quiet (s := beforeWait s u) (by rw [hwait, hu]; rfl) (by rw [hmedium, hu]; rfl)
      (by rw [hsend, hu]; exact hsending)
    rw [hmode, hmute] at hsilent hpending
    rw [hown, hlast, hclass, huclass] at hpending
    refine ⟨by simp [hu], by simp [hu], by simp [hu], by simp [hu], by simp [hu], ?_, ?_, pendingClass_of_quiet hsending⟩
    · rw [hu] at hsilent ⊢
      exact hsilent
    · rw [hu] at hpending ⊢
      exact hpending

/-! ### Aborted sends -/

section
variable {s : State} {x : Sending}

/-- The state in which an abort is counted: nothing is on the line, and the notice of a hold lifted meanwhile is gone (R31, R189). -/
def abortedState (x : Sending) (s : State) : State :=
  match x.item with
  | .notice n => noticeAborted n (s.setLink { s.link with sending := none })
  | _ => s.setLink { s.link with sending := none }

theorem abortSend_eq (h : s.link.sending = some x) :
    abortSend s = if (abortedState x s).holdsItem x.item then countFailure x (abortedState x s)
      else (abortedState x s).setLink { (abortedState x s).link with attempts := 0, counted := none } := by
  unfold abortSend
  rw [h]
  rfl

/-- An item that stays in its place, or was not there, leaves all but the line alone. -/
theorem abortedState_of_kept
    (h : ∀ n, x.item = .notice n → ∀ k, s.noticeOf n = some k → k.kind = .hold → s.ownHoldOfSerial k.serial ≠ none) :
    abortedState x s = s.setLink { s.link with sending := none } := by
  unfold abortedState
  cases hitem : x.item with
  | announce => rfl
  | queued n => rfl
  | notice n =>
    show noticeAborted n _ = _
    unfold noticeAborted
    split
    · rfl
    · next k hk =>
      split
      · next hkind hnone => exact absurd hnone (h n hitem k hk hkind)
      · rfl

theorem noticeOf_eq_none_iff {n : Nat} : s.noticeOf n = none ↔ s.holdsItem (.notice n) = false := by
  unfold State.noticeOf State.holdsItem
  rw [List.find?_eq_none, List.any_eq_false]

/-- A notice whose hold has been lifted meanwhile is removed (R31). -/
theorem abortedState_of_lifted {n : Nat} {k : Notice} (hitem : x.item = .notice n) (hk : s.noticeOf n = some k)
    (hkind : k.kind = .hold) (hnone : s.ownHoldOfSerial k.serial = none) :
    abortedState x s = removeNotice n (s.setLink { s.link with sending := none }) := by
  unfold abortedState
  rw [hitem]
  show noticeAborted n _ = _
  unfold noticeAborted
  rw [show (s.setLink { s.link with sending := none }).noticeOf n = some k from hk]
  dsimp only
  rw [hkind, show (s.setLink { s.link with sending := none }).ownHoldOfSerial k.serial = none from hnone]

/-- The state in which the 16th failed attempt raises the SEND hold (R190). -/
def droppedState (x : Sending) (s : State) : State :=
  dropItem x.item (s.setLink { s.link with sending := none, attempts := 0, counted := none })

theorem countFailure_aborted (hkept : abortedState x s = s.setLink { s.link with sending := none }) :
    countFailure x (abortedState x s) =
      if s.link.failures x.item < 16 then
        s.setLink { s.link with sending := none, attempts := s.link.failures x.item, counted := some x.item }
      else muteAfter x (raiseHold .send none none (droppedState x s)) := by
  rw [hkept]
  rfl

theorem droppedState_frame (x : Sending) (s : State) :
    (droppedState x s).link.medium = s.link.medium ∧ (droppedState x s).link.lastSender = s.link.lastSender ∧
      (droppedState x s).link.sending = none ∧ (droppedState x s).link.attempts = 0 ∧ (droppedState x s).link.counted = none ∧
      (droppedState x s).link.nextItem = s.link.nextItem := by
  unfold droppedState dropItem
  split <;> exact ⟨rfl, rfl, rfl, rfl, rfl, rfl⟩

theorem muteAfter_cases (x : Sending) (s : State) :
    muteAfter x s = s ∨ x.isDuplicateNotice = true ∧ s.link.mutePending = true ∧ muteAfter x s = enterMute s := by
  unfold muteAfter
  split
  · next h =>
    obtain ⟨hpending, hdup⟩ := Bool.and_eq_true_iff.1 h
    exact .inr ⟨hdup, hpending, rfl⟩
  · exact .inl rfl

theorem muteAfter_of_not_duplicate (h : x.isDuplicateNotice = false) : muteAfter x s = s := by
  unfold muteAfter
  rw [h, Bool.and_false]
  rfl

theorem isDuplicateNotice_item (h : x.isDuplicateNotice = true) : ∃ n, x.item = .notice n := by
  unfold Sending.isDuplicateNotice at h
  split at h
  · next hitem _ => exact ⟨_, hitem⟩
  · cases h

theorem not_duplicate_of_item (h : ∀ n, x.item ≠ .notice n) : x.isDuplicateNotice = false :=
  Bool.eq_false_of_not_eq_true fun hd => by
    obtain ⟨n, hn⟩ := isDuplicateNotice_item hd
    exact h n hn

/-- What a raise leaves of the notice list: notices that stood there, and one of a new number (R29, R33, R34). -/
theorem mem_raiseHold_notices {c : Cause} {i : Option Nat} {d : Option Detail} {y : Notice}
    (hy : y ∈ (raiseHold c i d s).holds.notices) : y ∈ s.holds.notices ∨ y.item = s.link.nextItem := by
  have happend : ∀ (v : State) serial replay, v.holds.notices = s.holds.notices → v.link = s.link →
      y ∈ (appendNotice .hold serial replay v).holds.notices → y ∈ s.holds.notices ∨ y.item = s.link.nextItem := by
    intro v serial replay hnotices hlink hv
    by_cases htakes : v.ballot.mode ≠ .start ∧ v.link.mute = false
    · rw [appendNotice_notices _ _ _ htakes.1 htakes.2, List.mem_append, List.mem_singleton] at hv
      rcases hv with hv | rfl
      · refine .inl ?_
        rw [← hnotices]
        unfold State.roomyNotices at hv
        split at hv
        · exact hv
        · exact List.mem_of_mem_eraseP hv
      · exact .inr (by rw [hlink])
    · rw [appendNotice_of_silent _ _ _ (by simpa [imp_iff_not_or] using htakes), hnotices] at hv
      exact .inl hv
  obtain ⟨-, h⟩ | ⟨x, -, -, h⟩ | ⟨x, -, -, h | h⟩ := raiseHold_cases c i d s <;> rw [h] at hy
  · obtain ⟨hnotices, -, hlink, -⟩ := addOwn_frame c i d s
    rw [leave_holds] at hy
    exact happend _ _ _ hnotices hlink hy
  · exact .inl hy
  · exact .inl hy
  · exact happend (changeDetail c i d s) _ _ rfl rfl hy

end

end Sys2Proof.Machine

/-! Aborted sends, duplicate frames and the switch's events taken (R31, R32, R131 to R137, R189 to R192). -/

namespace Sys2Proof.Machine

section
variable {s : State} {x : Sending}

/-! ### An item dropped -/

theorem mem_droppedState_notices {k : Nat} {y : Notice} (hitem : x.item = .notice k)
    (hy : y ∈ (droppedState x s).holds.notices) : y ∈ s.holds.notices ∧ y.item ≠ k := by
  unfold droppedState at hy
  rw [hitem] at hy
  obtain ⟨hmem, hne⟩ := List.mem_filter.1 hy
  exact ⟨hmem, of_decide_eq_true hne⟩

theorem mem_droppedState_queue {k : Nat} {q : QueueEntry} (hitem : x.item = .queued k)
    (hq : q ∈ (droppedState x s).link.queue) : q ∈ s.link.queue ∧ q.item ≠ k := by
  unfold droppedState at hq
  rw [hitem] at hq
  obtain ⟨hmem, hne⟩ := List.mem_filter.1 hq
  exact ⟨hmem, of_decide_eq_true hne⟩

theorem droppedState_announceFlag (hitem : x.item = .announce) : (droppedState x s).link.announceFlag = false := by
  unfold droppedState
  rw [hitem]
  rfl

/-- What entering MUTE after a send leaves of the rest of the link (R192). -/
theorem muteAfter_frame (x : Sending) (s : State) :
    (muteAfter x s).link.medium = s.link.medium ∧ (muteAfter x s).link.lastSender = s.link.lastSender ∧
      (muteAfter x s).link.sending = s.link.sending ∧ (muteAfter x s).holds.own = s.holds.own ∧
      (muteAfter x s).ballot = s.ballot ∧ (s.link.attempts = 0 → (muteAfter x s).link.attempts = 0) ∧
      (s.link.counted = none → (muteAfter x s).link.counted = none) ∧
      (∀ y ∈ (muteAfter x s).holds.notices, y ∈ s.holds.notices) ∧ ∀ q ∈ (muteAfter x s).link.queue, q ∈ s.link.queue := by
  obtain h | ⟨-, -, h⟩ := muteAfter_cases x s
  · rw [h]
    exact ⟨rfl, rfl, rfl, rfl, rfl, id, id, fun _ => id, fun _ => id⟩
  · rw [h]
    exact ⟨rfl, rfl, rfl, rfl, rfl, fun _ => rfl, fun _ => rfl, nofun, nofun⟩

/-- The state that the 16th failed attempt leaves (R190). -/
def givenUp (x : Sending) (s : State) : State := muteAfter x (raiseHold .send none none (droppedState x s))

theorem givenUp_frame (x : Sending) (s : State) :
    (givenUp x s).link.medium = s.link.medium ∧ (givenUp x s).link.lastSender = s.link.lastSender ∧
      (givenUp x s).link.sending = none ∧ (givenUp x s).link.attempts = 0 ∧ (givenUp x s).link.counted = none ∧
      (givenUp x s).stands .send = true := by
  obtain ⟨hmedium, hlast, hsending, hattempts, hcounted, -⟩ := droppedState_frame x s
  obtain ⟨hm, hl, hs, hown, -, ha, hc, -⟩ := muteAfter_frame x (raiseHold .send none none (droppedState x s))
  refine ⟨hm.trans (by simpa using hmedium), hl.trans (by simpa using hlast), hs.trans (by simpa using hsending),
    ha (by simpa using hattempts), hc (by simpa using hcounted), ?_⟩
  exact (stands_congr hown).trans (raiseHold_stands_self ..)

theorem mem_givenUp_queue {k : Nat} (hitem : x.item = .queued k) {q : QueueEntry} (hq : q ∈ (givenUp x s).link.queue) :
    q ∈ s.link.queue ∧ q.item ≠ k ∨ ∃ b, q.claim = .withdraw b := by
  obtain ⟨-, -, -, -, -, -, -, -, hqueue⟩ := muteAfter_frame x (raiseHold .send none none (droppedState x s))
  exact (raiseHold_onlyWithdraws _ _ _ _ q (hqueue q hq)).imp_left (mem_droppedState_queue hitem)

theorem mem_givenUp_notices {k : Nat} (hitem : x.item = .notice k) {y : Notice} (hy : y ∈ (givenUp x s).holds.notices) :
    y.item ≠ k ∧ (∃ z ∈ s.holds.notices, z.item = y.item) ∨ y.item = s.link.nextItem := by
  obtain ⟨-, -, -, -, -, -, -, hnotices, -⟩ := muteAfter_frame x (raiseHold .send none none (droppedState x s))
  obtain ⟨-, -, -, -, -, hnext⟩ := droppedState_frame x s
  rcases mem_raiseHold_notices (hnotices y hy) with h | h
  · obtain ⟨hmem, hne⟩ := mem_droppedState_notices hitem h
    exact .inl ⟨hne, y, hmem, rfl⟩
  · exact .inr (h.trans hnext)

theorem givenUp_announceFlag (hitem : x.item = .announce) : (givenUp x s).link.announceFlag = false := by
  unfold givenUp
  rw [muteAfter_of_not_duplicate (not_duplicate_of_item fun n => by rw [hitem]; nofun)]
  simpa using droppedState_announceFlag hitem

theorem holdsItem_of_line {l : LinkController} (hflag : l.announceFlag = s.link.announceFlag) (hqueue : l.queue = s.link.queue)
    (i : Item) : (s.setLink l).holdsItem i = s.holdsItem i := by
  unfold State.holdsItem
  cases i <;> simp [hflag, hqueue]

theorem abortedState_frame (x : Sending) (s : State) :
    (abortedState x s).link = { s.link with sending := none } ∧ (abortedState x s).holds.own = s.holds.own := by
  unfold abortedState
  split
  · unfold noticeAborted
    split
    · exact ⟨rfl, rfl⟩
    · split <;> exact ⟨rfl, rfl⟩
  · exact ⟨rfl, rfl⟩

end

/-- Settles O38, by the item's place and its count. -/
theorem sendAbortCounts : Obligations.SendAbortCounts := by
  intro s x hx
  refine ⟨_, event_eq_next abortSend s, ?_⟩
  obtain ⟨haborted, hown⟩ := abortedState_frame x s
  have hgone : (abortedState x s).holdsItem x.item = false →
      abortSend s = (abortedState x s).setLink { s.link with sending := none, attempts := 0, counted := none } := by
    intro h
    rw [abortSend_eq hx, h, haborted]
    rfl
  have hkeptState : (∀ n, x.item = .notice n → ∀ k, s.noticeOf n = some k → k.kind = .hold → s.ownHoldOfSerial k.serial ≠ none) →
      (abortedState x s).holdsItem x.item = s.holdsItem x.item := fun h => by
    rw [abortedState_of_kept h]
    exact holdsItem_of_line rfl rfl _
  have hheld : s.holdsItem x.item = true →
      (∀ n, x.item = .notice n → ∀ k, s.noticeOf n = some k → k.kind = .hold → s.ownHoldOfSerial k.serial ≠ none) →
        abortSend s = if s.link.failures x.item < 16 then
          s.setLink { s.link with sending := none, attempts := s.link.failures x.item, counted := some x.item }
        else givenUp x s := fun hi h => by
    rw [abortSend_eq hx, hkeptState h, hi, if_pos rfl, countFailure_aborted (abortedState_of_kept h)]
    rfl
  have hline : (abortSend s).link.sending = none ∧ (abortSend s).link.medium = s.link.medium ∧
      (abortSend s).link.lastSender = s.link.lastSender := by
    cases hi : (abortedState x s).holdsItem x.item with
    | false => rw [hgone hi]; exact ⟨rfl, rfl, rfl⟩
    | true =>
      by_cases hlifted : ∀ n, x.item = .notice n → ∀ k, s.noticeOf n = some k → k.kind = .hold → s.ownHoldOfSerial k.serial ≠ none
      · rw [hheld ((hkeptState hlifted).symm.trans hi) hlifted]
        split
        · exact ⟨rfl, rfl, rfl⟩
        · obtain ⟨hmedium, hlast, hsending, -⟩ := givenUp_frame x s
          exact ⟨hsending, hmedium, hlast⟩
      · push Not at hlifted
        obtain ⟨n, hitem, k, hk, hkind, hnone⟩ := hlifted
        rw [abortedState_of_lifted hitem hk hkind hnone, hitem] at hi
        simp [State.holdsItem, removeNotice] at hi
  obtain ⟨hsending, hmedium, hlast⟩ := hline
  refine ⟨by simpa using hsending, by simpa using hmedium, by simpa using hlast, fun hi => ?_, fun n hitem k hk hkind hnone => ?_,
    fun hi hlifted => ?_⟩
  · have hlifted : ∀ n, x.item = .notice n → ∀ k, s.noticeOf n = some k → k.kind = .hold → s.ownHoldOfSerial k.serial ≠ none := by
      intro n hitem k hk
      rw [hitem, ← noticeOf_eq_none_iff, hk] at hi
      cases hi
    rw [hgone ((hkeptState hlifted).trans hi), abortedState_of_kept hlifted]
    obtain ⟨ha, hc⟩ := endEvent_count_of_none (s := s.setLink { s.link with sending := none, attempts := 0, counted := none }) s rfl rfl
    exact ⟨ha, hc, by simp, by simp⟩
  · have hgone' := hgone (by
      rw [abortedState_of_lifted hitem hk hkind hnone, hitem]
      simp [State.holdsItem, removeNotice])
    rw [hgone', abortedState_of_lifted hitem hk hkind hnone]
    obtain ⟨ha, hc⟩ := endEvent_count_of_none
      (s := (removeNotice n (s.setLink { s.link with sending := none })).setLink
        { s.link with sending := none, attempts := 0, counted := none }) s rfl rfl
    exact ⟨by simp [removeNotice], by simp [removeNotice], ha, hc⟩
  · intro n
    rw [hheld hi hlifted]
    have hn : s.link.failures x.item = n := rfl
    rw [hn]
    refine ⟨fun hlt => ?_, fun hge => ?_⟩
    · rw [if_pos hlt]
      obtain ⟨ha, hc⟩ := endEvent_count_of_held (s := s.setLink { s.link with sending := none, attempts := n, counted := some x.item }) s rfl
        ((holdsItem_of_line (l := { s.link with sending := none, attempts := n, counted := some x.item }) rfl rfl x.item).trans hi)
      exact ⟨ha, hc, by simp, by simp, by simp⟩
    · rw [if_neg (not_lt.2 hge)]
      obtain ⟨-, -, -, hattempts, hcounted, hstands⟩ := givenUp_frame x s
      obtain ⟨ha, hc⟩ := endEvent_count_of_none s hcounted hattempts
      refine ⟨ha, hc, (stands_congr (by simp)).trans hstands, fun hitem => ?_, fun k hitem y hy => ?_, fun k hitem q hq => ?_⟩
      · simpa using givenUp_announceFlag hitem
      · rw [endEvent_holds] at hy
        exact mem_givenUp_notices hitem hy
      · rw [endEvent_link_queue] at hq
        exact mem_givenUp_queue hitem hq

/-! ### Duplicate frames -/

section
variable {s : State}

theorem stands_eq_false_iff {c : Cause} : s.stands c = false ↔ s.ownHold c none = none := by
  unfold State.stands
  rw [Option.isSome_eq_false_iff, Option.isNone_iff_eq_none]

theorem duplicate_of_standing (h : s.stands .duplicate = true) : duplicate s = s := if_pos h

theorem duplicate_of_new (h : s.stands .duplicate = false) :
    duplicate s = match (raiseHold .duplicate none none s).duplicateNotice with
      | some n => (moveToHead n (raiseHold .duplicate none none s)).setLink
          { (raiseHold .duplicate none none s).link with mutePending := true }
      | none => enterMute (raiseHold .duplicate none none s) := by
  unfold duplicate
  rw [if_neg (by simp [h])]
  rfl

/-- The notice by which a hold is announced is one of its own (R34). -/
theorem holdNotice_spec {serial : Byte} {n : Notice} (h : s.holdNotice serial = some n) : n.kind = .hold ∧ n.serial = serial := by
  unfold State.holdNotice at h
  split at h
  · next m hm =>
    cases h
    have hfound := List.find?_some hm
    simp only [Bool.and_eq_true, decide_eq_true_eq] at hfound
    exact hfound.1
  · exact of_decide_eq_true (List.find?_some (p := fun n : Notice => decide (n.kind = .hold ∧ n.serial = serial)) h)

theorem holdNotice_ne_none {serial : Byte} {n : Notice} (hn : n ∈ s.holds.notices) (hkind : n.kind = .hold)
    (hserial : n.serial = serial) : s.holdNotice serial ≠ none := by
  intro h
  unfold State.holdNotice at h
  split at h
  · cases h
  · exact List.find?_eq_none.1 h n hn (decide_eq_true ⟨hkind, hserial⟩)

/-- With nothing on the line a notice moved to the head comes first (R32). -/
theorem moveToHead_head (n : Notice) (h : s.link.sending = none) : (moveToHead n s).holds.notices.head? = some n := by
  unfold moveToHead
  simp only [onLine_of_quiet h]
  cases s.holds.notices.filter fun x => decide (x.item ≠ n.item) <;> rfl

theorem raiseHold_link_sending_eq (c : Cause) (i : Option Nat) (d : Option Detail) (s : State) :
    (raiseHold c i d s).link.sending = s.link.sending := by simp

/-- A raise past START on a station that may speak leaves a notice of its hold (R33 step 3). -/
theorem raiseHold_new_notice {c : Cause} {i : Option Nat} (d : Option Detail) (hnew : s.ownHold c i = none)
    (hmode : s.ballot.mode ≠ .start) (hmute : s.link.mute = false) :
    ∃ h n, (raiseHold c i d s).ownHold c i = some h ∧ (raiseHold c i d s).holdNotice h.serial = some n := by
  obtain ⟨hnotices, -, hlink, hm⟩ := addOwn_frame c i d s
  have hfound : (raiseHold c i d s).ownHold c i = some ⟨s.holds.allocate, c, i, d, s.now⟩ := by
    unfold State.ownHold at hnew ⊢
    rw [raiseHold_own_of_new d hnew, List.find?_append, hnew]
    simp
  refine ⟨⟨s.holds.allocate, c, i, d, s.now⟩, ?_⟩
  have hne : (raiseHold c i d s).holdNotice s.holds.allocate ≠ none := by
    refine holdNotice_ne_none (n := ⟨s.link.nextItem, .hold, s.holds.allocate, false⟩) ?_ rfl rfl
    rw [raiseHold_of_new d hnew, leave_holds, appendNotice_notices _ _ _ (by rwa [hm]) (by rwa [hlink]), hlink]
    exact List.mem_append_right _ (List.mem_singleton.2 rfl)
  obtain ⟨n, hn⟩ := Option.ne_none_iff_exists'.1 hne
  exact ⟨n, hfound, hn⟩

/-- A duplicate frame leaves its hold standing, and the line as it was (R191). -/
theorem duplicate_frame (s : State) :
    (duplicate s).stands .duplicate = true ∧ (duplicate s).link.lastSender = s.link.lastSender ∧
      (duplicate s).link.medium = s.link.medium := by
  cases hstands : s.stands .duplicate with
  | true => rw [duplicate_of_standing hstands]; exact ⟨hstands, rfl, rfl⟩
  | false =>
    have hraised := raiseHold_stands_self .duplicate none s
    rw [duplicate_of_new hstands]
    split
    · exact ⟨hraised, by simp, by simp⟩
    · exact ⟨hraised, by simp [enterMute], by simp [enterMute]⟩

end

/-- Settles O39, by the DUPLICATE hold and the mode. -/
theorem duplicateFrameTaken : Obligations.DuplicateFrameTaken := by
  intro s haddressed hsending
  obtain ⟨u, hu⟩ : ∃ u, u = setLastSender s.own (lineQuiet s) := ⟨_, rfl⟩
  have htaken : takeDuplicate s = duplicate u := by
    unfold takeDuplicate ownAddressHeard
    rw [if_pos haddressed, if_neg (by simp [hsending]), hu]
  have hline : u = s.setLink { s.link with medium := .idle, wait := none, lastSender := s.own } := by
    rw [hu, lineQuiet_of_quiet hsending]
    rfl
  obtain ⟨hstands, hlast, hmedium⟩ := duplicate_frame u
  have husending : u.link.sending = none := by rw [hline]; exact hsending
  refine ⟨_, event_eq_next takeDuplicate s, ?_⟩
  rw [htaken]
  refine ⟨?_, ?_, (stands_congr (by simp)).trans hstands, fun hold => ?_,
    fun hnew hmode hmute => ?_, fun hnew hmode hnone => ?_⟩
  · rw [endEvent_link_lastSender, hlast, hline]
    rfl
  · rw [endEvent_link_medium, hmedium, hline]
    rfl
  · rw [duplicate_of_standing (by rw [hline]; exact hold)]
    exact ⟨by simp [hline], by simp [hline], by simp [hline]⟩
  · have hnew' : u.ownHold .duplicate none = none := by rw [hline]; exact stands_eq_false_iff.1 hnew
    obtain ⟨h, n, hh, hn⟩ := raiseHold_new_notice none hnew' (by rw [hline]; exact hmode) (by rw [hline]; exact hmute)
    have hnotice : (raiseHold .duplicate none none u).duplicateNotice = some n := by
      unfold State.duplicateNotice
      rw [hh]
      exact hn
    obtain ⟨hkind, hserial⟩ := holdNotice_spec hn
    have hraised : (raiseHold .duplicate none none u).ballot.mode ≠ .pledged ∧ (raiseHold .duplicate none none u).ballot.mode ≠ .closed := by
      rw [raiseHold_of_new none hnew']
      exact ⟨leave_not_pledged _, leave_not_closed _⟩
    rw [duplicate_of_new (stands_eq_false_iff.2 hnew'), hnotice]
    refine ⟨by simp, by simp [hline, hmute], by simpa using hraised.1, by simpa using hraised.2, n, ?_, hkind, h, ?_, hserial.symm⟩
    · rw [endEvent_holds]
      exact moveToHead_head n (by simpa using husending)
    · rw [← hh]
      exact ownHold_congr (by rw [endEvent_holds]; rfl) _ _
  · have hnew' : u.ownHold .duplicate none = none := by rw [hline]; exact stands_eq_false_iff.1 hnew
    have hnotices : (raiseHold .duplicate none none u).holds.notices = [] := by
      obtain ⟨hkept, -, hlink, hm⟩ := addOwn_frame .duplicate none none u
      rw [raiseHold_of_new none hnew', leave_holds, appendNotice_of_silent _ _ _ (.inl (by rw [hm, hline]; exact hmode)), hkept, hline]
      exact hnone
    have hnotice : (raiseHold .duplicate none none u).duplicateNotice = none := by
      unfold State.duplicateNotice State.holdNotice
      cases (raiseHold .duplicate none none u).ownHold .duplicate none with
      | none => rfl
      | some h => simp [hnotices]
    rw [duplicate_of_new (stands_eq_false_iff.2 hnew'), hnotice]
    simp [enterMute]

/-! ### The switch's events -/

section
variable {s : State}

/-- A raise leaves the records of other keys (R33, R34). -/
theorem raiseHold_ownHold_of_ne {c e : Cause} {i j : Option Nat} (d : Option Detail) (s : State) (h : (e, j) ≠ (c, i)) :
    (raiseHold c i d s).ownHold e j = s.ownHold e j := by
  cases hx : s.ownHold c i with
  | none =>
    unfold State.ownHold at hx ⊢
    rw [raiseHold_own_of_new d hx, List.find?_append]
    have hnot : decide (c = e ∧ i = j) = false := decide_eq_false fun hk => h (by rw [hk.1, hk.2])
    rw [List.find?_singleton, if_neg (by simpa using hnot), Option.or_none]
  | some x =>
    by_cases hd : x.detail = d
    · rw [← hd, raiseHold_of_same hx]
    · rw [ownHold_congr ((raiseHold_own_of_standing d hx hd).trans (changeDetail_own c i d s).symm), changeDetail_ownHold]
      cases hy : s.ownHold e j with
      | none => rfl
      | some y =>
        obtain ⟨-, hyc, hyi⟩ := ownHold_spec hy
        rw [Option.map_some, if_neg]
        rintro ⟨rfl, rfl⟩
        exact h (by rw [hyc, hyi])

theorem escalate_ownHold_of_ne (e : Escalation) (s : State) {c : Cause} (h : c ≠ .lockout) (i : Option Nat) :
    (escalate e s).ownHold c i = s.ownHold c i := by
  cases hstate : s.lockout.record.state with
  | none =>
    rw [escalate_of_none e hstate, ownHold_congr (congrArg HoldUnit.own (beginLockout_holds e s))]
    exact raiseHold_ownHold_of_ne _ _ fun hk => h (congrArg Prod.fst hk)
  | active =>
    by_cases hrelease : ∃ n x, s.lockout.inFlight = some (.release n x)
    · obtain ⟨n, x, hw⟩ := hrelease
      rw [escalate_of_release e hstate hw]
      split <;> rfl
    · rw [escalate_of_active e hstate fun n x hw => hrelease ⟨n, x, hw⟩]

theorem escalate_record_of_active (e : Escalation) (h : s.lockout.record.state = .active) :
    (escalate e s).lockout.record = s.lockout.record := by
  by_cases hrelease : ∃ n x, s.lockout.inFlight = some (.release n x)
  · obtain ⟨n, x, hw⟩ := hrelease
    rw [escalate_of_release e h hw]
    split <;> rfl
  · rw [escalate_of_active e h fun n x hw => hrelease ⟨n, x, hw⟩]

theorem raiseHold_new_open {c : Cause} {i : Option Nat} (d : Option Detail) (h : s.ownHold c i = none) :
    (raiseHold c i d s).ballot.mode ≠ .pledged ∧ (raiseHold c i d s).ballot.mode ≠ .closed := by
  rw [raiseHold_of_new d h]
  exact ⟨leave_not_pledged _, leave_not_closed _⟩

/-- The switch as its check's expiry finds it: the check is stopped. -/
def checkStopped (s : State) : State := s.setSwitch { s.switch with check := none }

theorem expireCheck_of_check {k : SettleCheck} (h : s.switch.check = some k) :
    expireCheck s = judgeSwitch k.cause (checkStopped s) := by
  unfold expireCheck
  rw [h]
  rfl

theorem judgeSwitch_of_agreement (cause : CheckCause) (h : s.switch.command = s.switch.feedback) : judgeSwitch cause s = s := by
  unfold judgeSwitch
  rw [h]
  cases s.switch.feedback <;> rfl

theorem judgeSwitch_of_open (cause : CheckCause) (hcommand : s.switch.command = .closed) (hfeedback : s.switch.feedback = .opened) :
    judgeSwitch cause s =
      raiseHold .switch none (some (.switch (if cause = .command then .noClose else .dropped))) s := by
  unfold judgeSwitch
  rw [hcommand, hfeedback]
  cases cause <;> rfl

theorem judgeSwitch_of_weld (cause : CheckCause) (hcommand : s.switch.command = .opened) (hfeedback : s.switch.feedback = .closed) :
    judgeSwitch cause s = escalate ⟨.welded, none⟩ (raiseHold .switch none (some (.switch .welded)) s) := by
  unfold judgeSwitch
  rw [hcommand, hfeedback]

theorem changeFeedback_switch {l : SwitchPos} (haddressed : s.addressed = true) (hne : l ≠ s.switch.feedback) :
    changeFeedback l s =
      startFeedbackCheck ((s.setPins { s.pins with feedback := l }).setSwitch { s.switch with feedback := l }) := by
  have hchange : (s.addressed && decide (l ≠ s.switch.feedback)) = true := by simp [haddressed, hne]
  unfold changeFeedback
  exact if_pos hchange

end

/-- Settles O31, by what command and feedback say. -/
theorem switchEventsJudgeSwitch : Obligations.SwitchEventsJudgeSwitch := by
  intro s
  refine ⟨fun l haddressed hne => ⟨_, event_eq_next (changeFeedback l) s, ?_⟩, fun k hk =>
    ⟨_, event_eq_next expireCheck s, ?_⟩⟩
  · rw [changeFeedback_switch haddressed hne]
    refine ⟨by simp [startFeedbackCheck], by simp [startFeedbackCheck], fun hcheck => ?_, fun c n left hcheck => ?_,
      by simp, by simp⟩
    · simp [startFeedbackCheck, State.checkTimer, hcheck]
    · simp [startFeedbackCheck, State.checkTimer, hcheck]
  · rw [expireCheck_of_check hk]
    refine ⟨fun hagree => ?_, fun hcommand hfeedback => ?_, fun hcommand hfeedback => ?_⟩
    · rw [judgeSwitch_of_agreement (s := checkStopped s) _ hagree]
      exact ⟨by simp [checkStopped], by simp [checkStopped], by simp [checkStopped], by simp [checkStopped]⟩
    · rw [judgeSwitch_of_open (s := checkStopped s) _ hcommand hfeedback]
      obtain ⟨h, hh, hd⟩ := raiseHold_ownHold_self .switch none
        (some (.switch (if k.cause = .command then .noClose else .dropped))) (checkStopped s)
      refine ⟨⟨h, (ownHold_congr (by rw [endEvent_holds]) _ _).trans hh, hd⟩, by simp [checkStopped], fun hnew => ?_⟩
      simpa using raiseHold_new_open (s := checkStopped s) _ hnew
    · rw [judgeSwitch_of_weld (s := checkStopped s) _ hcommand hfeedback]
      obtain ⟨v, hv⟩ : ∃ v, v = raiseHold .switch none (some (.switch .welded)) (checkStopped s) := ⟨_, rfl⟩
      obtain ⟨h, hh, hd⟩ := raiseHold_ownHold_self .switch none (some (.switch .welded)) (checkStopped s)
      rw [← hv] at hh ⊢
      have hlockout : v.lockout = s.lockout := by rw [hv]; simp [checkStopped]
      refine ⟨⟨h, ?_, hd⟩, fun hnone => ?_, fun hactive => ?_⟩
      · rw [ownHold_congr (s := escalate ⟨.welded, none⟩ v) (by rw [endEvent_holds]), escalate_ownHold_of_ne _ _ (by decide)]
        exact hh
      · rw [endEvent_lockout, stands_congr (t := endEvent s (escalate ⟨.welded, none⟩ v)) (s := escalate ⟨.welded, none⟩ v)
          (by rw [endEvent_holds]), escalate_of_none _ (by rw [hlockout]; exact hnone)]
        obtain ⟨hstate, hcause, hindex, -, -⟩ := beginLockout_record ⟨.welded, none⟩ v
        obtain ⟨g, hg, -⟩ := beginLockout_ownHold ⟨.welded, none⟩ v
        exact ⟨hstate, hcause, hindex, stands_of_ownHold hg⟩
      · rw [endEvent_lockout, escalate_record_of_active _ (by rw [hlockout]; exact hactive), hlockout]

end Sys2Proof.Machine

/-! A successful send and what its owner takes of it (R18, R31, R63, R188, R192). -/

namespace Sys2Proof.Machine

/-- From s to t the line did not change: its medium, the last sender, what is on it, the count, and whether MUTE is pending. -/
def SameLine (s t : State) : Prop :=
  t.link.medium = s.link.medium ∧ t.link.lastSender = s.link.lastSender ∧ t.link.attempts = s.link.attempts ∧
    t.link.counted = s.link.counted ∧ t.link.sending = s.link.sending ∧ t.link.mutePending = s.link.mutePending

section
variable {s t u : State} {x : Sending}

theorem SameLine.of_link (h : t.link = s.link) : SameLine s t := by
  unfold SameLine
  simp [h]

theorem SameLine.trans (h : SameLine s t) (h' : SameLine t u) : SameLine s u := by
  obtain ⟨h1, h2, h3, h4, h5, h6⟩ := h
  obtain ⟨h1', h2', h3', h4', h5', h6'⟩ := h'
  exact ⟨h1'.trans h1, h2'.trans h2, h3'.trans h3, h4'.trans h4, h5'.trans h5, h6'.trans h6⟩

theorem leave_sameLine (s : State) : SameLine s (leave s) := by
  unfold SameLine
  simp

theorem enterClosed_sameLine (s : State) : SameLine s (enterClosed s) := by
  by_cases hholds : s.holds.own = [] ∧ s.holds.remote = []
  · rw [enterClosed_of_no_hold hholds.1 hholds.2]
    exact .of_link (by simp [closingState])
  · rw [enterClosed_of_hold (by tauto)]
    exact leave_sameLine s

theorem confirmOffer_sameLine (a : Nat) (m : Mode) (b : Ballot) (s : State) : SameLine s (confirmOffer a m b s) := by
  unfold confirmOffer
  split
  · split
    · exact .of_link (by simp)
    · exact .of_link rfl
    · exact leave_sameLine s
  · exact .of_link rfl

/-! ### The owner's part -/

/-- The state in which the own TALLY's send reaches the plan (R18). -/
def tallyShown (x : Summary) (s : State) : State :=
  let u := s.updateEntry s.own fun e => { e with summary := some x }
  if u.isMember u.own then confirmOffer u.own x.mode x.ballot u else u

theorem ownTallySent_eq (x : Summary) (s : State) :
    ownTallySent x s = tallyPlanPoint x.advertisedDemand (tallyShown x s) := rfl

theorem tallyShown_sameLine (x : Summary) (s : State) : SameLine s (tallyShown x s) := by
  unfold tallyShown
  dsimp only
  split
  · exact SameLine.trans (.of_link (by simp)) (confirmOffer_sameLine _ _ _ _)
  · exact .of_link (by simp)

theorem tallyShown_onlyWithdraws (x : Summary) (s : State) : OnlyWithdraws s (tallyShown x s) := by
  unfold tallyShown
  dsimp only
  split
  · exact OnlyWithdraws.trans (.of_queue (by simp)) (confirmOffer_onlyWithdraws _ _ _ _)
  · exact .of_queue (by simp)

theorem frameSent_sameLine (b : Body) (s : State) : SameLine s (frameSent b s) := by
  unfold frameSent
  split
  · rw [ownTallySent_eq]
    exact (tallyShown_sameLine _ s).trans (.of_link (tallyPlanPoint_link ..))
  · unfold ownCommitSent
    split
    · exact enterClosed_sameLine s
    · exact .of_link rfl
  · exact .of_link rfl

theorem frameSent_onlyWithdraws (b : Body) (s : State) : OnlyWithdraws s (frameSent b s) := by
  unfold frameSent
  split
  · rw [ownTallySent_eq]
    exact (tallyShown_onlyWithdraws _ s).trans (.of_queue (by rw [tallyPlanPoint_link]))
  · unfold ownCommitSent
    split
    · exact enterClosed_onlyWithdraws s
    · exact .of_queue rfl
  · exact .of_queue rfl

theorem noticeSent_link (n : Nat) (b : Body) (s : State) : (noticeSent n b s).link = s.link := by
  unfold noticeSent
  split
  · rfl
  · split
    · split
      · simp
      · rfl
    · simp

theorem itemSent_sameLine (x : Sending) (s : State) : SameLine s (itemSent x s) := by
  unfold itemSent
  split
  · exact ⟨rfl, rfl, rfl, rfl, rfl, rfl⟩
  · exact .of_link (noticeSent_link _ _ _)
  · exact SameLine.trans ⟨rfl, rfl, rfl, rfl, rfl, rfl⟩ (frameSent_sameLine _ _)

/-- A notice sent of a lift, of a hold lifted meanwhile, or of a hold as it stands, leaves the list (R31). -/
theorem noticeSent_notices_of_done {n : Nat} {b : Body} {k : Notice} (hk : s.noticeOf n = some k)
    (h : k.kind = .lift ∨ s.ownHoldOfSerial k.serial = none ∨ ∃ g, s.ownHoldOfSerial k.serial = some g ∧ g.detail = b.detail) :
    (noticeSent n b s).holds.notices = s.holds.notices.filter fun y => decide (y.item ≠ n) := by
  unfold noticeSent
  rw [hk]
  dsimp only
  split
  · next g hkind hg =>
    have hsame : g.detail = b.detail := by
      rcases h with h | h | ⟨g', hg', hd⟩
      · cases hkind.symm.trans h
      · cases h.symm.trans hg
      · cases hg.symm.trans hg'
        exact hd
    rw [if_pos hsame]
    rfl
  · rfl

/-- A notice sent of a hold that took another detail stays, to be sent again (R31). -/
theorem noticeSent_notices_of_other {n : Nat} {b : Body} {k : Notice} {g : OwnHold} (hk : s.noticeOf n = some k)
    (hkind : k.kind = .hold) (hg : s.ownHoldOfSerial k.serial = some g) (hd : g.detail ≠ b.detail) :
    (noticeSent n b s).holds.notices = s.holds.notices.map fun y => if y.item = n then { y with replay := true } else y := by
  unfold noticeSent
  rw [hk]
  dsimp only
  rw [hkind, hg]
  dsimp only
  rw [if_neg hd]
  rfl

/-- A lift of a hold that does not stand does nothing (R35). -/
theorem liftHold_of_absent {c : Cause} {i : Option Nat} (h : s.ownHold c i = none) : liftHold c i s = s := by
  unfold liftHold
  rw [h]

theorem noticeSent_own (n : Nat) (b : Body) (s : State) : (noticeSent n b s).holds.own = s.holds.own := by
  unfold noticeSent
  split
  · rfl
  · split
    · split
      · simp
      · rfl
    · simp

end

section
variable {s : State} {x : Sending}

/-- What a successful send leaves of the line and of the SEND hold (R188). -/
theorem sendSettled_line (x : Sending) (s : State) :
    (sendSettled x s).link.lastSender = s.own ∧ (sendSettled x s).link.medium = .idle ∧ (sendSettled x s).link.attempts = 0 ∧
      (sendSettled x s).link.counted = none ∧ (sendSettled x s).link.sending = none ∧ (sendSettled x s).stands .send = false := by
  obtain ⟨hm, hl, ha, hc, hs, -⟩ := itemSent_sameLine x (lineCleared s)
  obtain ⟨hm', hl', hs', hown, -, ha', hc', -⟩ := muteAfter_frame x (liftHold .send none (itemSent x (lineCleared s)))
  simp only [liftHold_link_medium, liftHold_link_lastSender, liftHold_link_sending, liftHold_link_attempts,
    liftHold_link_counted] at hm' hl' hs' ha' hc'
  refine ⟨hl'.trans hl, hm'.trans hm, ha' ha, hc' hc, hs'.trans hs, ?_⟩
  exact (stands_congr hown).trans (liftHold_stands_self _ _)

theorem sendSettled_of_not_duplicate (h : x.isDuplicateNotice = false) :
    sendSettled x s = liftHold .send none (itemSent x (lineCleared s)) :=
  muteAfter_of_not_duplicate h

theorem sendSettled_announceFlag (h : x.item = .announce) : (sendSettled x s).link.announceFlag = false := by
  rw [sendSettled_of_not_duplicate (not_duplicate_of_item fun n => by rw [h]; nofun), liftHold_link_announceFlag]
  unfold itemSent
  rw [h]
  rfl

/-- A sent notice is its owner's alone when no SEND hold stood. -/
theorem sendSettled_notices {n : Nat} (hitem : x.item = .notice n) (hstands : s.stands .send = false)
    (hdup : x.isDuplicateNotice = false) :
    (sendSettled x s).holds.notices = (noticeSent n x.body (lineCleared s)).holds.notices := by
  have hsent : itemSent x (lineCleared s) = noticeSent n x.body (lineCleared s) := by
    unfold itemSent
    rw [hitem]
  have hnone : (itemSent x (lineCleared s)).ownHold .send none = none := by
    rw [hsent, ownHold_congr (noticeSent_own _ _ _)]
    exact stands_eq_false_iff.1 hstands
  rw [sendSettled_of_not_duplicate hdup, liftHold_of_absent hnone, hsent]

theorem mem_sendSettled_queue {n : Nat} (hitem : x.item = .queued n) {q : QueueEntry} (hq : q ∈ (sendSettled x s).link.queue) :
    q ∈ s.link.queue ∧ q.item ≠ n ∨ ∃ b, q.claim = .withdraw b := by
  rw [sendSettled_of_not_duplicate (not_duplicate_of_item fun n => by rw [hitem]; nofun), liftHold_link_queue] at hq
  have hsent : itemSent x (lineCleared s) = frameSent x.body (removeQueued n (lineCleared s)) := by
    unfold itemSent
    rw [hitem]
  rw [hsent] at hq
  refine (frameSent_onlyWithdraws _ _ q hq).imp_left fun hq => ?_
  obtain ⟨hmem, hne⟩ := List.mem_filter.1 hq
  exact ⟨hmem, of_decide_eq_true hne⟩

/-- A sent COMMIT closes its proposer when no hold stands (R63). -/
theorem sendSettled_of_commit {n : Nat} {b : Ballot} (hitem : x.item = .queued n) (hbody : x.body = .commit b)
    (hpledged : s.isPledged .proposer b = true) :
    sendSettled x s = liftHold .send none (enterClosed (removeQueued n (lineCleared s))) := by
  rw [sendSettled_of_not_duplicate (not_duplicate_of_item fun n => by rw [hitem]; nofun)]
  have hsent : itemSent x (lineCleared s) = ownCommitSent b (removeQueued n (lineCleared s)) := by
    unfold itemSent frameSent
    rw [hitem, hbody]
  rw [hsent]
  congr 1
  exact if_pos hpledged

/-- The DUPLICATE hold's notice brings MUTE when MUTE is pending (R192). -/
theorem sendSettled_of_duplicate (hdup : x.isDuplicateNotice = true) (hpending : s.link.mutePending = true) :
    sendSettled x s = enterMute (liftHold .send none (itemSent x (lineCleared s))) := by
  obtain ⟨-, -, -, -, -, hmute⟩ := itemSent_sameLine x (lineCleared s)
  refine if_pos ?_
  rw [liftHold_link_mutePending, hmute, hdup, Bool.and_true]
  exact hpending

end

/-- Settles O36, by the sent item's owner. -/
theorem sendCompletionTaken : Obligations.SendCompletionTaken := by
  intro s x hx hrestart
  have hsettled : completeSend s = sendSettled x s := by
    rw [completeSend_of_sending hx, hrestart]
    rfl
  refine ⟨_, event_eq_next completeSend s, ?_⟩
  rw [hsettled]
  obtain ⟨hlast, hmedium, hattempts, hcounted, hsending, hstands⟩ := sendSettled_line x s
  obtain ⟨ha, hc⟩ := endEvent_count_of_none s hcounted hattempts
  refine ⟨by simpa using hlast, by simpa using hmedium, ha, hc, by simpa using hsending, (stands_congr (by simp)).trans hstands,
    fun hitem => by simpa using sendSettled_announceFlag hitem, fun n hitem k hk hno hdup => ?_, fun n hitem q hq => ?_,
    fun n hitem b hbody hpledged hown hremote => ?_, fun hdup hpending => ?_⟩
  · have hcleared : (lineCleared s).noticeOf n = some k := hk
    rw [endEvent_holds, sendSettled_notices hitem hno hdup]
    exact ⟨noticeSent_notices_of_done hcleared, fun h => noticeSent_notices_of_other hcleared⟩
  · rw [endEvent_link_queue] at hq
    exact mem_sendSettled_queue hitem hq
  · obtain ⟨hmode, -, hcurrent⟩ := (isPledged_iff _ _).1 hpledged
    have hballot := enterClosed_ballot (s := removeQueued n (lineCleared s)) hmode hown hremote
    rw [sendSettled_of_commit hitem hbody hpledged]
    refine ⟨by simp [hballot], ?_, by simp [hballot]⟩
    rw [endEvent_ballot_current, liftHold_ballot_current, hballot]
    exact hcurrent
  · rw [sendSettled_of_duplicate hdup hpending]
    simp [enterMute]

section
variable {s t : State}

/-! ### Roster entries -/

theorem entry_congr (h : t.roster.entries = s.roster.entries) (a : Nat) : t.entry a = s.entry a := by
  unfold State.entry
  rw [h]

theorem updateEntry_entries (s : State) (a : Nat) (f : RosterEntry → RosterEntry) :
    (s.updateEntry a f).roster.entries = s.roster.entries.map fun e => if e.address = a then f e else e := by
  unfold State.updateEntry State.changeRoster
  rw [settleReadiness_roster]
  rfl

theorem RosterShaped.mem_entries (h : RosterShaped s) {a : Nat} (ha : a ≤ 24) : s.entry a ∈ s.roster.entries ∧ (s.entry a).address = a := by
  have hmem : a ∈ s.roster.entries.map fun e => e.address := by
    rw [h]
    interval_cases a <;> decide
  obtain ⟨e, he, hea⟩ := List.mem_map.1 hmem
  unfold State.entry
  cases hfind : s.roster.entries.find? (fun e => decide (e.address = a)) with
  | none => exact absurd (decide_eq_true hea) (by simpa using List.find?_eq_none.1 hfind e he)
  | some x => exact ⟨List.mem_of_find?_eq_some hfind, of_decide_eq_true (List.find?_some (p := fun e : RosterEntry => decide (e.address = a)) hfind)⟩

/-- An update that keeps addresses changes the entry of its own address alone (R1). -/
theorem updateEntry_entry (s : State) {a : Nat} {f : RosterEntry → RosterEntry} (hf : ∀ e : RosterEntry, (f e).address = e.address) (b : Nat) :
    (s.updateEntry a f).entry b =
      ((s.roster.entries.find? fun e => decide (e.address = b)).map fun e => if e.address = a then f e else e).getD
        (RosterEntry.vacant b) := by
  unfold State.entry
  rw [updateEntry_entries, List.find?_map]
  congr 3
  funext e
  by_cases he : e.address = a <;> simp [he, hf]

theorem updateEntry_entry_of_ne {a b : Nat} {f : RosterEntry → RosterEntry} (hf : ∀ e : RosterEntry, (f e).address = e.address) (h : b ≠ a) :
    (s.updateEntry a f).entry b = s.entry b := by
  rw [updateEntry_entry s hf]
  unfold State.entry
  cases hfind : s.roster.entries.find? (fun e => decide (e.address = b)) with
  | none => rfl
  | some x =>
    have hx : x.address = b := of_decide_eq_true (List.find?_some (p := fun e : RosterEntry => decide (e.address = b)) hfind)
    rw [Option.map_some, if_neg (by rwa [hx])]

theorem updateEntry_entry_self (h : RosterShaped s) {a : Nat} (ha : a ≤ 24) {f : RosterEntry → RosterEntry}
    (hf : ∀ e : RosterEntry, (f e).address = e.address) : (s.updateEntry a f).entry a = f (s.entry a) := by
  rw [updateEntry_entry s hf]
  obtain ⟨hmem, haddress⟩ := h.mem_entries ha
  unfold State.entry at hmem haddress ⊢
  cases hfind : s.roster.entries.find? (fun e => decide (e.address = a)) with
  | none => exact absurd (decide_eq_true haddress) (by simpa using List.find?_eq_none.1 hfind _ hmem)
  | some x =>
    have hx : x.address = a := of_decide_eq_true (List.find?_some (p := fun e : RosterEntry => decide (e.address = a)) hfind)
    simp [hx]

theorem updateEntry_rosterShaped (h : RosterShaped s) {a : Nat} {f : RosterEntry → RosterEntry} (hf : ∀ e : RosterEntry, (f e).address = e.address) :
    RosterShaped (s.updateEntry a f) := by
  unfold RosterShaped
  rw [updateEntry_entries, List.map_map, ← h]
  refine List.map_congr_left fun e _ => ?_
  show (if e.address = a then f e else e).address = e.address
  split
  · exact hf e
  · rfl

end

section
variable {s : State} {x : Sending}

/-! ### The own TALLY sent -/

theorem confirmOffer_of_not_closed {a : Nat} {m : Mode} {b : Ballot} (h : s.ballot.mode ≠ .closed) : confirmOffer a m b s = s :=
  if_neg h

theorem confirmOffer_of_other {a : Nat} {m : Mode} {b : Ballot} (hmode : s.ballot.mode = .closed) (h : s.ballot.current ≠ some b) :
    confirmOffer a m b s = leave s := by
  unfold confirmOffer
  rw [if_pos hmode, decide_eq_false h]
  cases m <;> rfl

theorem confirmOffer_of_closed {a : Nat} {b : Ballot} (hmode : s.ballot.mode = .closed) (h : s.ballot.current = some b) :
    confirmOffer a .closed b s = s.updateEntry a fun e => { e with confirmed := true } := by
  unfold confirmOffer
  rw [if_pos hmode, decide_eq_true h]

/-- A confirmation changes no entry but for its mark (R70). -/
theorem confirmOffer_entry_summary (a : Nat) (m : Mode) (b : Ballot) (s : State) (c : Nat) :
    ((confirmOffer a m b s).entry c).summary = (s.entry c).summary := by
  have hupdate : ((s.updateEntry a fun e => { e with confirmed := true }).entry c).summary = (s.entry c).summary := by
    rw [updateEntry_entry]
    · unfold State.entry
      cases s.roster.entries.find? fun e => decide (e.address = c) with
      | none => rfl
      | some e =>
        simp only [Option.map_some, Option.getD_some]
        split <;> rfl
    · intro e; rfl
  unfold confirmOffer
  split
  · split
    · exact hupdate
    · rfl
    · rw [entry_congr (t := leave s) (s := s) (by rw [leave_roster])]
  · rfl

theorem sendSettled_of_tally {n : Nat} {c : Summary} (hitem : x.item = .queued n) (hbody : x.body = .tally c) :
    sendSettled x s =
      liftHold .send none (tallyPlanPoint c.advertisedDemand (tallyShown c (removeQueued n (lineCleared s)))) := by
  rw [sendSettled_of_not_duplicate (not_duplicate_of_item fun n => by rw [hitem]; nofun)]
  unfold itemSent frameSent
  rw [hitem, hbody]
  rfl

/-- The TALLY plan point's plan is a sweep's but for the suspension (R123). -/
theorem tallyPlanPoint_plan (a : Nat) (s : State) :
    (tallyPlanPoint a s).plan =
      { (sweepPlanPoint (s.setPlan { s.plan with advertised := a })).plan with suspended := s.plan.suspended } := rfl

theorem isMember_congr {t : State} (h : t.startup.config = s.startup.config) (a : Nat) : t.isMember a = s.isMember a := by
  unfold State.isMember State.size State.cfg
  rw [h]

end

section
variable {s : State}

theorem tallyShown_plan (x : Summary) (s : State) : (tallyShown x s).plan = s.plan := by
  unfold tallyShown
  dsimp only
  split <;> simp

theorem tallyShown_summary (x : Summary) (h : RosterShaped s) (hown : s.own ≤ 24) :
    ((tallyShown x s).entry s.own).summary = some x := by
  have hupdate : ((s.updateEntry s.own fun e => { e with summary := some x }).entry s.own).summary = some x := by
    rw [updateEntry_entry_self h hown]
    intro e; rfl
  unfold tallyShown
  dsimp only
  split
  · rw [confirmOffer_entry_summary]
    exact hupdate
  · exact hupdate

theorem tallyShown_member {x : Summary} (h : s.isMember s.own = true) :
    tallyShown x s =
      confirmOffer s.own x.mode x.ballot (s.updateEntry s.own fun e => { e with summary := some x }) := by
  have hown : (s.updateEntry s.own fun e => { e with summary := some x }).own = s.own :=
    congrArg StartSequence.address (State.updateEntry_startup _ _ _)
  unfold tallyShown
  dsimp only
  rw [hown, if_pos ((isMember_congr (by rw [State.updateEntry_startup]) _).trans h)]

theorem tallyShown_of_other {x : Summary} (hmode : s.ballot.mode = .closed) (hmember : s.isMember s.own = true)
    (h : s.ballot.current ≠ some x.ballot) : (tallyShown x s).ballot.mode = .opened := by
  rw [tallyShown_member hmember, confirmOffer_of_other (by simpa using hmode) (by simpa using h)]
  exact leave_mode_of_party (.inr (by simpa using hmode))

theorem tallyShown_of_closed {x : Summary} (hshaped : RosterShaped s) (hown : s.own ≤ 24) (hmode : s.ballot.mode = .closed)
    (hmember : s.isMember s.own = true) (h : s.ballot.current = some x.ballot) (hx : x.mode = .closed) :
    (tallyShown x s).ballot.mode = .closed ∧ ((tallyShown x s).entry s.own).confirmed = true := by
  have hu := updateEntry_rosterShaped (a := s.own) (f := fun e => { e with summary := some x }) hshaped fun _ => rfl
  rw [tallyShown_member hmember, hx, confirmOffer_of_closed (by simpa using hmode) (by simpa using h)]
  refine ⟨by simpa using hmode, ?_⟩
  rw [updateEntry_entry_self (f := fun e => { e with confirmed := true }) hu hown fun _ => rfl]

end

end Sys2Proof.Machine

namespace Sys2Proof

open Machine

/-- Settles O37: the tally's plan is computed of the state that the event leaves. -/
theorem ownTallySent : Obligations.OwnTallySent := by
  intro s x hx n hitem c hbody hrestart hshaped hown
  have hsettled : completeSend s = sendSettled x s := by
    rw [completeSend_of_sending hx, hrestart]
    rfl
  obtain ⟨u, hu⟩ : ∃ u, u = removeQueued n (lineCleared s) := ⟨_, rfl⟩
  have hroster : u.roster = s.roster := by rw [hu]; rfl
  have hstartup : u.startup = s.startup := by rw [hu]; rfl
  have hballot : u.ballot = s.ballot := by rw [hu]; rfl
  have hplan : u.plan = s.plan := by rw [hu]; rfl
  have huown : u.own = s.own := congrArg StartSequence.address hstartup
  have hushaped : RosterShaped u := by unfold RosterShaped; rw [hroster]; exact hshaped
  refine ⟨_, event_eq_next completeSend s, ?_⟩
  rw [hsettled, sendSettled_of_tally hitem hbody, ← hu]
  obtain ⟨v, hv⟩ : ∃ v, v = tallyShown c u := ⟨_, rfl⟩
  rw [← hv]
  obtain ⟨t, ht⟩ : ∃ t, t = endEvent s (liftHold .send none (tallyPlanPoint c.advertisedDemand v)) := ⟨_, rfl⟩
  rw [← ht]
  have hentry : ∀ a, t.entry a = v.entry a := entry_congr (by rw [ht]; simp)
  have hmode : t.ballot.mode = v.ballot.mode := by rw [ht]; simp
  have htplan : t.plan = { (sweepPlanPoint (t.setPlan { s.plan with advertised := c.advertisedDemand })).plan with
      suspended := s.plan.suspended } := by
    have hvplan : v.plan = s.plan := by rw [hv, tallyShown_plan, hplan]
    have hcongr : (sweepPlanPoint (t.setPlan { s.plan with advertised := c.advertisedDemand })).plan =
        (sweepPlanPoint (v.setPlan { v.plan with advertised := c.advertisedDemand })).plan := by
      refine sweepPlanPoint_plan_congr ?_ ?_ ?_ ?_ ?_ ?_ <;> simp [ht, hvplan]
    rw [hcongr, ht, endEvent_plan, liftHold_plan, tallyPlanPoint_plan, hvplan]
  refine ⟨?_, by rw [htplan]; rfl, by rw [htplan]; rfl, by rw [htplan]; rfl, htplan, by rw [htplan]; rfl, by rw [htplan]; rfl,
    fun hclosed hmember hother => ?_, fun hclosed hmember hcurrent hc => ?_⟩
  · rw [hentry, hv, ← huown]
    exact tallyShown_summary c hushaped (by rwa [huown])
  · rw [hmode, hv]
    exact tallyShown_of_other (by rwa [hballot]) (by rw [huown]; exact (isMember_congr (by rw [hstartup]) _).trans hmember) (by rwa [hballot])
  · rw [hmode, hentry, hv, ← huown]
    exact tallyShown_of_closed hushaped (by rwa [huown]) (by rwa [hballot])
      (by rw [huown]; exact (isMember_congr (by rw [hstartup]) _).trans hmember) (by rwa [hballot]) hc

end Sys2Proof

/-! The access wait's expiry: the content of the own TALLY and the item put on the line (R17, R187). -/

namespace Sys2Proof.Machine

section
variable {s : State}

/-! ### Least and greatest of the valid cells -/

theorem foldl_optMin_some {α : Type} (g : α → Option Nat) (l : List α) (a : Nat) :
    l.foldl (fun acc x => optMin acc (g x)) (some a) = some ((l.filterMap g).foldl min a) := by
  induction l generalizing a with
  | nil => rfl
  | cons x l ih =>
    rw [List.foldl_cons]
    cases hx : g x with
    | none => rw [List.filterMap_cons_none hx]; exact ih a
    | some v => rw [List.filterMap_cons_some hx]; exact ih (min a v)

theorem foldl_optMin_none {α : Type} (g : α → Option Nat) (l : List α) :
    l.foldl (fun acc x => optMin acc (g x)) none = (l.filterMap g).min? := by
  induction l with
  | nil => rfl
  | cons x l ih =>
    rw [List.foldl_cons]
    cases hx : g x with
    | none => rw [List.filterMap_cons_none hx]; exact ih
    | some v => rw [List.filterMap_cons_some hx, List.min?_cons']; exact foldl_optMin_some g l v

theorem foldl_optMax_some {α : Type} (g : α → Option Nat) (l : List α) (a : Nat) :
    l.foldl (fun acc x => optMax acc (g x)) (some a) = some ((l.filterMap g).foldl max a) := by
  induction l generalizing a with
  | nil => rfl
  | cons x l ih =>
    rw [List.foldl_cons]
    cases hx : g x with
    | none => rw [List.filterMap_cons_none hx]; exact ih a
    | some v => rw [List.filterMap_cons_some hx]; exact ih (max a v)

theorem foldl_optMax_none {α : Type} (g : α → Option Nat) (l : List α) :
    l.foldl (fun acc x => optMax acc (g x)) none = (l.filterMap g).max? := by
  induction l with
  | nil => rfl
  | cons x l ih =>
    rw [List.foldl_cons]
    cases hx : g x with
    | none => rw [List.filterMap_cons_none hx]; exact ih
    | some v => rw [List.filterMap_cons_some hx, List.max?_cons']; exact foldl_optMax_some g l v

theorem minCell_eq {x : SampleSet} (h : s.sweep.latest = some x) : s.minCell = (s.fittedCells.filterMap x.cell).min? := by
  unfold State.minCell
  rw [h]
  exact foldl_optMin_none _ _

theorem maxCell_eq {x : SampleSet} (h : s.sweep.latest = some x) : s.maxCell = (s.fittedCells.filterMap x.cell).max? := by
  unfold State.maxCell
  rw [h]
  exact foldl_optMax_none _ _

theorem onDefaults_eq (s : State) :
    s.onDefaults = decide (s.startup.config.map (fun c => c.source) = some .defaults) := by
  unfold State.onDefaults
  cases s.startup.config <;> simp

theorem heard_eq : RosterEntry.heard = fun e : RosterEntry => decide (e.state = .present ∨ e.state = .stale) := by
  funext e
  exact Bool.eq_iff_iff.2 (by simp [RosterEntry.heard_iff])

/-! ### A transmission start -/

theorem nextItem_of_announce (h : s.link.sending = none) (hflag : s.link.announceFlag = true) : s.nextItem = some .announce := by
  unfold State.nextItem State.announcePending
  rw [hflag, onLine_of_quiet h]
  rfl

theorem nextItem_of_no_announce (hflag : s.link.announceFlag = false) : s.nextItem = match s.nextNotice with
    | some n => some (.notice n.item)
    | none => s.nextQueued.map fun q => .queued q.item := by
  unfold State.nextItem State.announcePending
  rw [hflag]
  rfl

theorem nextNotice_of_quiet (h : s.link.sending = none) : s.nextNotice = s.holds.notices.head? := by
  unfold State.nextNotice
  simp only [onLine_of_quiet h, Bool.not_false, find?_true]

theorem nextQueued_of_quiet (h : s.link.sending = none) : s.nextQueued = s.link.queue.head? := by
  unfold State.nextQueued
  simp only [onLine_of_quiet h, Bool.not_false, find?_true]

theorem nextItem_of_notice (h : s.link.sending = none) (hflag : s.link.announceFlag = false) {n : Notice} {rest : List Notice}
    (hn : s.holds.notices = n :: rest) : s.nextItem = some (.notice n.item) := by
  rw [nextItem_of_no_announce hflag, nextNotice_of_quiet h, hn]
  rfl

theorem nextItem_of_queue (h : s.link.sending = none) (hflag : s.link.announceFlag = false) (hn : s.holds.notices = []) :
    s.nextItem = s.link.queue.head?.map fun q => .queued q.item := by
  rw [nextItem_of_no_announce hflag, nextNotice_of_quiet h, hn, nextQueued_of_quiet h]
  rfl

theorem noticeOf_head {n : Notice} {rest : List Notice} (hn : s.holds.notices = n :: rest) : s.noticeOf n.item = some n := by
  unfold State.noticeOf
  rw [hn]
  exact List.find?_cons_of_pos (decide_eq_true rfl)

theorem queuedOf_head {q : QueueEntry} {rest : List QueueEntry} (hq : s.link.queue = q :: rest) : s.queuedOf q.item = some q := by
  unfold State.queuedOf
  rw [hq]
  exact List.find?_cons_of_pos (decide_eq_true rfl)

theorem transmit_of_none (h : s.nextItem = none) : transmit s = s := by
  unfold transmit
  rw [h]

theorem transmit_of_body {i : Item} {b : Body} (hi : s.nextItem = some i) (hb : s.bodyFor i = some b) :
    transmit s = s.setLink { s.link with sending := some ⟨i, s.own, b⟩, medium := .busy } := by
  unfold transmit
  rw [hi]
  dsimp only
  rw [hb]

/-- The state in which the expired access wait sends (R187). -/
def waitOver (s : State) : State := s.setLink { s.link with wait := none }

/-- An item with a frame to build goes on the line at the access wait's expiry (R161, R187). -/
theorem endEvent_transmit {i : Item} {b : Body} (hi : (waitOver s).nextItem = some i) (hb : (waitOver s).bodyFor i = some b) :
    (endEvent s (transmit (waitOver s))).link.sending = some ⟨i, s.own, b⟩ ∧
      (endEvent s (transmit (waitOver s))).link.medium = .busy ∧ (endEvent s (transmit (waitOver s))).link.wait = none := by
  rw [transmit_of_body hi hb, endEvent_wait_of_busy _ rfl]
  exact ⟨by simp; rfl, by simp, rfl⟩

theorem pendingClass_of_nothing (hflag : s.link.announceFlag = false) (hn : s.holds.notices = []) (hq : s.link.queue = []) :
    s.pendingClass = none := by
  unfold State.pendingClass State.announcePending State.nextNotice State.nextQueued
  rw [hflag, hn, hq]
  rfl

theorem settleWait_of_no_class (h : s.pendingClass = none) : settleWait s = s := by
  unfold settleWait
  rw [h]
  cases s.mayWait <;> rfl

/-- With nothing pending no wait starts (R185). -/
theorem endEvent_wait_of_no_class (before : State) (h : s.pendingClass = none) : (endEvent before s).link.wait = s.link.wait := by
  obtain ⟨hwait, -, -, -, -, -, -, hclass⟩ := beforeWait_frame before s
  rw [endEvent_eq, settleWait_of_no_class (hclass.trans h), hwait]

theorem transmit_frame (s : State) :
    (transmit s).link.queue = s.link.queue ∧ (transmit s).holds = s.holds ∧ (transmit s).roster = s.roster := by
  unfold transmit
  split
  · exact ⟨rfl, rfl, rfl⟩
  · split <;> exact ⟨rfl, rfl, rfl⟩

end

/-- Settles O35: the item is found as R181 orders, and its frame is built of what stands. -/
theorem accessWaitExpirySends : Obligations.AccessWaitExpirySends := by
  refine ⟨fun s => ?tally, fun s w hwait hsending => ⟨_, event_eq_next expireAccessWait s, ?_⟩⟩
  case tally =>
    refine ⟨s.minCell, s.maxCell, s.sweep.latest.map fun x => x.moduleSum, s.sweep.latest.bind fun x => x.hotter, ?_, fun x hx => ?_⟩
    · unfold State.ownTally LockoutRecord.tallySerial
      rw [heard_eq, onDefaults_eq]
    · intro valid
      rw [minCell_eq hx, maxCell_eq hx, hx]
      refine ⟨List.min?_eq_none_iff, List.max?_eq_none_iff, fun v hv => List.min?_eq_some_iff.1 hv,
        fun v hv => List.max?_eq_some_iff.1 hv, rfl, fun a ha b hb => ?_, fun h1 => ?_, fun h2 => ?_⟩
      · simp [SampleSet.hotter, ha, hb]
      · simp [SampleSet.hotter, h1]
      · cases h1 : x.t1 <;> simp [SampleSet.hotter, h1, h2]
  have hexpire : expireAccessWait s = transmit (waitOver s) := by
    unfold expireAccessWait
    rw [hwait]
    rfl
  rw [hexpire]
  have hquiet : (waitOver s).link.sending = none := hsending
  obtain ⟨hqueue, hholds, hroster⟩ := transmit_frame (waitOver s)
  refine ⟨by rw [endEvent_link_queue, hqueue]; rfl, by rw [endEvent_holds, hholds]; rfl, by rw [endEvent_roster, hroster]; rfl,
    fun d hflag hd => ?_, fun n rest hflag hn => ⟨fun hkind => ?_, fun h hkind hh => ?_⟩, fun q rest hflag hn hq => ?_,
    fun hflag hn hq => ?_⟩
  · refine endEvent_transmit (nextItem_of_announce hquiet hflag) ?_
    show Option.map Body.announce (s.entry s.own).announced = _
    rw [hd]
    rfl
  · refine endEvent_transmit (nextItem_of_notice hquiet hflag hn) ?_
    show ((waitOver s).noticeOf n.item).bind (waitOver s).noticeBody = _
    rw [noticeOf_head (s := waitOver s) hn, Option.bind_some]
    unfold State.noticeBody
    rw [hkind]
  · refine endEvent_transmit (nextItem_of_notice hquiet hflag hn) ?_
    show ((waitOver s).noticeOf n.item).bind (waitOver s).noticeBody = _
    rw [noticeOf_head (s := waitOver s) hn, Option.bind_some]
    unfold State.noticeBody
    rw [hkind, show (waitOver s).ownHoldOfSerial n.serial = some h from hh]
    rfl
  · have hitem : (waitOver s).nextItem = some (.queued q.item) := by
      rw [nextItem_of_queue hquiet hflag hn, show (waitOver s).link.queue = q :: rest from hq]
      rfl
    have hbody : (waitOver s).bodyFor (.queued q.item) = some (q.claim.body (waitOver s)) := by
      show ((waitOver s).queuedOf q.item).map _ = _
      rw [queuedOf_head (s := waitOver s) hq]
      rfl
    obtain ⟨hsend, hmedium, hw⟩ := endEvent_transmit hitem hbody
    refine ⟨hmedium, hw, _, hsend, ?_, ?_, ?_, ?_, ?_, ?_, ?_, ?_⟩
    · intro h
      rw [h]
      rfl
    all_goals
      intros
      simp [Claim.body, *]
  · have hnone : (waitOver s).nextItem = none := by
      rw [nextItem_of_queue hquiet hflag hn, show (waitOver s).link.queue = [] from hq]
      rfl
    rw [transmit_of_none hnone, endEvent_wait_of_no_class _ (pendingClass_of_nothing (s := waitOver s) hflag hn hq)]
    exact ⟨by simpa using hquiet, rfl, by simp [waitOver]⟩

end Sys2Proof.Machine

/-! Starts, and the store read that settles configuration and lockout (R156, R157, R160 to R165, R174, R175). -/

namespace Sys2Proof.Machine

section
variable {s t : State}

/-! ### The state after a start -/

theorem reset_eq_startRun : State.reset = startRun ⟨1, []⟩ .opened .idle State.reset := rfl

theorem startRun_rosterShaped (straps : Straps) (feedback : SwitchPos) (medium : Medium) (s : State) :
    RosterShaped (startRun straps feedback medium s) := rfl

/-- In the start roster every entry is VACANT with age 0 (R1). -/
theorem atStart_entry_vacant {e : RosterEntry} (he : e ∈ Roster.atStart.entries) : ∃ a, e = RosterEntry.vacant a := by
  obtain ⟨a, -, rfl⟩ := List.mem_map.1 he
  exact ⟨a, rfl⟩

theorem defaultConfig_inRange : configInRange defaultConfig = true := by decide

theorem startRun_rosterLegal (straps : Straps) (feedback : SwitchPos) (medium : Medium) (s : State) :
    RosterLegal (startRun straps feedback medium s) := by
  refine ⟨defaultConfig_inRange, fun _ e he => ?_, fun e he => ?_⟩
  · obtain ⟨a, rfl⟩ := atStart_entry_vacant he
    exact ⟨rfl, rfl⟩
  · obtain ⟨a, rfl⟩ := atStart_entry_vacant he
    exact ⟨rfl, nofun⟩

/-- With an invalid strap neither sweep nor timer nor settle check begins (R162). -/
theorem startRun_unaddressedIdle (straps : Straps) (feedback : SwitchPos) (medium : Medium) (s : State) :
    UnaddressedIdle (startRun straps feedback medium s) := by
  intro h
  have hv : validAddress straps.level.toNat = false := h
  simp [startRun, SweepUnit.atStart, SwitchDriver.atStart, PlanRecord.atStart, hv, BallotUnit.atStart, StartSequence.atStart,
    Roster.atStart, LinkController.atStart, LockoutUnit.atStart, HoldUnit.atStart]

/-! ### What the slots of the store give -/

theorem configInUse_settled (r : RetainedStore) : ConfigSettled r r.judged.configInUse := by
  unfold ConfigSettled RetainedStore.judged SlotCopies.configInUse
  cases ha : validConfigSlot r.configA <;> cases hb : validConfigSlot r.configB
  · exact ⟨nofun, nofun, fun _ _ => rfl⟩
  · refine ⟨nofun, fun b h _ => ?_, nofun⟩
    cases h
    rfl
  · refine ⟨fun a h _ => ?_, nofun, nofun⟩
    cases h
    rfl
  · refine ⟨fun a h hle => ?_, fun b h hlt => ?_, nofun⟩
    · cases h
      exact if_pos (hle _ rfl)
    · cases h
      exact if_neg (not_le.2 (hlt _ rfl))

theorem lockoutRecord_settled (c : SlotCopies) : LockoutSettled c c.lockoutRecord := by
  unfold LockoutSettled SlotCopies.lockoutRecord
  cases c.newest with
  | none => exact ⟨fun _ => rfl, nofun⟩
  | some p =>
    refine ⟨nofun, fun n x h => ?_⟩
    cases h
    refine ⟨fun hx => ?_, fun hx => ?_⟩ <;> (dsimp only; rw [hx])

/-- A record the slots give as ACTIVE names its cause (R141). -/
theorem lockoutRecord_cases (c : SlotCopies) :
    c.lockoutRecord.state = .none ∨ c.lockoutRecord.state = .active ∧ ∃ k, c.lockoutRecord.cause = some k := by
  unfold SlotCopies.lockoutRecord
  split
  · split
    · exact .inr ⟨rfl, _, rfl⟩
    · exact .inl rfl
  · exact .inl rfl

/-! ### The store read -/

/-- A raise in START keeps notices, ballot, link and switch (R32, R33). -/
theorem raiseHold_of_start (c : Cause) (i : Option Nat) (d : Option Detail) (h : s.ballot.mode = .start) :
    (raiseHold c i d s).holds.notices = s.holds.notices ∧ (raiseHold c i d s).ballot.mode = .start ∧
      (raiseHold c i d s).link = s.link ∧ (raiseHold c i d s).switch = s.switch ∧
      (raiseHold c i d s).holds.remote = s.holds.remote := by
  obtain ⟨-, hraise⟩ | ⟨x, -, -, hraise⟩ | ⟨x, -, -, hraise | hraise⟩ := raiseHold_cases c i d s <;> rw [hraise]
  · obtain ⟨hnotices, -, hlink, hmode⟩ := addOwn_frame c i d s
    have hstart : (addOwn c i d s).ballot.mode = .start := hmode.trans h
    rw [appendNotice_of_silent _ _ _ (.inl hstart), leave_of_idle _ (by rw [hstart]; decide) (by rw [hstart]; decide)]
    exact ⟨hnotices, hstart, hlink, by simp, by simp [addOwn, State.changeHolds]⟩
  · exact ⟨rfl, h, rfl, rfl, rfl⟩
  · exact ⟨rfl, h, rfl, rfl, rfl⟩
  · rw [appendNotice_of_silent (s := changeDetail c i d s) _ _ _ (.inl h)]
    exact ⟨rfl, h, rfl, rfl, rfl⟩

/-- The state in which the store read has settled configuration, lockout and monitors (R156, R157, R90). -/
def readSettled (s : State) : State := finishRead (settleLockout (settleConfig (copySlots s)))

/-- The configuration settled, before the CONFIG hold that its absence raises (R174). -/
def configSettled (s : State) : State :=
  (copySlots s).setStartup
    { s.startup with config := some s.store.judged.configInUse, digest := stringDigest s.store.judged.configInUse.record.shared }

theorem settleConfig_copySlots (s : State) :
    settleConfig (copySlots s) =
      if s.store.judged.configInUse.source = .defaults then raiseHold .config none none (configSettled s) else configSettled s := rfl

/-- The state in which the lockout record has been set, before the hold of an ACTIVE one (R157). -/
def lockoutSettled (s : State) : State :=
  (settleConfig (copySlots s)).setLockout { s.lockout with copies := s.store.judged, record := s.store.judged.lockoutRecord }

theorem settleConfig_copySlots_lockout (s : State) :
    (settleConfig (copySlots s)).lockout = { s.lockout with copies := s.store.judged } := by
  rw [settleConfig_lockout]
  rfl

theorem settleLockout_of_none (h : s.store.judged.lockoutRecord.state = .none) :
    settleLockout (settleConfig (copySlots s)) = lockoutSettled s := by
  unfold settleLockout
  rw [settleConfig_copySlots_lockout]
  dsimp only
  rw [h]
  rfl

theorem settleLockout_of_active {k : LockoutCause} (h : s.store.judged.lockoutRecord.state = .active)
    (hk : s.store.judged.lockoutRecord.cause = some k) :
    settleLockout (settleConfig (copySlots s)) = raiseHold .lockout none (some (.lockout k)) (lockoutSettled s) := by
  unfold settleLockout
  rw [settleConfig_copySlots_lockout]
  dsimp only
  rw [h, hk]
  rfl

theorem settleLockout_cases (s : State) :
    settleLockout (settleConfig (copySlots s)) = lockoutSettled s ∧ s.store.judged.lockoutRecord.state = .none ∨
      s.store.judged.lockoutRecord.state = .active ∧
        ∃ k, s.store.judged.lockoutRecord.cause = some k ∧
          settleLockout (settleConfig (copySlots s)) = raiseHold .lockout none (some (.lockout k)) (lockoutSettled s) := by
  obtain h | ⟨h, k, hk⟩ := lockoutRecord_cases s.store.judged
  · exact .inl ⟨settleLockout_of_none h, h⟩
  · exact .inr ⟨h, k, hk, settleLockout_of_active h hk⟩

theorem settleConfig_copySlots_startup (s : State) : (settleConfig (copySlots s)).startup = (configSettled s).startup := by
  rw [settleConfig_copySlots]
  split <;> simp

theorem readSettled_startup (s : State) :
    (readSettled s).startup =
      { s.startup with
        config := some s.store.judged.configInUse, digest := stringDigest s.store.judged.configInUse.record.shared,
        readComplete := true } := by
  show { (settleLockout (settleConfig (copySlots s))).startup with readComplete := true } = _
  rw [settleLockout_startup, settleConfig_copySlots_startup]
  rfl

theorem readSettled_lockout (s : State) :
    (readSettled s).lockout = { s.lockout with copies := s.store.judged, record := s.store.judged.lockoutRecord } := by
  show (settleLockout (settleConfig (copySlots s))).lockout = _
  obtain ⟨h, -⟩ | ⟨-, k, -, h⟩ := settleLockout_cases s <;> rw [h]
  · rfl
  · simp [lockoutSettled]

theorem readSettled_store (s : State) : (readSettled s).store = s.store := by
  show (settleLockout (settleConfig (copySlots s))).store = _
  simp

theorem readSettled_monitors (s : State) :
    (readSettled s).monitors.records = formMonitors s.store.judged.configInUse.record.cells.fitted := by
  show formMonitors (settleLockout (settleConfig (copySlots s))).fitted = _
  unfold State.fitted State.cfg
  rw [settleLockout_startup, settleConfig_copySlots_startup]
  rfl

/-- In START the store read leaves notices, mode, link, switch and remote records as they were. -/
theorem readSettled_of_start (h : s.ballot.mode = .start) :
    (readSettled s).holds.notices = s.holds.notices ∧ (readSettled s).ballot.mode = .start ∧ (readSettled s).link = s.link ∧
      (readSettled s).switch = s.switch ∧ (readSettled s).roster = s.roster ∧ (readSettled s).sweep = s.sweep := by
  have hconfig : (lockoutSettled s).holds.notices = s.holds.notices ∧ (lockoutSettled s).ballot.mode = .start ∧
      (lockoutSettled s).link = s.link ∧ (lockoutSettled s).switch = s.switch := by
    show (settleConfig (copySlots s)).holds.notices = _ ∧ (settleConfig (copySlots s)).ballot.mode = _ ∧
      (settleConfig (copySlots s)).link = _ ∧ (settleConfig (copySlots s)).switch = _
    rw [settleConfig_copySlots]
    split
    · obtain ⟨hn, hm, hl, hw, -⟩ := raiseHold_of_start (s := configSettled s) .config none none h
      exact ⟨hn, hm, hl, hw⟩
    · exact ⟨rfl, h, rfl, rfl⟩
  obtain ⟨hnotices, hmode, hlink, hswitch⟩ := hconfig
  have hsettled : (settleLockout (settleConfig (copySlots s))).holds.notices = s.holds.notices ∧
      (settleLockout (settleConfig (copySlots s))).ballot.mode = .start ∧
      (settleLockout (settleConfig (copySlots s))).link = s.link ∧
      (settleLockout (settleConfig (copySlots s))).switch = s.switch := by
    obtain ⟨hs, -⟩ | ⟨-, k, -, hs⟩ := settleLockout_cases s <;> rw [hs]
    · exact ⟨hnotices, hmode, hlink, hswitch⟩
    · obtain ⟨hn, hm, hl, hw, -⟩ := raiseHold_of_start .lockout none (some (.lockout k)) hmode
      exact ⟨hn.trans hnotices, hm, hl.trans hlink, hw.trans hswitch⟩
  obtain ⟨hn, hm, hl, hw⟩ := hsettled
  exact ⟨hn, hm, hl, hw, by simp [readSettled, finishRead], by simp [readSettled, finishRead]⟩

/-- Without a valid configuration the CONFIG hold stands after the store read (R175). -/
theorem readSettled_stands_config (h : s.store.judged.configInUse.source = .defaults) : (readSettled s).stands .config = true := by
  have hconfig : (lockoutSettled s).stands .config = true := by
    show (settleConfig (copySlots s)).stands .config = true
    rw [settleConfig_copySlots, if_pos h]
    exact raiseHold_stands_self _ _ _
  show (settleLockout (settleConfig (copySlots s))).stands .config = true
  obtain ⟨hs, -⟩ | ⟨-, k, -, hs⟩ := settleLockout_cases s <;> rw [hs]
  · exact hconfig
  · rw [raiseHold_stands_of_ne _ _ _ (by decide)]
    exact hconfig

theorem readSettled_stands_lockout (h : s.store.judged.lockoutRecord.state = .active) : (readSettled s).stands .lockout = true := by
  show (settleLockout (settleConfig (copySlots s))).stands .lockout = true
  obtain ⟨-, hs⟩ | ⟨-, k, -, hs⟩ := settleLockout_cases s
  · cases h.symm.trans hs
  · rw [hs]
    exact raiseHold_stands_self _ _ _

/-- With no lockout in the store the read leaves the LOCKOUT hold as it was. -/
theorem readSettled_stands_lockout_of_none (h : s.store.judged.lockoutRecord.state = .none) :
    (readSettled s).stands .lockout = s.stands .lockout := by
  show (settleLockout (settleConfig (copySlots s))).stands .lockout = _
  rw [settleLockout_of_none h]
  show (settleConfig (copySlots s)).stands .lockout = _
  rw [settleConfig_copySlots]
  split
  · rw [raiseHold_stands_of_ne _ _ _ (by decide)]
    rfl
  · rfl

theorem completeRead_of_pending (haddressed : s.addressed = true) (hmode : s.ballot.mode = .start)
    (hread : s.startup.readComplete = false) :
    completeRead s =
      if s.startup.firstSweepComplete then joinEntry (deliverSweep (readSettled s)) else readSettled s := by
  have hfirst : (readSettled s).startup.firstSweepComplete = s.startup.firstSweepComplete := by rw [readSettled_startup]
  unfold completeRead
  rw [if_pos (by simp [haddressed, hmode, hread]), ← hfirst]
  rfl

/-- The store read puts record, hold and writes in step (R149, R157). -/
theorem readSettled_lockoutSound (h : NoLockoutYet s) : LockoutSound (readSettled s) := by
  obtain ⟨-, -, -, hstands, hflight, hpending⟩ := h
  have hread : (readSettled s).startup.readComplete = true := by rw [readSettled_startup]
  refine ⟨⟨hread, ?_, ?_⟩, hread, ?_, ?_⟩
  · rw [readSettled_lockout]
    intro w hw
    cases hflight.symm.trans hw
  · rw [readSettled_lockout]
    intro hp
    cases hpending.symm.trans hp
  · rw [readSettled_lockout]
    show _ ↔ s.store.judged.lockoutRecord.state = .active
    obtain hnone | ⟨hactive, -⟩ := lockoutRecord_cases s.store.judged
    · rw [readSettled_stands_lockout_of_none hnone, hstands, hnone]
      exact iff_of_false nofun nofun
    · exact iff_of_true (readSettled_stands_lockout hactive) hactive
  · rw [readSettled_lockout]
    intro hactive
    obtain hnone | ⟨-, k, hk⟩ := lockoutRecord_cases s.store.judged
    · cases hnone.symm.trans hactive
    · show s.store.judged.lockoutRecord.cause.isSome = true
      rw [hk]
      rfl

end

/-- Settles O56: a start writes out each block; the settled read is in step, and the parts of JOIN entry keep that. -/
theorem startsAreLegal : Obligations.StartsAreLegal := by
  refine ⟨fun straps feedback medium s t ht => ?start, fun s haddressed hs => ?read⟩
  case start =>
    have hstart : ∀ straps feedback medium s, t = startRun straps feedback medium s →
        SwitchFollowsMode t ∧ BallotRecordLegal t ∧ ClosedHoldsNothing t ∧ PlanLegal t ∧ OwnKeysDistinct t ∧ QueueLegal t ∧
          MuteIsSilent t ∧ LinkLegal t ∧ UnaddressedIdle t ∧ RosterShaped t ∧ OwnEntryPresent t ∧ RosterLegal t ∧
          RemoteTableLegal t ∧ MonitorsShaped t ∧ LinkInStep t ∧ NoLockoutYet t := by
      rintro straps feedback medium s rfl
      obtain ⟨hfollows, hrecord, hholds⟩ := startRun_modeLegal straps feedback medium s
      obtain ⟨hqueue, hsilent, hlink⟩ := startRun_linkSound straps feedback medium s
      exact ⟨hfollows, hrecord, hholds, startRun_planLegal .., .nil, hqueue, hsilent, hlink, startRun_unaddressedIdle _ _ _ _,
        startRun_rosterShaped .., fun h => absurd rfl h, startRun_rosterLegal .., ⟨Nat.zero_le _, .nil, nofun⟩,
        startRun_monitorsShaped .., ⟨fun _ => rfl, nofun⟩, startRun_noLockoutYet ..⟩
    obtain h | h | h := ht
    · exact hstart _ _ _ _ (h.trans reset_eq_startRun)
    · rw [exec_supplyStart] at h
      cases h
      exact hstart _ _ _ _ rfl
    · exact hstart _ _ _ _ h
  case read =>
    refine ⟨_, event_eq_next completeRead s, ?_⟩
    obtain ⟨hread, hmode, -⟩ := id hs
    have hsettled := readSettled_lockoutSound hs
    obtain ⟨-, hstart, -⟩ := readSettled_of_start hmode
    have hdone : (readSettled s).startup.readComplete = true := by rw [readSettled_startup]
    have hmoves : Moves .storeReadCompletion (readSettled s) (completeRead s) := by
      rw [completeRead_of_pending haddressed hmode hread]
      split
      · exact (deliverSweep_moves (.inr hdone)).trans (joinEntry_moves (by simpa using hstart) (by simpa using hdone))
      · exact .refl
    have hsound : LockoutSound (completeRead s) := hmoves.keeps (fun _ _ => Move.keeps_lockout) hsettled
    obtain ⟨hstore, hhold⟩ := hsound.of_blocks (t := endEvent s (completeRead s)) (by simp) (by simp) (by simp) (by simp)
    exact ⟨hstore, hhold⟩

/-! ### Which slots are valid, and which is the newest -/

theorem validConfigSlot_iff (x : Slot ConfigSlot) (c : ConfigSlot) :
    validConfigSlot x = some c ↔ x = .written c ∧ (1 ≤ c.generation ∧ c.generation ≤ 65535) ∧ configInRange c.record = true := by
  cases x with
  | torn => exact iff_of_false nofun nofun
  | written y =>
    unfold validConfigSlot
    dsimp only
    rw [Option.ite_none_right_eq_some, Option.some.injEq, Slot.written.injEq, and_comm]
    refine and_congr_right ?_
    rintro rfl
    exact and_assoc.symm

theorem validLockoutSlot_iff (x : Slot LockoutSlot) (c : LockoutSlot) :
    validLockoutSlot x = some c ↔ x = .written c ∧ 1 ≤ c.serial ∧ c.serial ≤ 65535 := by
  cases x with
  | torn => exact iff_of_false nofun nofun
  | written y =>
    unfold validLockoutSlot
    dsimp only
    rw [Option.ite_none_right_eq_some, Option.some.injEq, Slot.written.injEq, and_comm]
    refine and_congr_right ?_
    rintro rfl
    exact Iff.rfl

theorem slotAWins_iff (a b : LockoutSlot) :
    slotAWins a b = true ↔ b.serial < a.serial ∨ a.serial = b.serial ∧ (a.state = .released ∨ b.state = .active) := by
  simp [slotAWins]

/-- Of two valid lockout records A is the newest when it wins, else B (R142). -/
theorem newest_of_both {c : SlotCopies} {a b : LockoutSlot} (ha : c.lockoutA = some a) (hb : c.lockoutB = some b) :
    c.newest = if slotAWins a b then some (.a, a) else some (.b, b) := by
  unfold SlotCopies.newest
  rw [ha, hb]

theorem newest_a {c : SlotCopies} {a b : LockoutSlot} (ha : c.lockoutA = some a) (hb : c.lockoutB = some b)
    (h : b.serial < a.serial ∨ a.serial = b.serial ∧ (a.state = .released ∨ b.state = .active)) : c.newest = some (.a, a) := by
  rw [newest_of_both ha hb, if_pos ((slotAWins_iff a b).2 h)]

theorem newest_b {c : SlotCopies} {a b : LockoutSlot} (ha : c.lockoutA = some a) (hb : c.lockoutB = some b)
    (h : a.serial < b.serial ∨ a.serial = b.serial ∧ a.state = .active ∧ b.state = .released) : c.newest = some (.b, b) := by
  rw [newest_of_both ha hb, if_neg]
  rw [slotAWins_iff]
  rintro (hlt | ⟨heq, hstate⟩)
  · omega
  · rcases h with h | ⟨-, hactive, hreleased⟩
    · omega
    · rw [hactive, hreleased] at hstate
      rcases hstate with h | h <;> cases h

/-- Settles O5: the settled read field by field, then the validity of slots. -/
theorem storeReadSettlesConfiguration : Obligations.StoreReadSettlesConfiguration := by
  refine ⟨fun s haddressed hmode hread hfirst => ⟨_, event_eq_next completeRead s, ?_⟩, fun x c => ?config, rfl, validLockoutSlot_iff,
    fun c => ⟨fun ha hb => ?_, fun a ha hb => ?_, fun b hb ha => ?_, fun a ha b hb => ⟨fun h => ?_, fun h => ?_, fun heq => ?_⟩⟩⟩
  · rw [completeRead_of_pending haddressed hmode hread, if_neg (by simp [hfirst])]
    obtain ⟨hnotices, hstart, -⟩ := readSettled_of_start hmode
    have hstands : ∀ c, (endEvent s (readSettled s)).stands c = (readSettled s).stands c := fun c => stands_congr (by simp)
    simp only [endEvent_startup, endEvent_ballot_mode, endEvent_store, endEvent_lockout, endEvent_monitors, endEvent_holds, hstands]
    rw [readSettled_startup, readSettled_lockout, readSettled_store]
    exact ⟨rfl, _, rfl, rfl, hstart, rfl, rfl, configInUse_settled s.store, readSettled_stands_config,
      lockoutRecord_settled _, readSettled_stands_lockout, readSettled_monitors s, hnotices⟩
  case config =>
    rw [validConfigSlot_iff]
    simp only [configInRange, stringInRange, cellsInRange, limitsInRange, Bool.and_eq_true, decide_eq_true_eq, and_assoc]
  · unfold SlotCopies.newest
    rw [ha, hb]
  · unfold SlotCopies.newest
    rw [ha, hb]
  · unfold SlotCopies.newest
    rw [ha, hb]
  · exact newest_a ha hb (.inl h)
  · exact newest_b ha hb (.inl h)
  · refine ⟨fun hreleased _ => newest_a ha hb (.inr ⟨heq, .inl hreleased⟩),
      fun hactive hreleased => newest_b ha hb (.inr ⟨heq, hactive, hreleased⟩), fun hstate => newest_a ha hb (.inr ⟨heq, ?_⟩)⟩
    cases hb' : b.state with
    | active => exact .inr rfl
    | released => exact .inl (hstate.trans hb')

end Sys2Proof.Machine

/-! One monitor's evaluation: its record, its requests to holds and lockout (R91, R103 to R107). -/

namespace Sys2Proof.Machine

section
variable {s t u : State} {x : SampleSet} {m : Monitor}

/-! ### Requests -/

/-- The record of a monitor number. -/
def State.monitor (s : State) (n : Nat) : Option Monitor := s.monitors.records.find? fun r => decide (r.number = n)

theorem monitor_number {n : Nat} (h : s.monitor n = some m) : m.number = n :=
  of_decide_eq_true (List.find?_some (p := fun r : Monitor => decide (r.number = n)) h)

theorem monitor_mem {n : Nat} (h : s.monitor n = some m) : m ∈ s.monitors.records := List.mem_of_find?_eq_some h

theorem escalate_active (e : Escalation) (s : State) : (escalate e s).lockout.record.state = .active := by
  cases h : s.lockout.record.state with
  | none =>
    rw [escalate_of_none e h]
    obtain ⟨hstate, -⟩ := beginLockout_record e s
    exact hstate
  | active => rw [escalate_record_of_active e h, h]

theorem escalate_begins (e : Escalation) (h : s.lockout.record.state = .none) :
    (escalate e s).lockout.record.state = .active ∧ (escalate e s).lockout.record.cause = some e.cause ∧
      (escalate e s).lockout.record.index = e.index := by
  rw [escalate_of_none e h]
  obtain ⟨hstate, hcause, hindex, -⟩ := beginLockout_record e s
  exact ⟨hstate, hcause, hindex⟩

/-- The state in which a monitor's raise has reached the hold set and, when it recurs, the lockout unit (R103, R107). -/
def raiseSent (x : SampleSet) (m : Monitor) (s : State) : State :=
  if recurs s.cfg.limits.window x.completed m.recurrence then
    escalate ⟨recurCause m.kind, m.index⟩ (raiseHold (raiseCause m.kind) m.index none s)
  else raiseHold (raiseCause m.kind) m.index none s

theorem sendRequest_raise (x : SampleSet) (m : Monitor) (s : State) :
    sendRequest x m s .raise = putMonitor { m with recurrence := (x.completed :: m.recurrence).take 2 } (raiseSent x m s) := by
  have hcfg : (raiseHold (raiseCause m.kind) m.index none s).cfg = s.cfg := by unfold State.cfg; simp
  unfold sendRequest raiseSent
  rw [← hcfg]

theorem sendRequest_lift (x : SampleSet) (m : Monitor) (s : State) :
    sendRequest x m s .lift = liftHold (raiseCause m.kind) m.index (putMonitor { m with raisedTap := none } s) := rfl

theorem raiseSent_monitors (x : SampleSet) (m : Monitor) (s : State) : (raiseSent x m s).monitors = s.monitors := by
  unfold raiseSent
  split <;> simp

theorem raiseSent_startup (x : SampleSet) (m : Monitor) (s : State) : (raiseSent x m s).startup = s.startup := by
  unfold raiseSent
  split <;> simp

theorem raiseSent_lockout_of_not (h : recurs s.cfg.limits.window x.completed m.recurrence = false) :
    (raiseSent x m s).lockout = s.lockout := by
  unfold raiseSent
  rw [h]
  exact raiseHold_lockout _ _ _ _

theorem raiseSent_of_recurs (h : recurs s.cfg.limits.window x.completed m.recurrence = true) :
    raiseSent x m s = escalate ⟨recurCause m.kind, m.index⟩ (raiseHold (raiseCause m.kind) m.index none s) := if_pos h

theorem raiseSent_active (h : s.lockout.record.state = .active) : (raiseSent x m s).lockout.record.state = .active := by
  unfold raiseSent
  split
  · exact escalate_active _ _
  · simpa using h

theorem raiseSent_ownHold (x : SampleSet) (m : Monitor) (s : State) :
    ((raiseSent x m s).ownHold (raiseCause m.kind) m.index).isSome = true := by
  obtain ⟨h, hh, -⟩ := raiseHold_ownHold_self (raiseCause m.kind) m.index none s
  have hraised : ((raiseHold (raiseCause m.kind) m.index none s).ownHold (raiseCause m.kind) m.index).isSome = true := by
    rw [hh]
    rfl
  unfold raiseSent
  split
  · rw [escalate_ownHold_of_ne _ _ (raiseCause_ne_lockout _)]
    exact hraised
  · exact hraised

theorem raiseSent_ownHold_of_ne {c : Cause} {i : Option Nat} (hc : c ≠ .lockout) (h : (c, i) ≠ (raiseCause m.kind, m.index)) :
    (raiseSent x m s).ownHold c i = s.ownHold c i := by
  unfold raiseSent
  split
  · rw [escalate_ownHold_of_ne _ _ hc, raiseHold_ownHold_of_ne _ _ h]
  · rw [raiseHold_ownHold_of_ne _ _ h]

/-- A lift leaves no hold of its key (R35). -/
theorem liftHold_ownHold_self (c : Cause) (i : Option Nat) (s : State) : (liftHold c i s).ownHold c i = none := by
  rw [ownHold_eq_none_iff, liftHold_own]
  intro h hh
  exact of_decide_eq_true (List.mem_filter.1 hh).2

theorem liftHold_ownHold_of_ne {c e : Cause} {i j : Option Nat} (s : State) (h : (e, j) ≠ (c, i)) :
    (liftHold c i s).ownHold e j = s.ownHold e j := by
  unfold State.ownHold
  rw [liftHold_own, List.find?_filter]
  congr 1
  funext y
  refine Bool.eq_iff_iff.2 ?_
  simp only [decide_eq_true_eq]
  refine ⟨fun hy => hy.2, fun hy => ⟨fun hk => h ?_, hy⟩⟩
  rw [← hy.1, ← hy.2, hk.1, hk.2]

theorem recurs_of_short (window : Nat) (now : ClockTime) {l : List ClockTime} (h : l.length < 2) : recurs window now l = false := by
  match l, h with
  | [], _ => rfl
  | [_], _ => rfl

/-! ### The record that an evaluation leaves -/

/-- What a request makes of the record of its monitor (R91 steps 2 and 3). -/
def requested (x : SampleSet) (m : Monitor) : MonitorRequest → Monitor
  | .quiet => m
  | .raise => { m with recurrence := (x.completed :: m.recurrence).take 2 }
  | .lift => { m with raisedTap := none }

/-- The severe count that a sample set leaves (R105, R106). -/
def State.severeAfter (s : State) (x : SampleSet) (m : Monitor) : Nat :=
  match s.severe x m with
  | some true => if s.cfg.limits.raiseCount ≤ m.severeCount + 1 then 0 else m.severeCount + 1
  | some false => 0
  | none => m.severeCount

/-- A monitor's record once it has been evaluated in a sample set. -/
def State.outcome (s : State) (x : SampleSet) (m : Monitor) : Monitor :=
  { requested x (s.judged x m) (s.taken x m).2.2 with severeCount := s.severeAfter x m }

/-- The key of the hold that a monitor would raise or lift in a sample set (R103). -/
def State.requestKey (s : State) (x : SampleSet) (m : Monitor) : Cause × Option Nat := (raiseCause m.kind, (s.judged x m).index)

/-- A raise of this monitor would recur (R107). -/
def State.raiseRecurs (s : State) (x : SampleSet) (m : Monitor) : Prop :=
  (s.taken x m).2.2 = .raise ∧ recurs s.cfg.limits.window x.completed m.recurrence = true

/-- The severe run of this monitor is complete (R106). -/
def State.severeDue (s : State) (x : SampleSet) (m : Monitor) : Prop :=
  s.severe x m = some true ∧ s.cfg.limits.raiseCount ≤ m.severeCount + 1

theorem requested_number (x : SampleSet) (m : Monitor) (q : MonitorRequest) : (requested x m q).number = m.number := by
  cases q <;> rfl

theorem requested_kind (x : SampleSet) (m : Monitor) (q : MonitorRequest) : (requested x m q).kind = m.kind := by
  cases q <;> rfl

theorem requested_severeCount (x : SampleSet) (m : Monitor) (q : MonitorRequest) :
    (requested x m q).severeCount = m.severeCount := by
  cases q <;> rfl

theorem outcome_ident (s : State) (x : SampleSet) (m : Monitor) : (s.outcome x m).ident = m.ident := by
  unfold State.outcome requested
  cases (s.taken x m).2.2 <;> rfl

/-- Records replaced by one record of the same number twice: the second stands. -/
theorem map_replace_replace {n : Nat} {a b : Monitor} (ha : a.number = n) (l : List Monitor) :
    (l.map fun r => if r.number = n then a else r).map (fun r => if r.number = n then b else r) =
      l.map fun r => if r.number = n then b else r := by
  rw [List.map_map]
  refine List.map_congr_left fun r _ => ?_
  simp only [Function.comp_apply]
  by_cases hr : r.number = n
  · rw [if_pos hr, if_pos ha, if_pos hr]
  · rw [if_neg hr]

theorem sendRequest_records (x : SampleSet) (m : Monitor) (s : State) (q : MonitorRequest) :
    (sendRequest x m (putMonitor m s) q).monitors.records =
      s.monitors.records.map fun r => if r.number = m.number then requested x m q else r := by
  cases q with
  | quiet => rfl
  | raise =>
    rw [sendRequest_raise]
    show (raiseSent x m (putMonitor m s)).monitors.records.map _ = _
    rw [raiseSent_monitors]
    exact map_replace_replace (n := m.number) rfl _
  | lift =>
    rw [sendRequest_lift, liftHold_monitors]
    exact map_replace_replace (n := m.number) rfl _

/-- Only a kind with a severe level judges severity (R92, R93, R95, R105). -/
theorem severe_cause {b : Bool} (h : s.severe x m = some b) : ∃ k, severeCause m.kind = some k := by
  unfold State.severe at h
  cases hk : m.kind <;> simp [hk, severeCause] at h ⊢

/-- The severe judgement on a record: its count, its escalation, or nothing (R105, R106). -/
theorem takeSevere_of_true {n : Nat} {k : LockoutCause} (hm : s.monitor n = some m) (hk : severeCause m.kind = some k) :
    takeSevere (some true) n s =
      if s.cfg.limits.raiseCount ≤ m.severeCount + 1 then escalate ⟨k, m.index⟩ (putMonitor { m with severeCount := 0 } s)
      else putMonitor { m with severeCount := m.severeCount + 1 } s := by
  unfold takeSevere
  rw [show (s.monitors.records.find? fun r => decide (r.number = n)) = some m from hm]
  dsimp only
  rw [hk]

theorem takeSevere_of_false {n : Nat} (hm : s.monitor n = some m) :
    takeSevere (some false) n s = putMonitor { m with severeCount := 0 } s := by
  unfold takeSevere
  rw [show (s.monitors.records.find? fun r => decide (r.number = n)) = some m from hm]

theorem takeSevere_of_none (n : Nat) (s : State) : takeSevere none n s = s := by
  unfold takeSevere
  split <;> rfl

/-- The state in which a monitor's request has been sent (R91 steps 1 to 3). -/
def State.sent (s : State) (x : SampleSet) (m : Monitor) : State :=
  sendRequest x (s.judged x m) (putMonitor (s.judged x m) s) (s.taken x m).2.2

theorem evaluateOne_eq {n : Nat} (h : s.monitor n = some m) :
    evaluateOne x s n = takeSevere (s.severe x m) n (s.sent x m) := evaluateOne_of_find x h

theorem sent_records (s : State) (x : SampleSet) (m : Monitor) :
    (s.sent x m).monitors.records =
      s.monitors.records.map fun r => if r.number = m.number then requested x (s.judged x m) (s.taken x m).2.2 else r :=
  sendRequest_records x (s.judged x m) s _

theorem sent_cfg (s : State) (x : SampleSet) (m : Monitor) : (s.sent x m).cfg = s.cfg := by
  unfold State.cfg State.sent
  simp

/-- A record replaced in a list that holds its number is found under it. -/
theorem find?_map_replace {n : Nat} {a : Monitor} (ha : a.number = n) {l : List Monitor}
    (h : (l.find? fun r => decide (r.number = n)).isSome = true) :
    (l.map fun r => if r.number = n then a else r).find? (fun r => decide (r.number = n)) = some a := by
  induction l with
  | nil => cases h
  | cons y l ih =>
    rw [List.map_cons]
    by_cases hy : y.number = n
    · rw [if_pos hy]
      exact List.find?_cons_of_pos (decide_eq_true ha)
    · rw [if_neg hy, List.find?_cons_of_neg (by simpa using hy)]
      refine ih ?_
      rwa [List.find?_cons_of_neg (by simpa using hy)] at h

theorem sent_monitor {n : Nat} (h : s.monitor n = some m) :
    (s.sent x m).monitor n = some (requested x (s.judged x m) (s.taken x m).2.2) := by
  have hn : m.number = n := monitor_number h
  unfold State.monitor
  rw [sent_records, hn]
  refine find?_map_replace ((requested_number x (s.judged x m) _).trans hn) ?_
  rw [show (s.monitors.records.find? fun r => decide (r.number = n)) = some m from h]
  rfl

theorem requested_kind_judged (s : State) (x : SampleSet) (m : Monitor) :
    (requested x (s.judged x m) (s.taken x m).2.2).kind = m.kind := requested_kind _ _ _

theorem requested_severeCount_judged (s : State) (x : SampleSet) (m : Monitor) :
    (requested x (s.judged x m) (s.taken x m).2.2).severeCount = m.severeCount := requested_severeCount _ _ _

/-- An evaluation replaces its own record by the outcome and leaves the others (R91). -/
theorem evaluateOne_records {n : Nat} (h : s.monitor n = some m) :
    (evaluateOne x s n).monitors.records = s.monitors.records.map fun r => if r.number = n then s.outcome x m else r := by
  have hn : m.number = n := monitor_number h
  have hrecord := sent_monitor (x := x) h
  have hput : ∀ c, (putMonitor { requested x (s.judged x m) (s.taken x m).2.2 with severeCount := c } (s.sent x m)).monitors.records =
      s.monitors.records.map fun r =>
        if r.number = n then { requested x (s.judged x m) (s.taken x m).2.2 with severeCount := c } else r := by
    intro c
    have hnumber : (requested x (s.judged x m) (s.taken x m).2.2).number = n := (requested_number _ _ _).trans hn
    show (s.sent x m).monitors.records.map (fun r => if r.number = (requested x (s.judged x m) (s.taken x m).2.2).number then _ else r) = _
    rw [sent_records, hn, hnumber]
    exact map_replace_replace hnumber _
  rw [evaluateOne_eq h]
  unfold State.outcome State.severeAfter
  cases hsevere : s.severe x m with
  | none =>
    rw [takeSevere_of_none, sent_records, hn]
    refine List.map_congr_left fun r _ => ?_
    rw [← requested_severeCount_judged s x m]
  | some b =>
    cases b with
    | false =>
      rw [takeSevere_of_false hrecord]
      exact hput 0
    | true =>
      obtain ⟨k, hk⟩ := severe_cause hsevere
      rw [takeSevere_of_true hrecord ((congrArg severeCause (requested_kind_judged s x m)).trans hk), sent_cfg,
        requested_severeCount_judged]
      dsimp only
      split
      · rw [escalate_monitors]
        exact hput 0
      · exact hput _

/-! ### What an evaluation does to holds and lockout -/

theorem sent_lockout_of_not (h : ¬ s.raiseRecurs x m) : (s.sent x m).lockout = s.lockout := by
  unfold State.sent
  cases hq : (s.taken x m).2.2 with
  | quiet => rfl
  | lift => rw [sendRequest_lift, liftHold_lockout]; rfl
  | raise =>
    rw [sendRequest_raise]
    exact raiseSent_lockout_of_not (s := putMonitor (s.judged x m) s) (Bool.eq_false_of_not_eq_true fun hr => h ⟨hq, hr⟩)

theorem sent_active (h : s.lockout.record.state = .active) : (s.sent x m).lockout.record.state = .active := by
  unfold State.sent
  cases (s.taken x m).2.2 with
  | quiet => exact h
  | lift => rw [sendRequest_lift, liftHold_lockout]; exact h
  | raise =>
    rw [sendRequest_raise]
    exact raiseSent_active (s := putMonitor (s.judged x m) s) h

theorem takeSevere_ownHold (v : Option Bool) (n : Nat) {c : Cause} (hc : c ≠ .lockout) (i : Option Nat) :
    (takeSevere v n s).ownHold c i = s.ownHold c i := by
  unfold takeSevere
  split
  · rfl
  · split
    · split
      · rw [escalate_ownHold_of_ne _ _ hc]
        rfl
      · rfl
    · rfl
    · rfl

theorem takeSevere_active (v : Option Bool) (n : Nat) (h : s.lockout.record.state = .active) :
    (takeSevere v n s).lockout.record.state = .active := by
  unfold takeSevere
  split
  · exact h
  · split
    · split
      · exact escalate_active _ _
      · exact h
    · exact h
    · exact h

theorem evaluateOne_active {n : Nat} (h : s.lockout.record.state = .active) :
    (evaluateOne x s n).lockout.record.state = .active := by
  cases hm : s.monitor n with
  | none => rw [evaluateOne_of_absent x hm]; exact h
  | some m =>
    rw [evaluateOne_eq hm]
    exact takeSevere_active _ _ (sent_active h)

/-- A complete severe run leaves a lockout active (R106). -/
theorem evaluateOne_of_severeDue {n : Nat} (hm : s.monitor n = some m) (h : s.severeDue x m) :
    (evaluateOne x s n).lockout.record.state = .active := by
  obtain ⟨hsevere, hcount⟩ := h
  obtain ⟨k, hk⟩ := severe_cause hsevere
  rw [evaluateOne_eq hm, hsevere, takeSevere_of_true (sent_monitor hm) ((congrArg severeCause (requested_kind_judged s x m)).trans hk),
    sent_cfg, requested_severeCount_judged, if_pos hcount]
  exact escalate_active _ _

/-- An evaluation that asks for no lockout leaves the lockout unit (R106, R107). -/
theorem evaluateOne_lockout_of_quiet {n : Nat} (hm : s.monitor n = some m) (hrecurs : ¬ s.raiseRecurs x m) (hdue : ¬ s.severeDue x m) :
    (evaluateOne x s n).lockout = s.lockout := by
  rw [evaluateOne_eq hm]
  refine Eq.trans ?_ (sent_lockout_of_not hrecurs)
  cases hsevere : s.severe x m with
  | none => rw [takeSevere_of_none]
  | some b =>
    cases b with
    | false => rw [takeSevere_of_false (sent_monitor hm)]; rfl
    | true =>
      obtain ⟨k, hk⟩ := severe_cause hsevere
      rw [takeSevere_of_true (sent_monitor hm) ((congrArg severeCause (requested_kind_judged s x m)).trans hk), sent_cfg,
        requested_severeCount_judged, if_neg fun hcount => hdue ⟨hsevere, hcount⟩]
      rfl

theorem evaluateOne_ownHold {n : Nat} (hm : s.monitor n = some m) {c : Cause} (hc : c ≠ .lockout) (i : Option Nat) :
    (evaluateOne x s n).ownHold c i = (s.sent x m).ownHold c i := by
  rw [evaluateOne_eq hm, takeSevere_ownHold _ _ hc]

theorem evaluateOne_ownHold_of_ne {n : Nat} (hm : s.monitor n = some m) {c : Cause} {i : Option Nat} (hc : c ≠ .lockout)
    (h : (c, i) ≠ s.requestKey x m) : (evaluateOne x s n).ownHold c i = s.ownHold c i := by
  rw [evaluateOne_ownHold hm hc]
  unfold State.sent
  cases (s.taken x m).2.2 with
  | quiet => rfl
  | lift =>
    rw [sendRequest_lift]
    exact liftHold_ownHold_of_ne _ h
  | raise =>
    rw [sendRequest_raise]
    exact raiseSent_ownHold_of_ne (s := putMonitor (s.judged x m) s) hc h

theorem evaluateOne_ownHold_of_raise {n : Nat} (hm : s.monitor n = some m) (h : (s.taken x m).2.2 = .raise) :
    ((evaluateOne x s n).ownHold (s.requestKey x m).1 (s.requestKey x m).2).isSome = true := by
  rw [evaluateOne_ownHold hm (c := (s.requestKey x m).1) (raiseCause_ne_lockout _)]
  unfold State.sent
  rw [h, sendRequest_raise]
  exact raiseSent_ownHold x (s.judged x m) _

theorem evaluateOne_ownHold_of_lift {n : Nat} (hm : s.monitor n = some m) (h : (s.taken x m).2.2 = .lift) :
    (evaluateOne x s n).ownHold (s.requestKey x m).1 (s.requestKey x m).2 = none := by
  rw [evaluateOne_ownHold hm (c := (s.requestKey x m).1) (raiseCause_ne_lockout _)]
  unfold State.sent
  rw [h, sendRequest_lift]
  exact liftHold_ownHold_self _ _ _

end

end Sys2Proof.Machine

/-! A sweep's completion in the monitor bank: every record evaluated once, its requests kept to the end (R83, R91). -/

namespace Sys2Proof.Machine

section
variable {s t u : State} {x : SampleSet} {m : Monitor}

/-! ### Evaluation reads the configuration alone -/

theorem classify_congr (h : t.startup.config = s.startup.config) (x : SampleSet) (m : Monitor) : t.classify x m = s.classify x m := by
  unfold State.classify State.lowestOpenTap State.fittedTaps State.fittedCells State.fitted State.cfg
  rw [h]

theorem taken_congr (h : t.startup.config = s.startup.config) (x : SampleSet) (m : Monitor) : t.taken x m = s.taken x m := by
  unfold State.taken
  rw [classify_congr h]
  unfold State.cfg
  rw [h]

theorem severe_congr (h : t.startup.config = s.startup.config) (x : SampleSet) (m : Monitor) : t.severe x m = s.severe x m := by
  unfold State.severe State.cfg
  rw [h]

theorem judged_congr (h : t.startup.config = s.startup.config) (x : SampleSet) (m : Monitor) : t.judged x m = s.judged x m := by
  unfold State.judged
  rw [taken_congr h, classify_congr h]
  unfold State.lowestOpenTap State.fittedTaps State.fitted State.cfg
  rw [h]

theorem outcome_congr (h : t.startup.config = s.startup.config) (x : SampleSet) (m : Monitor) : t.outcome x m = s.outcome x m := by
  unfold State.outcome State.severeAfter
  rw [judged_congr h, taken_congr h, severe_congr h]
  unfold State.cfg
  rw [h]

theorem requestKey_congr (h : t.startup.config = s.startup.config) (x : SampleSet) (m : Monitor) :
    t.requestKey x m = s.requestKey x m := by
  unfold State.requestKey
  rw [judged_congr h]

theorem raiseRecurs_congr (h : t.startup.config = s.startup.config) (x : SampleSet) (m : Monitor) :
    t.raiseRecurs x m ↔ s.raiseRecurs x m := by
  unfold State.raiseRecurs
  rw [taken_congr h]
  unfold State.cfg
  rw [h]

theorem severeDue_congr (h : t.startup.config = s.startup.config) (x : SampleSet) (m : Monitor) :
    t.severeDue x m ↔ s.severeDue x m := by
  unfold State.severeDue
  rw [severe_congr h]
  unfold State.cfg
  rw [h]

/-! ### Evaluations in a row -/

/-- From s to t monitors of the numbers l have been evaluated: what the others are told by is as it was, and what their requests do
not reach. -/
structure Evaluated (x : SampleSet) (l : List Nat) (s t : State) : Prop where
  startup : t.startup = s.startup
  monitors : ∀ k, k ∉ l → t.monitor k = s.monitor k
  holds : ∀ c i, c ≠ .lockout → (∀ n ∈ l, ∀ m, s.monitor n = some m → (c, i) ≠ s.requestKey x m) → t.ownHold c i = s.ownHold c i
  active : s.lockout.record.state = .active → t.lockout.record.state = .active
  lockout : (∀ n ∈ l, ∀ m, s.monitor n = some m → ¬ s.raiseRecurs x m ∧ ¬ s.severeDue x m) → t.lockout = s.lockout

theorem Evaluated.config (h : Evaluated x l s t) : t.startup.config = s.startup.config := by rw [h.startup]

/-- Records of other numbers are found as they were under a replaced one. -/
theorem find?_map_replace_of_ne {n k : Nat} {a : Monitor} (ha : a.number = n) (hk : k ≠ n) (l : List Monitor) :
    (l.map fun r => if r.number = n then a else r).find? (fun r => decide (r.number = k)) = l.find? fun r => decide (r.number = k) := by
  induction l with
  | nil => rfl
  | cons y l ih =>
    rw [List.map_cons]
    by_cases hy : y.number = n
    · rw [if_pos hy, List.find?_cons_of_neg (by simpa [ha] using Ne.symm hk), List.find?_cons_of_neg (by simpa [hy] using Ne.symm hk)]
      exact ih
    · rw [if_neg hy]
      by_cases hyk : y.number = k
      · rw [List.find?_cons_of_pos (by simpa using hyk), List.find?_cons_of_pos (by simpa using hyk)]
      · rw [List.find?_cons_of_neg (by simpa using hyk), List.find?_cons_of_neg (by simpa using hyk)]
        exact ih

theorem outcome_number (s : State) (x : SampleSet) (m : Monitor) : (s.outcome x m).number = m.number :=
  congrArg Prod.fst (outcome_ident s x m)

theorem evaluateOne_evaluated (x : SampleSet) (n : Nat) (s : State) : Evaluated x [n] s (evaluateOne x s n) := by
  cases hm : s.monitor n with
  | none =>
    rw [evaluateOne_of_absent x hm]
    exact ⟨rfl, fun _ _ => rfl, fun _ _ _ _ => rfl, id, fun _ => rfl⟩
  | some m =>
    refine ⟨by simp, fun k hk => ?_, fun c i hc h => ?_, evaluateOne_active, fun h => ?_⟩
    · unfold State.monitor
      rw [evaluateOne_records hm]
      exact find?_map_replace_of_ne ((outcome_number s x m).trans (monitor_number hm)) (by simpa using hk) _
    · exact evaluateOne_ownHold_of_ne hm hc (h n (List.mem_singleton.2 rfl) m hm)
    · obtain ⟨hrecurs, hdue⟩ := h n (List.mem_singleton.2 rfl) m hm
      exact evaluateOne_lockout_of_quiet hm hrecurs hdue

theorem Evaluated.trans {k l : List Nat} (h : Evaluated x k s t) (h' : Evaluated x l t u) (hdisjoint : ∀ n ∈ l, n ∉ k) :
    Evaluated x (k ++ l) s u := by
  have hback : ∀ n ∈ l, ∀ m, t.monitor n = some m → s.monitor n = some m := fun n hn m hm => by
    rwa [h.monitors n (hdisjoint n hn)] at hm
  refine ⟨h'.startup.trans h.startup, fun n hn => ?_, fun c i hc hkeys => ?_, fun ha => h'.active (h.active ha), fun hquiet => ?_⟩
  · rw [List.mem_append, not_or] at hn
    exact (h'.monitors n hn.2).trans (h.monitors n hn.1)
  · refine (h'.holds c i hc fun n hn m hm => ?_).trans (h.holds c i hc fun n hn => hkeys n (List.mem_append_left _ hn))
    rw [requestKey_congr h.config]
    exact hkeys n (List.mem_append_right _ hn) m (hback n hn m hm)
  · refine (h'.lockout fun n hn m hm => ?_).trans (h.lockout fun n hn => hquiet n (List.mem_append_left _ hn))
    rw [raiseRecurs_congr h.config, severeDue_congr h.config]
    exact hquiet n (List.mem_append_right _ hn) m (hback n hn m hm)

theorem evaluateAll_evaluated {l : List Nat} (hl : l.Nodup) (x : SampleSet) (s : State) :
    Evaluated x l s (l.foldl (evaluateOne x) s) := by
  induction l generalizing s with
  | nil => exact ⟨rfl, fun _ _ => rfl, fun _ _ _ _ => rfl, id, fun _ => rfl⟩
  | cons n l ih =>
    obtain ⟨hn, hrest⟩ := List.nodup_cons.1 hl
    exact (evaluateOne_evaluated x n s).trans (ih hrest _) fun k hk hkn => hn (List.mem_singleton.1 hkn ▸ hk)

/-- What a monitor's own evaluation leaves lasts to the end, as the others' requests have other keys. -/
theorem evaluateAll_split {l : List Nat} (hl : l.Nodup) (x : SampleSet) {n : Nat} (hn : n ∈ l) (s : State) :
    ∃ before after u, Evaluated x before s u ∧ Evaluated x after (evaluateOne x u n) (l.foldl (evaluateOne x) s) ∧
      n ∉ before ∧ n ∉ after ∧ ∀ k ∈ after, k ∉ before := by
  obtain ⟨before, after, rfl⟩ := List.append_of_mem hn
  have hparts := List.nodup_append.1 hl
  obtain ⟨hbefore, hcons, hdisjoint⟩ := hparts
  obtain ⟨hnafter, hafter⟩ := List.nodup_cons.1 hcons
  refine ⟨before, after, before.foldl (evaluateOne x) s, evaluateAll_evaluated hbefore x s, ?_, fun h => ?_, hnafter, fun k hk hkb => ?_⟩
  · rw [List.foldl_append, List.foldl_cons]
    exact evaluateAll_evaluated hafter x _
  · exact hdisjoint n h n List.mem_cons_self rfl
  · exact hdisjoint k hkb k (List.mem_cons_of_mem _ hk) rfl

/-! ### Keys -/

theorem raiseCause_injective {a b : MonitorKind} (h : raiseCause a = raiseCause b) : a = b := by
  cases a <;> cases b <;> simp [raiseCause] at h ⊢

/-- The number that kind and cell of a formed monitor give (R89). -/
def monitorNumber (k : MonitorKind) (cell : Option Nat) : Nat :=
  match k with
  | .high => cell.getD 0
  | .low => 10 + cell.getD 0
  | .tap => 21
  | .hot => 22
  | .cold => 23
  | .sum => 24

theorem formMonitors_number {fitted : Nat} (h : m ∈ formMonitors fitted) : m.number = monitorNumber m.kind m.cell := by
  unfold formMonitors at h
  simp only [List.mem_append, List.mem_map] at h
  rcases h with (⟨c, -, rfl⟩ | ⟨c, -, rfl⟩) | h
  · rfl
  · rfl
  · simp only [List.mem_cons, List.not_mem_nil, or_false] at h
    rcases h with rfl | rfl | rfl | rfl <;> rfl

theorem MonitorsShaped.number (hs : MonitorsShaped s) (hm : m ∈ s.monitors.records) : m.number = monitorNumber m.kind m.cell := by
  rcases hs with h | h
  · rw [h] at hm
    cases hm
  · have hident : m.ident ∈ (formMonitors s.fitted).map Monitor.ident := h ▸ List.mem_map_of_mem hm
    obtain ⟨r, hr, hri⟩ := List.mem_map.1 hident
    obtain ⟨hnumber, hkind, hcell⟩ : r.number = m.number ∧ r.kind = m.kind ∧ r.cell = m.cell := by
      simpa [Monitor.ident] using hri
    rw [← hnumber, ← hkind, ← hcell]
    exact formMonitors_number hr

theorem index_of_not_tap (h : m.kind ≠ .tap) : m.index = m.cell := by
  unfold Monitor.index
  split
  · next hk => exact absurd hk h
  · rfl

theorem index_of_tap (h : m.kind = .tap) : m.index = m.raisedTap := by
  unfold Monitor.index
  rw [h]

/-- The number of a monitor is told by the key of its requests (R25, R89, R103). -/
theorem MonitorsShaped.number_of_key (hs : MonitorsShaped s) {a b : Monitor} (ha : a ∈ s.monitors.records)
    (hb : b ∈ s.monitors.records) (h : s.requestKey x a = s.requestKey x b) : a.number = b.number := by
  have hkind : a.kind = b.kind := raiseCause_injective (congrArg Prod.fst h)
  have hindex : (s.judged x a).index = (s.judged x b).index := congrArg Prod.snd h
  rw [hs.number ha, hs.number hb, hkind]
  by_cases htap : b.kind = .tap
  · rw [htap]
    rfl
  · rw [index_of_not_tap (show (s.judged x a).kind ≠ .tap from hkind ▸ htap), index_of_not_tap (show (s.judged x b).kind ≠ .tap from htap)] at hindex
    rw [show a.cell = b.cell from hindex]

theorem monitor_of_mem (hnodup : (s.monitors.records.map Monitor.number).Nodup) (hm : m ∈ s.monitors.records) :
    s.monitor m.number = some m := by
  cases h : s.monitor m.number with
  | none => exact absurd (decide_eq_true rfl) (List.find?_eq_none.1 h m hm)
  | some r => rw [List.inj_on_of_nodup_map hnodup (monitor_mem h) hm (monitor_number h)]

/-- The key of a raise: the lowest open tap for TAP, else the cell (R103). -/
theorem requestKey_of_raise (h : (s.taken x m).2.2 = .raise) :
    s.requestKey x m = (raiseCause m.kind, if m.kind = .tap then s.fittedTaps.find? x.isOpen else m.cell) := by
  unfold State.requestKey
  by_cases htap : m.kind = .tap
  · rw [index_of_tap (show (s.judged x m).kind = .tap from htap), if_pos htap]
    unfold State.judged
    rw [if_pos ⟨htap, h⟩]
    rfl
  · rw [index_of_not_tap (show (s.judged x m).kind ≠ .tap from htap), if_neg htap]
    rfl

theorem requestKey_of_not_raise (h : (s.taken x m).2.2 ≠ .raise) : s.requestKey x m = (raiseCause m.kind, m.index) := by
  unfold State.requestKey
  by_cases htap : m.kind = .tap
  · rw [index_of_tap (show (s.judged x m).kind = .tap from htap), index_of_tap htap]
    unfold State.judged
    rw [if_neg fun hk => h hk.2]
  · rw [index_of_not_tap (show (s.judged x m).kind ≠ .tap from htap), index_of_not_tap htap]
    rfl

/-! ### All monitors evaluated -/

theorem evaluateMonitors_monitor (x : SampleSet) (s : State) (n : Nat) :
    (evaluateMonitors x s).monitor n = ((s.monitors.records.map fun m => m.number).foldl (evaluateOne x) s).monitor n := rfl

theorem evaluateMonitors_ownHold (x : SampleSet) (s : State) (c : Cause) (i : Option Nat) :
    (evaluateMonitors x s).ownHold c i = ((s.monitors.records.map fun m => m.number).foldl (evaluateOne x) s).ownHold c i := rfl

/-- A record found by number after its own evaluation. -/
theorem evaluateOne_monitor {n : Nat} (hm : s.monitor n = some m) : (evaluateOne x s n).monitor n = some (s.outcome x m) := by
  unfold State.monitor
  rw [evaluateOne_records hm]
  refine find?_map_replace ((outcome_number s x m).trans (monitor_number hm)) ?_
  rw [show (s.monitors.records.find? fun r => decide (r.number = n)) = some m from hm]
  rfl

/-- What the evaluation of all monitors makes of each (R91). -/
theorem evaluateMonitors_of_mem (hs : MonitorsShaped s) (x : SampleSet) (hm : m ∈ s.monitors.records) :
    (evaluateMonitors x s).monitor m.number = some (s.outcome x m) ∧
      ((s.taken x m).2.2 = .raise →
        ((evaluateMonitors x s).ownHold (s.requestKey x m).1 (s.requestKey x m).2).isSome = true) ∧
      ((s.taken x m).2.2 = .lift → (evaluateMonitors x s).ownHold (s.requestKey x m).1 (s.requestKey x m).2 = none) ∧
      (s.severeDue x m → (evaluateMonitors x s).lockout.record.state = .active) := by
  have hnodup := monitor_numbers_nodup hs
  obtain ⟨before, after, u, hbefore, hafter, hnb, hna, hdisjoint⟩ := evaluateAll_split hnodup x (List.mem_map_of_mem hm) s
  have hum : u.monitor m.number = some m := (hbefore.monitors _ hnb).trans (monitor_of_mem hnodup hm)
  have hone := evaluateOne_evaluated x m.number u
  have hconfig : (evaluateOne x u m.number).startup.config = s.startup.config := hone.config.trans hbefore.config
  have hkept : (evaluateMonitors x s).ownHold (s.requestKey x m).1 (s.requestKey x m).2 =
      (evaluateOne x u m.number).ownHold (s.requestKey x m).1 (s.requestKey x m).2 := by
    refine hafter.holds _ _ (raiseCause_ne_lockout _) fun n hn r hr hkey => ?_
    have hne : n ≠ m.number := fun h => hna (h ▸ hn)
    rw [hone.monitors n (by simpa using hne), hbefore.monitors n (hdisjoint n hn)] at hr
    rw [requestKey_congr hconfig] at hkey
    exact hne ((monitor_number hr).symm.trans (hs.number_of_key (monitor_mem hr) hm hkey.symm))
  have htaken : u.taken x m = s.taken x m := taken_congr hbefore.config x m
  have hkey : u.requestKey x m = s.requestKey x m := requestKey_congr hbefore.config x m
  refine ⟨?_, fun h => ?_, fun h => ?_, fun h => ?_⟩
  · rw [evaluateMonitors_monitor]
    exact (hafter.monitors _ hna).trans ((evaluateOne_monitor hum).trans (congrArg some (outcome_congr hbefore.config x m)))
  · rw [hkept, ← hkey]
    exact evaluateOne_ownHold_of_raise hum (htaken ▸ h)
  · rw [hkept, ← hkey]
    exact evaluateOne_ownHold_of_lift hum (htaken ▸ h)
  · exact hafter.active (evaluateOne_of_severeDue hum ((severeDue_congr hbefore.config x m).2 h))

/-- Where no monitor asks for a lockout the lockout unit stays (R106, R107). -/
theorem evaluateMonitors_lockout (hs : MonitorsShaped s) (x : SampleSet)
    (h : ∀ m ∈ s.monitors.records, ¬ s.raiseRecurs x m ∧ ¬ s.severeDue x m) : (evaluateMonitors x s).lockout = s.lockout :=
  (evaluateAll_evaluated (monitor_numbers_nodup hs) x s).lockout fun _ _ m hm => h m (monitor_mem hm)

/-- Evaluation keeps which monitors there are, and their order (R89). -/
theorem evaluateAll_ident (x : SampleSet) (l : List Nat) (hnodup : (s.monitors.records.map Monitor.number).Nodup) :
    (l.foldl (evaluateOne x) s).monitors.records.map Monitor.ident = s.monitors.records.map Monitor.ident := by
  induction l generalizing s with
  | nil => rfl
  | cons n l ih =>
    have hone : (evaluateOne x s n).monitors.records.map Monitor.ident = s.monitors.records.map Monitor.ident := by
      cases hm : s.monitor n with
      | none => rw [evaluateOne_of_absent x hm]
      | some m =>
        rw [evaluateOne_records hm, List.map_map]
        refine List.map_congr_left fun r hr => ?_
        show Monitor.ident (if r.number = n then s.outcome x m else r) = r.ident
        split
        · next hn =>
          rw [outcome_ident, List.inj_on_of_nodup_map hnodup hr (monitor_mem hm) (hn.trans (monitor_number hm).symm)]
        · rfl
    have hnumbers : (evaluateOne x s n).monitors.records.map Monitor.number = s.monitors.records.map Monitor.number := by
      have h := congrArg (List.map Prod.fst) hone
      rwa [List.map_map, List.map_map] at h
    exact (ih (hnumbers ▸ hnodup)).trans hone

theorem evaluateMonitors_ident (hs : MonitorsShaped s) (x : SampleSet) :
    (evaluateMonitors x s).monitors.records.map Monitor.ident = s.monitors.records.map Monitor.ident :=
  evaluateAll_ident x _ (monitor_numbers_nodup hs)

end

end Sys2Proof.Machine

/-! JOIN entry, and the monitors' requests at a sweep's completion (R83, R84, R91, R103 to R107, R167). -/

namespace Sys2Proof.Machine

section
variable {s t : State} {x : SampleSet} {m : Monitor}

/-! ### JOIN entry -/

/-- JOIN entry but for the DISCORD hold judged at its end (R167). -/
def joinedState (s : State) : State := startTally (setAnnounce (announceHolds (enterRoster (setMode .join s))))

theorem joinEntry_eq (s : State) : joinEntry s = judgeDiscord (joinedState s) := rfl

theorem announceHolds_own (s : State) : (announceHolds s).holds.own = s.holds.own := by
  unfold announceHolds
  have hfold : ∀ (l : List OwnHold) (u : State),
      (l.foldl (fun t h => appendNotice .hold h.serial false t) u).holds.own = u.holds.own := by
    intro l
    induction l with
    | nil => exact fun _ => rfl
    | cons h l ih => exact fun u => (ih _).trans (appendNotice_holds_own _ _ _ _)
  exact hfold _ _

theorem joinedState_own (s : State) : (joinedState s).holds.own = s.holds.own := by
  unfold joinedState
  rw [startTally_holds, setAnnounce_holds, announceHolds_own, enterRoster_holds, setMode_holds]

theorem judgeDiscord_ownHold_of_ne {c : Cause} (hc : c ≠ .discord) (i : Option Nat) (s : State) :
    (judgeDiscord s).ownHold c i = s.ownHold c i := by
  have hne : (c, i) ≠ (Cause.discord, none) := fun h => hc (congrArg Prod.fst h)
  unfold judgeDiscord
  split
  · rfl
  · split
    · exact raiseHold_ownHold_of_ne _ _ hne
    · exact liftHold_ownHold_of_ne _ hne

theorem joinEntry_ownHold_of_ne {c : Cause} (hc : c ≠ .discord) (i : Option Nat) (s : State) :
    (joinEntry s).ownHold c i = s.ownHold c i := by
  rw [joinEntry_eq, judgeDiscord_ownHold_of_ne hc, ownHold_congr (joinedState_own s)]

/-! ### A sweep's completion -/

/-- The state in which a sweep's readings reach the monitors: past START or in the first sweep's completion (R83, R84). -/
def readingsTaken (r : Readings) (s : State) : State :=
  if s.ballot.mode = .start then
    (takeReadings r s).setStartup { s.startup with firstSweepComplete := true }
  else takeReadings r s

theorem readingsTaken_frame (r : Readings) (s : State) :
    (readingsTaken r s).monitors = s.monitors ∧ (readingsTaken r s).lockout = s.lockout ∧
      (readingsTaken r s).startup.config = s.startup.config ∧ (readingsTaken r s).holds = s.holds ∧
      (readingsTaken r s).sweep.latest = some (sampleSetOf r s.now) ∧ (readingsTaken r s).ballot = s.ballot := by
  unfold readingsTaken
  split <;> exact ⟨rfl, rfl, rfl, rfl, rfl, rfl⟩

theorem deliverSweep_readingsTaken (r : Readings) (s : State) :
    deliverSweep (readingsTaken r s) = sweepPlanPoint (evaluateMonitors (sampleSetOf r s.now) (readingsTaken r s)) := by
  obtain ⟨-, -, -, -, hlatest, -⟩ := readingsTaken_frame r s
  unfold deliverSweep
  rw [hlatest]

/-- A completion that reaches the monitors; the first sweep's, with the store read, ends START (R83, R84). -/
theorem completeSweep_eq (r : Readings) (hsweep : s.sweep.inProgress = true)
    (hread : s.ballot.mode ≠ .start ∨ s.startup.readComplete = true) :
    completeSweep r s =
      if s.ballot.mode = .start then joinEntry (deliverSweep (readingsTaken r s)) else deliverSweep (readingsTaken r s) := by
  by_cases hmode : s.ballot.mode = .start
  · have hcomplete : s.startup.readComplete = true := hread.resolve_left (not_not.2 hmode)
    have hmode' : (takeReadings r s).ballot.mode = .start := hmode
    have hcomplete' : (takeReadings r s).startup.readComplete = true := hcomplete
    unfold completeSweep completeFirstSweep readingsTaken
    rw [if_pos hsweep, if_pos hmode]
    dsimp only
    rw [if_pos hmode', if_pos (show ((takeReadings r s).setStartup { (takeReadings r s).startup with firstSweepComplete := true }).startup.readComplete = true from hcomplete'), if_pos hmode]
    rfl
  · have hmode' : (takeReadings r s).ballot.mode ≠ .start := hmode
    unfold completeSweep readingsTaken
    rw [if_pos hsweep, if_neg hmode]
    dsimp only
    rw [if_neg hmode', if_neg hmode]

/-- What a sweep's completion leaves of the monitors' evaluation: records, lockout unit, and every hold but DISCORD's. -/
theorem completeSweep_monitors (r : Readings) (hsweep : s.sweep.inProgress = true)
    (hread : s.ballot.mode ≠ .start ∨ s.startup.readComplete = true) :
    (completeSweep r s).monitors = (evaluateMonitors (sampleSetOf r s.now) (readingsTaken r s)).monitors ∧
      (completeSweep r s).lockout = (evaluateMonitors (sampleSetOf r s.now) (readingsTaken r s)).lockout ∧
      ∀ c i, c ≠ .discord → (completeSweep r s).ownHold c i =
        (evaluateMonitors (sampleSetOf r s.now) (readingsTaken r s)).ownHold c i := by
  rw [completeSweep_eq r hsweep hread, deliverSweep_readingsTaken]
  split
  · refine ⟨by simp, by simp, fun c i hc => ?_⟩
    rw [joinEntry_ownHold_of_ne hc]
    rfl
  · exact ⟨by simp, by simp, fun _ _ _ => rfl⟩

/-! ### The records that an evaluation leaves -/

theorem outcome_state (s : State) (x : SampleSet) (m : Monitor) :
    (s.outcome x m).lastClass = some (s.classify x m) ∧ (s.outcome x m).state = (s.taken x m).1 ∧
      (s.outcome x m).count = (s.taken x m).2.1 ∧ (s.outcome x m).severeCount = s.severeAfter x m := by
  unfold State.outcome requested
  cases (s.taken x m).2.2 <;> exact ⟨rfl, rfl, rfl, rfl⟩

theorem outcome_recurrence (s : State) (x : SampleSet) (m : Monitor) :
    (s.outcome x m).recurrence =
      if (s.taken x m).2.2 = .raise then (x.completed :: m.recurrence).take 2 else m.recurrence := by
  unfold State.outcome requested
  cases h : (s.taken x m).2.2 <;> rfl

theorem outcome_raisedTap (x : SampleSet) (h : m.kind = .tap) :
    (s.outcome x m).raisedTap = if (s.taken x m).2.2 = .raise then s.fittedTaps.find? x.isOpen
      else if (s.taken x m).2.2 = .lift then none else m.raisedTap := by
  unfold State.outcome State.judged
  rw [h]
  cases hq : (s.taken x m).2.2 <;> rfl

theorem raiseCause_ne_discord (k : MonitorKind) : raiseCause k ≠ .discord := by cases k <;> decide

end

/-- A monitor's requests, one at a time (R103 to R107). -/
theorem monitorRequests (s : State) (x : SampleSet) (m : Monitor) :
    ((sendRequest x m s .raise).ownHold (raiseCause m.kind) m.index).isSome = true ∧
      ((∃ r ∈ s.monitors.records, r.number = m.number) →
        ∃ r ∈ (sendRequest x m s .raise).monitors.records, r.number = m.number ∧
          r.recurrence = (x.completed :: m.recurrence).take 2) ∧
      (∀ newer older, m.recurrence = [newer, older] → s.lockout.record.state = .none →
        (x.completed - older).toNat ≤ s.cfg.limits.window * 60000 →
          (sendRequest x m s .raise).lockout.record.state = .active ∧
            (sendRequest x m s .raise).lockout.record.cause = some (recurCause m.kind) ∧
            (sendRequest x m s .raise).lockout.record.index = m.index) ∧
      (∀ newer older, m.recurrence = [newer, older] →
        s.cfg.limits.window * 60000 < (x.completed - older).toNat → (sendRequest x m s .raise).lockout = s.lockout) ∧
      (m.recurrence.length < 2 → (sendRequest x m s .raise).lockout = s.lockout) ∧
      ((sendRequest x m s .lift).ownHold (raiseCause m.kind) m.index).isSome = false := by
  rw [sendRequest_raise, sendRequest_lift]
  have hrecurs : ∀ newer older, m.recurrence = [newer, older] →
      recurs s.cfg.limits.window x.completed m.recurrence = decide ((x.completed - older).toNat ≤ s.cfg.limits.window * 60000) :=
    fun newer older h => by rw [h]; rfl
  refine ⟨raiseSent_ownHold x m s, ?_, fun newer older hl hnone hle => ?_, fun newer older hl hlt => ?_, fun hshort => ?_, ?_⟩
  · rintro ⟨r, hr, hn⟩
    refine ⟨{ m with recurrence := (x.completed :: m.recurrence).take 2 }, ?_, rfl, rfl⟩
    refine List.mem_map.2 ⟨r, ?_, if_pos hn⟩
    rw [raiseSent_monitors]
    exact hr
  · show (raiseSent x m s).lockout.record.state = _ ∧ (raiseSent x m s).lockout.record.cause = _ ∧ (raiseSent x m s).lockout.record.index = _
    rw [raiseSent_of_recurs ((hrecurs newer older hl).trans (decide_eq_true hle))]
    exact escalate_begins _ (by simpa using hnone)
  · exact raiseSent_lockout_of_not ((hrecurs newer older hl).trans (decide_eq_false (not_le.2 hlt)))
  · exact raiseSent_lockout_of_not (recurs_of_short _ _ hshort)
  · rw [liftHold_ownHold_self]
    rfl

/-- The severe judgement on the record of a number (R105, R106). -/
theorem severeRequests {s : State} {m : Monitor} (hm : s.monitor m.number = some m) :
    (∀ k, severeCause m.kind = some k →
      (s.cfg.limits.raiseCount ≤ m.severeCount + 1 → s.lockout.record.state = .none →
        (takeSevere (some true) m.number s).lockout.record.state = .active ∧
          (takeSevere (some true) m.number s).lockout.record.cause = some k ∧
          (takeSevere (some true) m.number s).lockout.record.index = m.index) ∧
        (m.severeCount + 1 < s.cfg.limits.raiseCount → (takeSevere (some true) m.number s).lockout = s.lockout)) ∧
      (takeSevere (some false) m.number s).lockout = s.lockout ∧ takeSevere none m.number s = s := by
  refine ⟨fun k hk => ⟨fun hle hnone => ?_, fun hlt => ?_⟩, ?_, takeSevere_of_none _ _⟩
  · rw [takeSevere_of_true hm hk, if_pos hle]
    exact escalate_begins _ hnone
  · rw [takeSevere_of_true hm hk, if_neg (not_le.2 hlt)]
    rfl
  · rw [takeSevere_of_false hm]
    rfl

/-- Settles O11: the requests one at a time, then each monitor's part of the evaluation of all. -/
theorem monitorRequestsReachHoldsAndLockout : Obligations.MonitorRequestsReachHoldsAndLockout := by
  refine ⟨fun s x m => ?_, rfl, rfl, fun r s hsweep hread hshaped => ?_⟩
  · obtain ⟨hraise, hrecurrence, hbegins, hlate, hshort, hlift⟩ := monitorRequests s x m
    exact ⟨hraise, hrecurrence, hbegins, hlate, hshort, hlift, fun hm => severeRequests hm⟩
  · intro x taken
    obtain ⟨hmonitors, hlockout, hholds⟩ := completeSweep_monitors r hsweep hread
    obtain ⟨hm0, hl0, hc0, hh0, -, -⟩ := readingsTaken_frame r s
    obtain ⟨u, hu⟩ : ∃ u, u = readingsTaken r s := ⟨_, rfl⟩
    rw [← hu] at hmonitors hlockout hholds hm0 hl0 hc0 hh0
    have hushaped : MonitorsShaped u := hshaped.of_blocks (by rw [hm0]) hc0
    have htaken : ∀ m, u.taken x m = taken m := taken_congr hc0 x
    refine ⟨_, event_eq_next (completeSweep r) s, ?_, fun m hm => ?_, fun hquiet => ?_⟩
    · rw [endEvent_monitors, hmonitors, evaluateMonitors_ident hushaped, hm0]
    · obtain ⟨hrecord, hraise, hlift, hdue⟩ := evaluateMonitors_of_mem hushaped x (m := m) (by rw [hm0]; exact hm)
      rw [outcome_congr hc0] at hrecord
      rw [htaken, requestKey_congr hc0] at hraise hlift
      rw [severeDue_congr hc0] at hdue
      obtain ⟨hclass, hstate, hcount, hsevere⟩ := outcome_state s x m
      have hown : ∀ c i, c ≠ .discord → (endEvent s (completeSweep r s)).ownHold c i = (evaluateMonitors x u).ownHold c i :=
        fun c i hc => (ownHold_congr (by rw [endEvent_holds]) c i).trans (hholds c i hc)
      refine ⟨s.outcome x m, ?_, outcome_number s x m, hclass, hstate, hcount, outcome_recurrence s x m, outcome_raisedTap x,
        fun h => ?_, fun h => ?_, fun h => ?_, fun h => ?_, fun h => ?_, fun h hle => ?_⟩
      · rw [endEvent_monitors, hmonitors]
        exact monitor_mem hrecord
      · rw [hsevere, State.severeAfter, h]
      · rw [hsevere, State.severeAfter, h]
      · rw [hsevere, State.severeAfter, h]
      · rw [hown _ _ (raiseCause_ne_discord _)]
        have hkey := hraise h
        rwa [requestKey_of_raise h] at hkey
      · rw [hown _ _ (raiseCause_ne_discord _)]
        have hkey := hlift h
        rw [requestKey_of_not_raise (by rw [show s.taken x m = taken m from rfl, h]; decide)] at hkey
        rw [hkey]
        rfl
      · rw [endEvent_lockout, hlockout]
        exact hdue ⟨h, hle⟩
    · rw [endEvent_lockout, hlockout, evaluateMonitors_lockout hushaped, hl0]
      intro m hm
      rw [hm0] at hm
      obtain ⟨hshort, hcount⟩ := hquiet m hm
      rw [raiseRecurs_congr hc0, severeDue_congr hc0]
      refine ⟨fun ⟨hraise, hrecurs⟩ => ?_, fun ⟨hsevere, hle⟩ => absurd hle (not_le.2 (hcount hsevere))⟩
      rw [recurs_of_short _ _ (hshort hraise)] at hrecurs
      cases hrecurs

end Sys2Proof.Machine

/-! JOIN entry when the second of store read and first sweep completes (R16, R24, R32, R84, R165, R167). -/

namespace Sys2Proof.Machine

section
variable {s t u : State} {x : SampleSet} {m : Monitor}

/-! ### Before JOIN entry -/

/-- A station in START with this ANNOUNCE flag, MUTE and switch, and, where `silent` holds, without notices. -/
structure AtStart (flag mute : Bool) (w : SwitchDriver) (silent : Prop) (s : State) : Prop where
  mode : s.ballot.mode = .start
  flag : s.link.announceFlag = flag
  mute : s.link.mute = mute
  switch : s.switch = w
  notices : silent → s.holds.notices = []

/-- A raise where notices are not taken leaves the list (R33, R34). -/
theorem raiseHold_notices_of_silent (c : Cause) (i : Option Nat) (d : Option Detail) (h : s.ballot.mode = .start ∨ s.link.mute = true) :
    (raiseHold c i d s).holds.notices = s.holds.notices := by
  obtain ⟨-, hraise⟩ | ⟨y, -, -, hraise⟩ | ⟨y, -, -, hraise | hraise⟩ := raiseHold_cases c i d s <;> rw [hraise]
  · obtain ⟨hnotices, -, hlink, hmode⟩ := addOwn_frame c i d s
    rw [leave_holds, appendNotice_of_silent _ _ _ (by rw [hmode, hlink]; exact h), hnotices]
  · rfl
  · rw [appendNotice_of_silent (s := changeDetail c i d s) _ _ _ h]
    rfl

/-- A lift where notices are not taken leaves an empty list empty (R35). -/
theorem liftHold_notices_of_silent (c : Cause) (i : Option Nat) (h : s.ballot.mode = .start ∨ s.link.mute = true)
    (hnotices : s.holds.notices = []) : (liftHold c i s).holds.notices = [] := by
  unfold liftHold
  split
  · exact hnotices
  · next g _ =>
    obtain ⟨v, hv⟩ : ∃ v, v = s.changeHolds
        { s.holds with own := s.holds.own.filter fun x => decide (¬(x.cause = c ∧ x.index = i)) } := ⟨_, rfl⟩
    have hvn : v.holds.notices = [] := by rw [hv, State.changeHolds, settleReadiness_holds]; exact hnotices
    have hvs : v.ballot.mode = .start ∨ v.link.mute = true := by rw [hv]; simpa [State.changeHolds] using h
    have hnone : v.holdNotice g.serial = none := by unfold State.holdNotice; rw [hvn]; rfl
    rw [← hv]
    unfold liftNotices
    rw [hnone]
    dsimp only
    rw [appendNotice_of_silent _ _ _ hvs, hvn]

theorem atStart_lockoutClosed (flag mute : Bool) (w : SwitchDriver) (silent : Prop) :
    LockoutClosed (AtStart flag mute w silent) where
  raise c i d s hs := by
    obtain ⟨hn, hm, hl, hw, -⟩ := raiseHold_of_start c i d hs.mode
    exact ⟨hm, by rw [hl]; exact hs.flag, by rw [hl]; exact hs.mute, hw.trans hs.switch, fun h => hn.trans (hs.notices h)⟩
  lift c i s hs :=
    ⟨by simpa using hs.mode, by simpa using hs.flag, by simpa using hs.mute, by simpa using hs.switch,
      fun h => liftHold_notices_of_silent c i (.inl hs.mode) (hs.notices h)⟩
  claim y s hs := ⟨by simpa using hs.mode, by simpa using hs.flag, by simpa using hs.mute, by simpa using hs.switch,
    fun h => by simpa using hs.notices h⟩
  blocks _ _ _ _ _ hs := ⟨hs.mode, hs.flag, hs.mute, hs.switch, hs.notices⟩
  settled _ _ _ hs := ⟨hs.mode, hs.flag, hs.mute, hs.switch, hs.notices⟩

theorem LockoutClosed.putMonitor {P : State → Prop} (hP : LockoutClosed P) (m : Monitor) (hs : P s) : P (putMonitor m s) :=
  hP.blocks s _ s.lockout s.store s.orders hs

theorem LockoutClosed.sent {P : State → Prop} (hP : LockoutClosed P) (x : SampleSet) (m : Monitor) (hs : P s) : P (s.sent x m) := by
  unfold State.sent
  cases (s.taken x m).2.2 with
  | quiet => exact hP.putMonitor _ hs
  | lift => exact hP.lift _ _ _ (hP.putMonitor _ (hP.putMonitor _ hs))
  | raise =>
    rw [sendRequest_raise]
    refine hP.putMonitor _ ?_
    unfold raiseSent
    split
    · exact hP.escalate _ (hP.raise _ _ _ _ (hP.putMonitor _ hs))
    · exact hP.raise _ _ _ _ (hP.putMonitor _ hs)

theorem LockoutClosed.takeSevere {P : State → Prop} (hP : LockoutClosed P) (v : Option Bool) (n : Nat) (hs : P s) :
    P (takeSevere v n s) := by
  unfold Machine.takeSevere
  split
  · exact hs
  · split
    · split
      · exact hP.escalate _ (hP.putMonitor _ hs)
      · exact hP.putMonitor _ hs
    · exact hP.putMonitor _ hs
    · exact hs

theorem LockoutClosed.evaluateOne {P : State → Prop} (hP : LockoutClosed P) (x : SampleSet) (n : Nat) (hs : P s) :
    P (evaluateOne x s n) := by
  cases hm : s.monitor n with
  | none => rw [evaluateOne_of_absent x hm]; exact hs
  | some m => rw [evaluateOne_eq hm]; exact hP.takeSevere _ _ (hP.sent x m hs)

theorem LockoutClosed.evaluateMonitors {P : State → Prop} (hP : LockoutClosed P) (x : SampleSet) (hs : P s) :
    P (evaluateMonitors x s) := by
  have hfold : ∀ (l : List Nat) (u : State), P u → P (l.foldl (Machine.evaluateOne x) u) := by
    intro l
    induction l with
    | nil => exact fun _ => id
    | cons n l ih => exact fun u hu => ih _ (hP.evaluateOne x n hu)
  exact hP.blocks _ _ _ _ _ (hfold _ s hs)

theorem deliverSweep_cases (s : State) :
    deliverSweep s = s ∨ ∃ x, s.sweep.latest = some x ∧ deliverSweep s = sweepPlanPoint (evaluateMonitors x s) := by
  unfold deliverSweep
  cases h : s.sweep.latest with
  | none => exact .inl rfl
  | some x => exact .inr ⟨x, rfl, rfl⟩

theorem deliverSweep_atStart {flag mute : Bool} {w : SwitchDriver} {silent : Prop} (hs : AtStart flag mute w silent s) :
    AtStart flag mute w silent (deliverSweep s) := by
  obtain h | ⟨x, -, h⟩ := deliverSweep_cases s <;> rw [h]
  · exact hs
  · obtain ⟨hmode, hflag, hmute, hswitch, hnotices⟩ := (atStart_lockoutClosed flag mute w silent).evaluateMonitors x hs
    exact ⟨hmode, hflag, hmute, hswitch, hnotices⟩

/-- Monitors raise and lift no DISCORD hold. -/
theorem evaluateOne_stands_discord (x : SampleSet) (s : State) (n : Nat) :
    (evaluateOne x s n).stands .discord = s.stands .discord := by
  cases hm : s.monitor n with
  | none => rw [evaluateOne_of_absent x hm]
  | some m =>
    unfold State.stands
    rw [evaluateOne_ownHold_of_ne hm (by decide) fun hk => raiseCause_ne_discord m.kind (congrArg Prod.fst hk).symm]

theorem deliverSweep_stands_discord (s : State) : (deliverSweep s).stands .discord = s.stands .discord := by
  have hall : ∀ x (l : List Nat) u, (l.foldl (evaluateOne x) u).stands .discord = u.stands .discord := by
    intro x l
    induction l with
    | nil => exact fun _ => rfl
    | cons n l ih => exact fun u => (ih _).trans (evaluateOne_stands_discord x u n)
  obtain h | ⟨x, -, h⟩ := deliverSweep_cases s <;> rw [h]
  exact hall x _ s

theorem deliverSweep_ident (hs : MonitorsShaped s) :
    (deliverSweep s).monitors.records.map Monitor.ident = s.monitors.records.map Monitor.ident := by
  obtain h | ⟨x, -, h⟩ := deliverSweep_cases s <;> rw [h]
  exact evaluateMonitors_ident hs x

/-! ### The lockout record that evaluation leaves -/

/-- From s to t the lockout record stayed, or a lockout began from NONE (R144, R145). -/
def RecordKept (s t : State) : Prop :=
  t.lockout.record = s.lockout.record ∨ s.lockout.record.state = .none ∧ t.lockout.record.state = .active

theorem RecordKept.of_lockout (h : t.lockout = s.lockout) : RecordKept s t := .inl (by rw [h])

theorem RecordKept.trans (h : RecordKept s t) (h' : RecordKept t u) : RecordKept s u := by
  rcases h with h | ⟨hnone, hactive⟩
  · rcases h' with h' | ⟨hnone, hactive⟩
    · exact .inl (h'.trans h)
    · exact .inr ⟨by rwa [← h], hactive⟩
  · rcases h' with h' | ⟨hnone', -⟩
    · exact .inr ⟨hnone, by rwa [h']⟩
    · cases hactive.symm.trans hnone'

theorem escalate_recordKept (e : Escalation) (s : State) : RecordKept s (escalate e s) := by
  cases h : s.lockout.record.state with
  | none => exact .inr ⟨h, escalate_active e s⟩
  | active => exact .inl (escalate_record_of_active e h)

theorem sent_recordKept (s : State) (x : SampleSet) (m : Monitor) : RecordKept s (s.sent x m) := by
  unfold State.sent
  cases (s.taken x m).2.2 with
  | quiet => exact .of_lockout rfl
  | lift => exact .of_lockout (by rw [sendRequest_lift, liftHold_lockout]; rfl)
  | raise =>
    rw [sendRequest_raise]
    have hraised : RecordKept s (raiseHold (raiseCause (s.judged x m).kind) (s.judged x m).index none (putMonitor (s.judged x m) s)) :=
      .of_lockout (raiseHold_lockout _ _ _ _)
    have hsent : RecordKept s (raiseSent x (s.judged x m) (putMonitor (s.judged x m) s)) := by
      unfold raiseSent
      split
      · exact hraised.trans (escalate_recordKept _ _)
      · exact hraised
    exact hsent

theorem takeSevere_recordKept (v : Option Bool) (n : Nat) (s : State) : RecordKept s (takeSevere v n s) := by
  unfold takeSevere
  split
  · exact .of_lockout rfl
  · next m _ =>
    split
    · split
      · exact RecordKept.trans (t := putMonitor { m with severeCount := 0 } s) (.of_lockout rfl) (escalate_recordKept _ _)
      · exact .of_lockout rfl
    · exact .of_lockout rfl
    · exact .of_lockout rfl

theorem deliverSweep_recordKept (s : State) : RecordKept s (deliverSweep s) := by
  have hone : ∀ x u n, RecordKept u (evaluateOne x u n) := by
    intro x u n
    cases hm : u.monitor n with
    | none => rw [evaluateOne_of_absent x hm]; exact .of_lockout rfl
    | some m => rw [evaluateOne_eq hm]; exact (sent_recordKept u x m).trans (takeSevere_recordKept _ _ _)
  have hall : ∀ x (l : List Nat) u, RecordKept u (l.foldl (evaluateOne x) u) := by
    intro x l
    induction l with
    | nil => exact fun _ => .of_lockout rfl
    | cons n l ih => exact fun u => (hone x u n).trans (ih _)
  obtain h | ⟨x, -, h⟩ := deliverSweep_cases s <;> rw [h]
  · exact .of_lockout rfl
  · exact hall x _ s

/-! ### Notices of JOIN entry -/

/-- What the notice list says of a hold: kind, serial, replay. -/
def Notice.announced (n : Notice) : NoticeKind × Byte × Bool := (n.kind, n.serial, n.replay)

/-- The HOLD notice by which JOIN entry announces a hold (R32). -/
def OwnHold.announcement (h : OwnHold) : NoticeKind × Byte × Bool := (.hold, h.serial, false)

/-- A list of HOLD notices loses none when one more comes (R29). -/
theorem roomyNotices_of_holds (h : ∀ n ∈ s.holds.notices, n.kind = .hold) : s.roomyNotices = s.holds.notices := by
  unfold State.roomyNotices
  split
  · rfl
  · refine List.eraseP_of_forall_not fun n hn => ?_
    rw [h n hn]
    simp

/-- A HOLD notice appended to HOLD notices. -/
theorem appendNotice_announced (serial : Byte) (hmode : s.ballot.mode ≠ .start) (hmute : s.link.mute = false)
    (h : ∀ n ∈ s.holds.notices, n.kind = .hold) :
    (appendNotice .hold serial false s).holds.notices.map Notice.announced =
        s.holds.notices.map Notice.announced ++ [(.hold, serial, false)] ∧
      ∀ n ∈ (appendNotice .hold serial false s).holds.notices, n.kind = .hold := by
  rw [appendNotice_notices _ _ _ hmode hmute, roomyNotices_of_holds h]
  refine ⟨by rw [List.map_append]; rfl, fun n hn => ?_⟩
  rcases List.mem_append.1 hn with hn | hn
  · exact h n hn
  · rw [List.mem_singleton.1 hn]

/-- One HOLD notice for each own hold, in raise order (R32). -/
theorem announceHolds_announced (hmode : s.ballot.mode ≠ .start) (hmute : s.link.mute = false)
    (h : ∀ n ∈ s.holds.notices, n.kind = .hold) :
    (announceHolds s).holds.notices.map Notice.announced =
        s.holds.notices.map Notice.announced ++ s.holds.own.map OwnHold.announcement ∧
      ∀ n ∈ (announceHolds s).holds.notices, n.kind = .hold := by
  have hfold : ∀ (l : List OwnHold) (u : State), u.ballot.mode ≠ .start → u.link.mute = false →
      (∀ n ∈ u.holds.notices, n.kind = .hold) →
        (l.foldl (fun t h => appendNotice .hold h.serial false t) u).holds.notices.map Notice.announced =
            u.holds.notices.map Notice.announced ++ l.map OwnHold.announcement ∧
          ∀ n ∈ (l.foldl (fun t h => appendNotice .hold h.serial false t) u).holds.notices, n.kind = .hold := by
    intro l
    induction l with
    | nil => exact fun u _ _ hu => ⟨(List.append_nil _).symm, hu⟩
    | cons g l ih =>
      intro u hum hul hu
      obtain ⟨hmap, hkinds⟩ := appendNotice_announced g.serial hum hul hu
      obtain ⟨hrest, hkinds'⟩ := ih (appendNotice .hold g.serial false u) (by simpa using hum) (by simpa using hul) hkinds
      refine ⟨hrest.trans ?_, hkinds'⟩
      rw [hmap, List.append_assoc]
      rfl
  exact hfold s.holds.own s hmode hmute h

theorem announceHolds_of_silent (h : s.ballot.mode = .start ∨ s.link.mute = true) : announceHolds s = s := by
  unfold announceHolds
  have hfold : ∀ l : List OwnHold, l.foldl (fun t h => appendNotice .hold h.serial false t) s = s := by
    intro l
    induction l with
    | nil => rfl
    | cons g l ih => rw [List.foldl_cons, appendNotice_of_silent _ _ _ h, ih]
  exact hfold _

/-! ### The DISCORD hold -/

theorem discord_congr (hroster : t.roster.entries = s.roster.entries) (hstartup : t.startup = s.startup) :
    t.discord = s.discord := by
  have hstranger : ∀ a, t.isStranger a = s.isStranger a := fun a => by
    unfold State.isStranger State.size State.cfg
    rw [hstartup]
  have hown : t.own = s.own := congrArg StartSequence.address hstartup
  unfold State.discord State.entryDiscord
  simp only [hroster, hstartup, hown, hstranger]

/-- Past START the judged DISCORD hold stands exactly when its condition is true (R24). -/
theorem judgeDiscord_stands_iff (h : s.ballot.mode ≠ .start) : (judgeDiscord s).stands .discord = true ↔ s.discord = true := by
  unfold judgeDiscord
  rw [if_neg h]
  split
  · next hd => exact iff_of_true (raiseHold_stands_self _ _ _) hd
  · next hd => exact iff_of_false (by rw [liftHold_stands_self]; decide) hd

theorem raiseHold_mode_of_idle (c : Cause) (i : Option Nat) (d : Option Detail) (hp : s.ballot.mode ≠ .pledged)
    (hc : s.ballot.mode ≠ .closed) : (raiseHold c i d s).ballot.mode = s.ballot.mode := by
  obtain ⟨-, h⟩ | ⟨y, -, -, h⟩ | ⟨y, -, -, h | h⟩ := raiseHold_cases c i d s <;> rw [h]
  · obtain ⟨-, -, -, hmode⟩ := addOwn_frame c i d s
    rw [leave_of_idle]
    · simp
    · simpa [hmode] using hp
    · simpa [hmode] using hc
  · rfl
  · simp [changeDetail]

theorem judgeDiscord_mode_of_idle (hp : s.ballot.mode ≠ .pledged) (hc : s.ballot.mode ≠ .closed) :
    (judgeDiscord s).ballot.mode = s.ballot.mode := by
  unfold judgeDiscord
  split
  · rfl
  · split
    · exact raiseHold_mode_of_idle _ _ _ hp hc
    · exact liftHold_ballot_mode _ _ _

end

end Sys2Proof.Machine

/-! JOIN entry follows the second of the two completions (R165, R167). -/

namespace Sys2Proof.Machine

section
variable {s t u : State} {x : SampleSet}

theorem ownAnnounce_congr (h : t.startup = s.startup) : t.ownAnnounce = s.ownAnnounce := by
  unfold State.ownAnnounce State.fitted State.cfg
  rw [h]

theorem own_le_of_addressed (h : s.addressed = true) : s.own ≤ 24 := by
  have hvalid : 1 ≤ s.startup.address ∧ s.startup.address ≤ 24 := of_decide_eq_true h
  exact hvalid.2

theorem joinedState_startup (s : State) : (joinedState s).startup = s.startup := by simp [joinedState]

theorem joinedState_entries (s : State) :
    (joinedState s).roster.entries = s.roster.entries.map fun e =>
      if e.address = s.own then { e with state := .present, age := 0, announced := some s.ownAnnounce } else e := by
  have hown : (setMode .join s).own = s.own := congrArg StartSequence.address (setMode_startup _ _)
  have hannounce : (setMode .join s).ownAnnounce = s.ownAnnounce := ownAnnounce_congr (setMode_startup _ _)
  show (setAnnounce (announceHolds (enterRoster (setMode .join s)))).roster.entries = _
  rw [setAnnounce_roster, announceHolds_roster, enterRoster, updateEntry_entries, setMode_roster, hown, hannounce]

theorem joinedState_entry_own (hshaped : RosterShaped s) (hown : s.own ≤ 24) :
    (joinedState s).entry s.own = { s.entry s.own with state := .present, age := 0, announced := some s.ownAnnounce } := by
  have hentry : (joinedState s).entry s.own =
      (s.updateEntry s.own fun e => { e with state := .present, age := 0, announced := some s.ownAnnounce }).entry s.own :=
    entry_congr (by rw [joinedState_entries, updateEntry_entries]) _
  exact hentry.trans (updateEntry_entry_self (f := fun e => { e with state := .present, age := 0, announced := some s.ownAnnounce })
    hshaped hown fun _ => rfl)

theorem joinedState_mode (s : State) : (joinedState s).ballot.mode = .join := by simp [joinedState]

theorem joinedState_tallyTimer (s : State) : (joinedState s).roster.tallyTimer = Timer.startMs s.cfg.shared.tallyPeriod := by
  have hcfg : (setAnnounce (announceHolds (enterRoster (setMode .join s)))).cfg = s.cfg := by unfold State.cfg; simp
  show Timer.startMs (setAnnounce (announceHolds (enterRoster (setMode .join s)))).cfg.shared.tallyPeriod = _
  rw [hcfg]

theorem setAnnounce_flag (s : State) : (setAnnounce s).link.announceFlag = (!s.link.mute || s.link.announceFlag) := by
  unfold setAnnounce
  cases h : s.link.mute <;> simp

/-- JOIN entry up to the announced holds, the state in which the ANNOUNCE flag is set (R167). -/
theorem joinedState_holds (s : State) : (joinedState s).holds = (announceHolds (enterRoster (setMode .join s))).holds := by
  unfold joinedState
  rw [startTally_holds, setAnnounce_holds]

theorem announceHolds_flags (s : State) :
    (announceHolds s).link.announceFlag = s.link.announceFlag ∧ (announceHolds s).link.mute = s.link.mute := by
  have hfold : ∀ (l : List OwnHold) (u : State),
      (l.foldl (fun t h => appendNotice .hold h.serial false t) u).link.announceFlag = u.link.announceFlag ∧
        (l.foldl (fun t h => appendNotice .hold h.serial false t) u).link.mute = u.link.mute := by
    intro l
    induction l with
    | nil => exact fun _ => ⟨rfl, rfl⟩
    | cons h l ih => exact fun u => ⟨(ih _).1.trans (by simp), (ih _).2.trans (by simp)⟩
  exact hfold _ s

theorem joinedState_announceFlag (s : State) : (joinedState s).link.announceFlag = (!s.link.mute || s.link.announceFlag) := by
  obtain ⟨hflag, hmute⟩ := announceHolds_flags (enterRoster (setMode .join s))
  show (setAnnounce (announceHolds (enterRoster (setMode .join s)))).link.announceFlag = _
  rw [setAnnounce_flag, hflag, hmute]
  simp

theorem joinedState_mute (s : State) : (joinedState s).link.mute = s.link.mute := by
  obtain ⟨-, hmute⟩ := announceHolds_flags (enterRoster (setMode .join s))
  show (setAnnounce (announceHolds (enterRoster (setMode .join s)))).link.mute = _
  have hkept : ∀ v : State, (setAnnounce v).link.mute = v.link.mute := fun v => by unfold setAnnounce; split <;> simp
  rw [hkept, hmute]
  simp

/-- JOIN entry announces the holds as they stand, DISCORD's last (R24, R32). -/
theorem joinEntry_announced (hnotices : s.holds.notices = []) (hmute : s.link.mute = false) (hdiscord : s.stands .discord = false) :
    (joinEntry s).holds.notices.map Notice.announced = (joinEntry s).holds.own.map OwnHold.announcement := by
  obtain ⟨w, hw⟩ : ∃ w, w = joinedState s := ⟨_, rfl⟩
  have hwmode : w.ballot.mode = .join := by rw [hw]; exact joinedState_mode s
  have hwmute : w.link.mute = false := by rw [hw, joinedState_mute]; exact hmute
  have hwown : w.holds.own = s.holds.own := by rw [hw]; exact joinedState_own s
  have hwnone : w.ownHold .discord none = none := by rw [ownHold_congr hwown]; exact stands_eq_false_iff.1 hdiscord
  have hjoined : w.holds.notices.map Notice.announced = w.holds.own.map OwnHold.announcement ∧
      ∀ n ∈ w.holds.notices, n.kind = .hold := by
    obtain ⟨hmap, hkinds⟩ := announceHolds_announced (s := enterRoster (setMode .join s)) (by simp) (by simpa using hmute)
      (by simp [hnotices])
    rw [hwown, hw, joinedState_holds]
    refine ⟨hmap.trans ?_, hkinds⟩
    simp [hnotices]
  obtain ⟨hmap, hkinds⟩ := hjoined
  rw [joinEntry_eq, ← hw]
  unfold judgeDiscord
  rw [if_neg (by rw [hwmode]; decide)]
  split
  · obtain ⟨hn, -, hl, hm⟩ := addOwn_frame .discord none none w
    obtain ⟨happended, -⟩ := appendNotice_announced (s := addOwn .discord none none w) w.holds.allocate
      (by rw [hm, hwmode]; decide) (by rw [hl]; exact hwmute) (by rw [hn]; exact hkinds)
    rw [raiseHold_own_of_new _ hwnone, raiseHold_of_new _ hwnone, leave_holds, happended, hn, hmap, List.map_append]
    rfl
  · rw [liftHold_of_absent hwnone]
    exact hmap

/-- A MUTE station announces nothing (R193). -/
theorem joinEntry_of_mute (hnotices : s.holds.notices = []) (hmute : s.link.mute = true) : (joinEntry s).holds.notices = [] := by
  obtain ⟨w, hw⟩ : ∃ w, w = joinedState s := ⟨_, rfl⟩
  have hwmute : w.link.mute = true := by rw [hw, joinedState_mute]; exact hmute
  have hwnotices : w.holds.notices = [] := by
    rw [hw, joinedState_holds, announceHolds_of_silent (.inr (by simpa using hmute))]
    simpa using hnotices
  rw [joinEntry_eq, ← hw]
  unfold judgeDiscord
  split
  · exact hwnotices
  · split
    · rw [raiseHold_notices_of_silent _ _ _ (.inr hwmute), hwnotices]
    · exact liftHold_notices_of_silent _ _ (.inr hwmute) hwnotices

/-- With every other station unheard the DISCORD condition is that the own address lies above S (R24). -/
theorem joinedState_discord (h : ∀ e ∈ s.roster.entries, e.state = .vacant) : (joinedState s).discord = s.isStranger s.own := by
  have hown : (joinedState s).own = s.own := congrArg StartSequence.address (joinedState_startup s)
  have hstranger : (joinedState s).isStranger s.own = s.isStranger s.own := by
    unfold State.isStranger State.size State.cfg
    rw [joinedState_startup]
  unfold State.discord
  rw [hown, hstranger, List.any_eq_false.2, Bool.or_false]
  intro e he
  rw [joinedState_entries] at he
  obtain ⟨d, hd, rfl⟩ := List.mem_map.1 he
  unfold State.entryDiscord
  rw [hown]
  split
  · next haddress => simp [haddress]
  · simp [RosterEntry.heard, h d hd]

/-! ### Both completions -/

/-- Both flags are yes in v, and nothing else of START has changed since s that JOIN entry tells. -/
structure ReadyToJoin (s v : State) : Prop where
  start : AtStart s.link.announceFlag s.link.mute s.switch (s.holds.notices = []) v
  read : v.startup.readComplete = true
  first : v.startup.firstSweepComplete = true
  address : v.startup.address = s.startup.address
  roster : v.roster = s.roster
  discord : v.stands .discord = s.stands .discord

theorem ReadyToJoin.deliver (h : ReadyToJoin s u) : ReadyToJoin s (deliverSweep u) where
  start := deliverSweep_atStart h.start
  read := by rw [deliverSweep_startup]; exact h.read
  first := by rw [deliverSweep_startup]; exact h.first
  address := by rw [deliverSweep_startup]; exact h.address
  roster := (deliverSweep_roster u).trans h.roster
  discord := (deliverSweep_stands_discord u).trans h.discord

theorem joinEntry_roster_eq (s : State) : (joinEntry s).roster = (joinedState s).roster := judgeDiscord_roster _

theorem joinEntry_discord (s : State) : (joinEntry s).discord = (joinedState s).discord :=
  discord_congr (by rw [joinEntry_roster_eq]) ((judgeDiscord_startup (joinedState s)))

/-- A raise in JOIN or OPEN leaves the switch (R72). -/
theorem raiseHold_switch_of_idle (c : Cause) (i : Option Nat) (d : Option Detail) (hp : s.ballot.mode ≠ .pledged)
    (hc : s.ballot.mode ≠ .closed) : (raiseHold c i d s).switch = s.switch := by
  obtain ⟨-, h⟩ | ⟨y, -, -, h⟩ | ⟨y, -, -, h | h⟩ := raiseHold_cases c i d s <;> rw [h]
  · obtain ⟨-, -, -, hmode⟩ := addOwn_frame c i d s
    rw [leave_of_idle _ (by simpa [hmode] using hp) (by simpa [hmode] using hc)]
    simp
  · rfl
  · simp [changeDetail]

theorem joinEntry_mode (s : State) : (joinEntry s).ballot.mode = .join := by
  rw [joinEntry_eq, judgeDiscord_mode_of_idle] <;> rw [joinedState_mode] <;> decide

theorem joinEntry_bleedSet (h : s.ballot.mode = .start) : (joinEntry s).plan.bleedSet = [] := by
  rw [joinEntry_eq, judgeDiscord_plan]
  have hplan : (joinedState s).plan = (setMode .join s).plan := by simp [joinedState]
  rw [hplan, setMode_join_plan (by rw [h]; decide)]
  rfl

/-- JOIN entry commands the switch open (R132). -/
theorem joinEntry_command (h : s.ballot.mode = .start) : (joinEntry s).switch.command = .opened := by
  have hjoined : (joinedState s).switch.command = .opened := by
    have hswitch : (joinedState s).switch = (setMode .join s).switch := by simp [joinedState]
    rw [hswitch, setMode_command, if_neg (by rw [h]; decide)]
    rfl
  rw [joinEntry_eq]
  have hidle : (joinedState s).ballot.mode ≠ .pledged ∧ (joinedState s).ballot.mode ≠ .closed := by
    rw [joinedState_mode]
    decide
  unfold judgeDiscord
  split
  · exact hjoined
  · split
    · rw [raiseHold_switch_of_idle _ _ _ hidle.1 hidle.2]
      exact hjoined
    · rw [liftHold_switch]
      exact hjoined

/-- What JOIN entry leaves, but for configuration, lockout and monitors (R16, R24, R32, R167). -/
theorem ReadyToJoin.joined (h : ReadyToJoin s u) (haddressed : s.addressed = true) (hshaped : RosterShaped s) :
    (joinEntry u).ballot.mode = .join ∧ ((joinEntry u).entry s.own).state = .present ∧ ((joinEntry u).entry s.own).age = 0 ∧
      ((joinEntry u).entry s.own).announced = some (joinEntry u).ownAnnounce ∧
      (joinEntry u).link.announceFlag = (!s.link.mute || s.link.announceFlag) ∧
      (joinEntry u).roster.tallyTimer = Timer.startMs (joinEntry u).cfg.shared.tallyPeriod ∧ (joinEntry u).plan.bleedSet = [] ∧
      (joinEntry u).switch.command = .opened ∧
      (s.holds.notices = [] → s.link.mute = false → s.stands .discord = false →
        (joinEntry u).holds.notices.map Notice.announced = (joinEntry u).holds.own.map OwnHold.announcement) ∧
      (s.holds.notices = [] → s.link.mute = true → (joinEntry u).holds.notices = []) ∧
      ((joinEntry u).stands .discord = true ↔ (joinEntry u).discord = true) ∧
      ((∀ e ∈ s.roster.entries, e.state = .vacant) → ((joinEntry u).discord = true ↔ (joinEntry u).size < s.own)) := by
  obtain ⟨⟨hmode, hflag, hmute, -, hnotices⟩, -, -, haddress, hroster, hdiscord⟩ := h
  have hown : u.own = s.own := haddress
  have hushaped : RosterShaped u := by unfold RosterShaped; rw [hroster]; exact hshaped
  have hentry : (joinEntry u).entry s.own = _ :=
    (entry_congr (by rw [joinEntry_roster_eq]) s.own).trans
      (hown ▸ joinedState_entry_own hushaped (by rw [hown]; exact own_le_of_addressed haddressed))
  have hstartup : (joinEntry u).startup = u.startup := joinEntry_startup u
  rw [hentry]
  refine ⟨joinEntry_mode u, rfl, rfl, congrArg some (ownAnnounce_congr hstartup).symm, ?_, ?_, joinEntry_bleedSet hmode,
    joinEntry_command hmode, fun hn hm hd => joinEntry_announced (hnotices hn) (hmute.trans hm) (hdiscord.trans hd),
    fun hn hm => joinEntry_of_mute (hnotices hn) (hmute.trans hm), ?_, fun hvacant => ?_⟩
  · rw [joinEntry_eq, judgeDiscord_link_announceFlag, joinedState_announceFlag, hflag, hmute]
  · rw [joinEntry_roster_eq, joinedState_tallyTimer]
    unfold State.cfg
    rw [hstartup]
  · rw [joinEntry_eq, judgeDiscord_stands_iff (by rw [joinedState_mode]; decide), ← joinEntry_eq, joinEntry_discord]
  · rw [joinEntry_discord, joinedState_discord (by rw [hroster]; exact hvacant), hown]
    unfold State.isStranger State.size State.cfg
    rw [hstartup, decide_eq_true_eq]

theorem readSettled_stands_discord (s : State) : (readSettled s).stands .discord = s.stands .discord := by
  have hconfig : (lockoutSettled s).stands .discord = s.stands .discord := by
    show (settleConfig (copySlots s)).stands .discord = _
    rw [settleConfig_copySlots]
    split
    · rw [raiseHold_stands_of_ne _ _ _ (by decide)]
      rfl
    · rfl
  show (settleLockout (settleConfig (copySlots s))).stands .discord = _
  obtain ⟨hs, -⟩ | ⟨-, k, -, hs⟩ := settleLockout_cases s <;> rw [hs]
  · exact hconfig
  · rw [raiseHold_stands_of_ne _ _ _ (by decide)]
    exact hconfig

theorem readSettled_readyToJoin (hmode : s.ballot.mode = .start) (hfirst : s.startup.firstSweepComplete = true) :
    ReadyToJoin s (readSettled s) := by
  obtain ⟨hnotices, hstart, hlink, hswitch, hroster, -⟩ := readSettled_of_start hmode
  have hstartup := readSettled_startup s
  exact ⟨⟨hstart, by rw [hlink], by rw [hlink], hswitch, fun h => hnotices.trans h⟩, by rw [hstartup], by rw [hstartup]; exact hfirst,
    by rw [hstartup], hroster, readSettled_stands_discord s⟩

theorem readingsTaken_readyToJoin (r : Readings) (hmode : s.ballot.mode = .start) (hread : s.startup.readComplete = true) :
    ReadyToJoin s (readingsTaken r s) := by
  unfold readingsTaken
  rw [if_pos hmode]
  exact ⟨⟨hmode, rfl, rfl, rfl, id⟩, hread, rfl, rfl, rfl, rfl⟩

/-- The CONFIG hold stands on through the monitors' evaluation. -/
theorem deliverSweep_stands_config (s : State) : (deliverSweep s).stands .config = s.stands .config := by
  have hne : ∀ k, raiseCause k ≠ .config := fun k => by cases k <;> decide
  have hone : ∀ x u n, (evaluateOne x u n).stands .config = u.stands .config := by
    intro x u n
    cases hm : u.monitor n with
    | none => rw [evaluateOne_of_absent x hm]
    | some m =>
      unfold State.stands
      rw [evaluateOne_ownHold_of_ne hm (by decide) fun hk => hne m.kind (congrArg Prod.fst hk).symm]
  have hall : ∀ x (l : List Nat) u, (l.foldl (evaluateOne x) u).stands .config = u.stands .config := by
    intro x l
    induction l with
    | nil => exact fun _ => rfl
    | cons n l ih => exact fun u => (ih _).trans (hone x u n)
  obtain h | ⟨x, -, h⟩ := deliverSweep_cases s <;> rw [h]
  exact hall x _ s

end

/-- Settles O6: either completion leaves START ready, and JOIN entry follows. -/
theorem joinEntryFollowsSecondCompletion : Obligations.JoinEntryFollowsSecondCompletion := by
  intro c s haddressed hmode hshaped hcase
  have hjoins : ∃ u, ReadyToJoin s u ∧ exec c s = .next (endEvent s (joinEntry (deliverSweep u))) ∧
      (s.startup.readComplete = true → u.startup.config = s.startup.config ∧ u.startup.digest = s.startup.digest) ∧
      (s.startup.readComplete = false → u = readSettled s) := by
    rcases hcase with ⟨rfl, hread, hfirst⟩ | ⟨⟨r, rfl⟩, hsweep, hread⟩
    · refine ⟨readSettled s, readSettled_readyToJoin hmode hfirst, (event_eq_next completeRead s).trans ?_,
        fun h => (nomatch hread.symm.trans h), fun _ => rfl⟩
      rw [completeRead_of_pending haddressed hmode hread, if_pos hfirst]
    · obtain ⟨-, -, hconfig, -⟩ := readingsTaken_frame r s
      refine ⟨readingsTaken r s, readingsTaken_readyToJoin r hmode hread, (event_eq_next (completeSweep r) s).trans ?_,
        fun _ => ⟨hconfig, ?_⟩, fun h => (nomatch h.symm.trans hread)⟩
      · rw [completeSweep_eq r hsweep (.inr hread), if_pos hmode]
      · unfold readingsTaken
        split <;> rfl
  obtain ⟨u, hready, hexec, hconfig, hsettled⟩ := hjoins
  have hready' := hready.deliver
  obtain ⟨hjoin, hpresent, hage, hannounced, hflag, htally, hbleed, hcommand, hnotices, hmute, hstands, hdiscord⟩ :=
    hready'.joined haddressed hshaped
  obtain ⟨v, hv⟩ : ∃ v, v = joinEntry (deliverSweep u) := ⟨_, rfl⟩
  have hstartup : (endEvent s v).startup = u.startup := by rw [hv]; simp
  rw [← hv] at hexec hjoin hpresent hage hannounced hflag htally hbleed hcommand hnotices hmute hstands hdiscord
  have hentry : (endEvent s v).entry s.own = v.entry s.own := entry_congr (by rw [endEvent_roster]) _
  have hstood : ∀ c, (endEvent s v).stands c = v.stands c := fun c => stands_congr (by rw [endEvent_holds])
  have hjudged : (endEvent s v).discord = v.discord := discord_congr (by rw [endEvent_roster]) (endEvent_startup _ _)
  have hvcfg : (endEvent s v).cfg = v.cfg := by unfold State.cfg; rw [endEvent_startup]
  refine ⟨_, hexec, by rw [endEvent_ballot_mode]; exact hjoin, by rw [hstartup]; exact hready.read, by rw [hstartup]; exact hready.first,
    by rw [hentry]; exact hpresent, by rw [hentry]; exact hage, ?_, by rw [endEvent_link_announceFlag]; exact hflag, ?_,
    by rw [endEvent_plan]; exact hbleed, fun _ => by rw [endEvent_switch]; exact hcommand, fun h => by rw [hstartup]; exact hconfig h,
    fun hread => ?_, fun hn hm hd => ?_, fun hn hm => by rw [endEvent_holds]; exact hmute hn hm, ?_, fun hvacant => ?_⟩
  · rw [hentry, hannounced, ownAnnounce_congr (endEvent_startup s v)]
  · rw [endEvent_roster, htally, hvcfg]
  · have hu : u = readSettled s := hsettled hread
    have hlockout : (endEvent s v).lockout = (deliverSweep u).lockout := by rw [hv]; simp
    have hmonitors : (endEvent s v).monitors = (deliverSweep u).monitors := by rw [hv]; simp
    have hrecord : u.lockout.record = s.store.judged.lockoutRecord := by rw [hu, readSettled_lockout]
    rw [hlockout, hstartup, hu, readSettled_startup, ← hu, hmonitors]
    refine ⟨_, rfl, configInUse_settled s.store, rfl, fun hdefaults => ?_, fun hnone => ?_, fun n x hnewest hactive => ?_, ?_⟩
    · rw [hstood, hv]
      show ((joinEntry (deliverSweep u)).ownHold .config none).isSome = true
      rw [joinEntry_ownHold_of_ne (by decide)]
      refine (deliverSweep_stands_config u).trans ?_
      rw [hu]
      exact readSettled_stands_config hdefaults
    · rcases deliverSweep_recordKept u with hkept | ⟨-, hactive⟩
      · rw [hkept, hrecord]
        exact lockoutRecord_settled _
      · cases hnone.symm.trans hactive
    · rcases deliverSweep_recordKept u with hkept | ⟨hnone, -⟩
      · rw [hkept, hrecord]
        exact lockoutRecord_settled _
      · obtain ⟨-, hgiven⟩ := lockoutRecord_settled s.store.judged
        obtain ⟨-, hgiven⟩ := hgiven n x hnewest
        rw [hrecord, hgiven hactive] at hnone
        cases hnone
    · have hushaped : MonitorsShaped u := by
        rw [hu]
        refine .inr ?_
        rw [readSettled_monitors]
        unfold State.fitted State.cfg
        rw [readSettled_startup]
      rw [deliverSweep_ident hushaped, hu, readSettled_monitors]
  · rw [endEvent_holds]
    exact hnotices hn hm hd
  · rw [hstood, hjudged]
    exact hstands
  · rw [hjudged]
    unfold State.size
    rw [hvcfg]
    exact hdiscord hvacant

end Sys2Proof.Machine

/-! The arrival of a frame: what hearing its sender makes of the roster, and what its owner can change (R8, R9, R11, R12, R38 to R45,
R59 to R67, R178, R179). -/

namespace Sys2Proof.Machine

section
variable {s t u : State} {k l : Nat}

/-! ### What an owner leaves alone -/

/-- What the view tells of an entry: its address, its state and its age. -/
def RosterEntry.sight (e : RosterEntry) : Nat × EntryState × Nat := (e.address, e.state, e.age)

/-- From s to t entries keep address, state and age; configuration, line and START stay; at most k frames have been queued. -/
structure Takes (k : Nat) (s t : State) : Prop where
  sights : t.roster.entries.map RosterEntry.sight = s.roster.entries.map RosterEntry.sight
  joined : t.roster.joinComplete = s.roster.joinComplete
  startup : t.startup = s.startup
  start : t.ballot.mode = .start ↔ s.ballot.mode = .start
  line : SameLine s t
  fills : Fills k s t

theorem Takes.refl (s : State) : Takes 0 s s := ⟨rfl, rfl, rfl, Iff.rfl, .of_link rfl, .refl s⟩

theorem Takes.trans (h : Takes k s t) (h' : Takes l t u) : Takes (k + l) s u :=
  ⟨h'.sights.trans h.sights, h'.joined.trans h.joined, h'.startup.trans h.startup, h'.start.trans h.start, h.line.trans h'.line,
    h.fills.trans h'.fills⟩

theorem Takes.mono (h : Takes k s t) (hkl : k ≤ l) : Takes l s t := { h with fills := h.fills.mono hkl }

theorem Takes.then_none (h : Takes k s t) (h' : Takes 0 t u) : Takes k s u := h.trans h'

theorem Takes.after_none (h : Takes 0 s t) (h' : Takes k t u) : Takes k s u := by
  have hboth := h.trans h'
  rwa [Nat.zero_add] at hboth

theorem Takes.of_roster (hroster : t.roster = s.roster) (hstartup : t.startup = s.startup)
    (hstart : t.ballot.mode = .start ↔ s.ballot.mode = .start) (hline : SameLine s t) (hfills : Fills k s t) : Takes k s t :=
  ⟨by rw [hroster], by rw [hroster], hstartup, hstart, hline, hfills⟩

/-- A change of a block that none of these reads. -/
theorem Takes.of_blocks (hroster : t.roster = s.roster) (hstartup : t.startup = s.startup) (hmode : t.ballot.mode = s.ballot.mode)
    (hrole : t.ballot.role = s.ballot.role) (hlink : t.link = s.link) : Takes 0 s t :=
  .of_roster hroster hstartup (by rw [hmode]) (.of_link hlink) (.of_blocks (by rw [hlink]) (by rw [hlink]) hmode hrole)

/-- Entries changed one by one, with address, state and age kept. -/
theorem map_sight_of_keeps {f : RosterEntry → RosterEntry} (hf : ∀ e : RosterEntry, (f e).sight = e.sight) (l : List RosterEntry) :
    (l.map f).map RosterEntry.sight = l.map RosterEntry.sight := by
  rw [List.map_map]
  exact List.map_congr_left fun e _ => hf e

theorem updateEntry_takes (a : Nat) (f : RosterEntry → RosterEntry) (hf : ∀ e : RosterEntry, (f e).sight = e.sight) (s : State) :
    Takes 0 s (s.updateEntry a f) := by
  refine ⟨?_, by simp, by simp, by simp, .of_link (by simp), updateEntry_fills a f s⟩
  rw [updateEntry_entries]
  refine map_sight_of_keeps (fun e => ?_) _
  split
  · exact hf e
  · rfl

theorem claim_takes (x : Claim) (s : State) : Takes 1 s (claim x s) :=
  .of_roster (by simp) (by simp) (by simp) ⟨by simp, by simp, by simp, by simp, by simp, by simp⟩ (claim_fills x s)

theorem changeHolds_takes (x : HoldUnit) (s : State) : Takes 0 s (s.changeHolds x) :=
  .of_blocks (by simp [State.changeHolds]) (by simp [State.changeHolds]) (by simp [State.changeHolds]) (by simp [State.changeHolds])
    (by simp [State.changeHolds])

theorem purge_takes (a : Nat) (s : State) : Takes 0 s (purge a s) := changeHolds_takes _ _

theorem leave_takes (s : State) : Takes 0 s (leave s) :=
  .of_roster (by simp) (by simp) (by simp) (leave_sameLine s) (leave_fills s)

/-- The recall pending field of an address set (R42). -/
def recallMarked (p : Nat) (s : State) : State := s.updateEntry p fun e => { e with recallPending := true }

theorem recallMarked_takes (p : Nat) (s : State) : Takes 0 s (recallMarked p s) := updateEntry_takes p _ (by intro e; rfl) s

theorem requestRecall_takes (p : Nat) (s : State) : Takes 1 s (requestRecall p s) := by
  unfold requestRecall
  split
  · exact ((purge_takes p s).then_none (recallMarked_takes p _)).after_none (claim_takes _ _)
  · exact (Takes.refl s).mono (Nat.zero_le 1)

theorem changeBallot_takes (b : Ballot) (s : State) : Takes 0 s (s.changeBallot { s.ballot with highest := b }) :=
  .of_blocks (by simp) (by simp) (by simp) (by simp) (by simp)

theorem offer_takes (b : Ballot) (s : State) : Takes 0 s (offer b s) := by
  unfold offer
  split
  · dsimp only
    split
    · exact (changeBallot_takes b s).then_none (leave_takes _)
    · exact changeBallot_takes b s
  · exact .refl s

theorem reconcile_takes (p n : Nat) (pending : Bool) (s : State) : Takes 1 s (reconcile p n pending s) := by
  have hnone := (Takes.refl s).mono (Nat.zero_le 1)
  unfold reconcile
  dsimp only
  split
  · exact hnone
  · split
    · exact (purge_takes p s).mono (Nat.zero_le 1)
    · split
      · exact hnone
      · exact requestRecall_takes p s

theorem confirmOffer_takes (a : Nat) (m : Mode) (b : Ballot) (s : State) : Takes 0 s (confirmOffer a m b s) := by
  unfold confirmOffer
  split
  · split
    · exact updateEntry_takes a (fun e => { e with confirmed := true }) (fun _ => rfl) s
    · exact .refl s
    · exact leave_takes s
  · exact .refl s

/-- A TALLY's content in its sender's entry, the recall pending field cleared when it was set before the arrival (R5, R11). -/
def summaryTaken (a : Nat) (x : Summary) (wasPending : Bool) (s : State) : State :=
  s.updateEntry a fun e => { e with summary := some x, recallPending := if wasPending then false else e.recallPending }

/-- The state in which a TALLY's ballot is offered (R11, R43). -/
def tallyReconciled (a : Nat) (x : Summary) (wasPending : Bool) (s : State) : State :=
  reconcile a x.holdCount (s.entry a).recallPending (summaryTaken a x wasPending s)

theorem takeTally_eq (a : Nat) (x : Summary) (wasPending : Bool) (s : State) :
    takeTally a x wasPending s =
      if (offer x.ballot (tallyReconciled a x wasPending s)).isMember a then
        confirmOffer a x.mode x.ballot (offer x.ballot (tallyReconciled a x wasPending s))
      else offer x.ballot (tallyReconciled a x wasPending s) := rfl

theorem summaryTaken_takes (a : Nat) (x : Summary) (wasPending : Bool) (s : State) : Takes 0 s (summaryTaken a x wasPending s) :=
  updateEntry_takes a _ (by intro e; rfl) s

theorem tallyReconciled_takes (a : Nat) (x : Summary) (wasPending : Bool) (s : State) :
    Takes 1 s (tallyReconciled a x wasPending s) :=
  (summaryTaken_takes a x wasPending s).after_none (reconcile_takes _ _ _ _)

theorem takeTally_takes (a : Nat) (x : Summary) (wasPending : Bool) (s : State) : Takes 1 s (takeTally a x wasPending s) := by
  have hoffered := (tallyReconciled_takes a x wasPending s).then_none (offer_takes x.ballot _)
  rw [takeTally_eq]
  split
  · exact hoffered.then_none (confirmOffer_takes _ _ _ _)
  · exact hoffered

/-- An ANNOUNCE's content in its sender's entry (R12). -/
def dataTaken (a : Nat) (d : AnnounceData) (s : State) : State :=
  s.updateEntry a fun e => { e with summary := none, confirmed := false, announced := some d }

/-- The state in which an ANNOUNCE from a member of E breaks a closed station (R12, R71). -/
def announceHeard (a : Nat) (d : AnnounceData) (s : State) : State := claim .tally (purge a (dataTaken a d s))

theorem dataTaken_takes (a : Nat) (d : AnnounceData) (s : State) : Takes 0 s (dataTaken a d s) :=
  updateEntry_takes a _ (by intro e; rfl) s

theorem announceHeard_takes (a : Nat) (d : AnnounceData) (s : State) : Takes 1 s (announceHeard a d s) := by
  unfold announceHeard
  exact ((dataTaken_takes a d s).then_none (purge_takes a _)).after_none (claim_takes .tally _)

theorem takeAnnounce_eq (a : Nat) (d : AnnounceData) (s : State) :
    takeAnnounce a d s =
      if (announceHeard a d s).isExpected a && decide ((announceHeard a d s).ballot.mode = .closed) then leave (announceHeard a d s)
      else announceHeard a d s := by
  unfold takeAnnounce announceHeard dataTaken
  rfl

theorem takeAnnounce_takes (a : Nat) (d : AnnounceData) (s : State) : Takes 1 s (takeAnnounce a d s) := by
  rw [takeAnnounce_eq]
  split
  · exact (announceHeard_takes a d s).then_none (leave_takes _)
  · exact announceHeard_takes a d s

theorem storeRemote_takes (r : RemoteHold) (s : State) : Takes 1 s (storeRemote r s) := by
  unfold storeRemote
  split
  · refine Takes.mono ?_ (Nat.zero_le 1)
    exact .of_blocks rfl rfl rfl rfl rfl
  · split
    · exact (changeHolds_takes _ s).mono (Nat.zero_le 1)
    · exact requestRecall_takes _ _

theorem takeHold_takes (r : RemoteHold) (s : State) : Takes 1 s (takeHold r s) := (storeRemote_takes r s).then_none (leave_takes _)

theorem takeLift_takes (o : Nat) (n : Byte) (s : State) : Takes 0 s (takeLift o n s) := changeHolds_takes _ s

theorem appendNotice_takes (kind : NoticeKind) (n : Byte) (replay : Bool) (s : State) : Takes 0 s (appendNotice kind n replay s) :=
  .of_roster (by simp) (by simp) (by simp) ⟨by simp, by simp, by simp, by simp, by simp, by simp⟩
    (.of_blocks (by simp) (by simp) (by simp) (by simp))

theorem takeRecall_takes (p : Nat) (s : State) : Takes 0 s (takeRecall p s) := by
  have hone : ∀ (v : State) (h : OwnHold), Takes 0 v (replayNotice v h) := by
    intro v h
    unfold replayNotice
    split
    · exact .refl v
    · exact appendNotice_takes _ _ _ v
  have hall : ∀ (l : List OwnHold) (v : State), Takes 0 v (l.foldl replayNotice v) := by
    intro l
    induction l with
    | nil => exact Takes.refl
    | cons h l ih => exact fun v => (hone v h).then_none (ih _)
  unfold takeRecall
  split
  · exact hall _ s
  · exact .refl s

theorem setMode_takes {m : Mode} (hm : m ≠ .start) (hs : s.ballot.mode ≠ .start)
    (howed : m = .pledged → s.ballot.role = .proposer → s.ballot.mode = .pledged) : Takes 0 s (setMode m s) := by
  refine .of_roster (by simp) (by simp) (by simp [hm, hs]) (.of_link (by simp)) (.of_same (by simp) (by simp) ?_)
  unfold State.owed
  rw [setMode_mode, setMode_ballot_role]
  split
  · next h =>
    rw [if_pos ⟨howed h.1 h.2, h.2⟩]
  · exact Nat.zero_le _

theorem assent_takes (b : Ballot) (h : s.ballot.mode = .opened) : Takes 1 s (assent b s) := by
  have hvoter : Takes 0 s (voterState b s) :=
    .of_roster rfl rfl Iff.rfl (.of_link rfl) (.of_same rfl rfl (by rw [owed_of_role (s := voterState b s) (by decide : Role.voter ≠ .proposer)]; exact Nat.zero_le _))
  have hclaimed := hvoter.after_none (claim_takes (.assent b) (voterState b s))
  have hvoterMode : (claim (.assent b) (voterState b s)).ballot.mode = .opened := by rw [claim_ballot]; exact h
  have hvoterRole : (claim (.assent b) (voterState b s)).ballot.role = .voter := by rw [claim_ballot]; rfl
  have hpledged : Takes 1 s (pledgedVoter b s) := hclaimed.then_none (setMode_takes (by decide) (by rw [hvoterMode]; decide)
    (fun _ hr => by cases hr.symm.trans hvoterRole))
  rw [assent_eq]
  exact hpledged.then_none (.of_blocks rfl rfl rfl rfl rfl)

theorem vote_takes (b : Ballot) (n : Nat) (d : Digest) (s : State) : Takes 1 s (vote b n d s) := by
  unfold vote
  split
  · exact claim_takes _ s
  · split
    · next h => exact assent_takes b h
    · exact (Takes.refl s).mono (Nat.zero_le 1)

theorem takePropose_takes (a : Nat) (b : Ballot) (n : Nat) (d : Digest) (s : State) : Takes 1 s (takePropose a b n d s) := by
  unfold takePropose
  split
  · exact (offer_takes b s).after_none (vote_takes _ _ _ _)
  · exact (Takes.refl s).mono (Nat.zero_le 1)

theorem addVote_takes (a : Nat) (s : State) : Takes 0 s (addVote a s) := by
  unfold addVote
  split
  · exact .of_blocks rfl rfl rfl rfl rfl
  · exact .refl s

theorem claimCommit_takes (b : Ballot) (s : State) : Takes 1 s (claimCommit b s) := by
  unfold claimCommit
  split
  · exact (claim_takes (.commit b) s).then_none (.of_blocks rfl rfl rfl rfl rfl)
  · exact (Takes.refl s).mono (Nat.zero_le 1)

theorem takeAssent_takes (a : Nat) (b : Ballot) (s : State) : Takes 1 s (takeAssent a b s) := by
  unfold takeAssent
  dsimp only
  split
  · exact ((offer_takes b s).then_none (addVote_takes a _)).after_none (claimCommit_takes _ _)
  · exact (offer_takes b s).mono (Nat.zero_le 1)

theorem takeDemur_takes (b : Ballot) (s : State) : Takes 0 s (takeDemur b s) := by
  unfold takeDemur
  dsimp only
  split
  · exact (offer_takes b s).then_none (leave_takes _)
  · exact offer_takes b s

theorem takeWithdraw_takes (b : Ballot) (s : State) : Takes 0 s (takeWithdraw b s) := by
  unfold takeWithdraw
  dsimp only
  split
  · exact (offer_takes b s).then_none (leave_takes _)
  · exact offer_takes b s

theorem enterClosed_takes (h : s.ballot.mode ≠ .start) : Takes 0 s (enterClosed s) := by
  by_cases hholds : s.holds.own = [] ∧ s.holds.remote = []
  · refine ⟨?_, ?_, by simp, ?_, enterClosed_sameLine s, enterClosed_fills s⟩ <;> rw [enterClosed_of_no_hold hholds.1 hholds.2]
    · rw [setMode_roster]
      refine map_sight_of_keeps (fun e => ?_) _
      split <;> rfl
    · rw [setMode_roster]
      rfl
    · rw [setMode_mode]
      exact iff_of_false (by decide) h
  · rw [enterClosed_of_hold (by tauto)]
    exact leave_takes s

theorem takeCommit_takes (b : Ballot) (s : State) : Takes 0 s (takeCommit b s) := by
  unfold takeCommit
  dsimp only
  split
  · next h =>
    obtain ⟨hmode, -⟩ := (isPledged_iff _ _).1 h
    exact (offer_takes b s).then_none (enterClosed_takes (by rw [hmode]; decide))
  · exact offer_takes b s

/-! ### A frame and its owner -/

/-- What the owner of a frame's kind does with it, in the state heard; s is the state before the arrival. -/
def Body.owner (a : Nat) (s : State) : Body → State → State
  | .tally c => takeTally a c (s.entry a).recallPending
  | .announce d => takeAnnounce a d
  | .hold n c i d => takeHold ⟨a, n, c, i, d, s.now⟩
  | .lift n => takeLift a n
  | .recall p => takeRecall p
  | .propose b n d => takePropose a b n d
  | .assent b => takeAssent a b
  | .demur b _ => takeDemur b
  | .commit b => takeCommit b
  | .withdraw b => takeWithdraw b
  | .answer _ => id

theorem Body.owner_takes (a : Nat) (s : State) (b : Body) (u : State) : Takes 1 u (b.owner a s u) := by
  cases b with
  | tally c => exact takeTally_takes _ _ _ u
  | announce d => exact takeAnnounce_takes _ _ u
  | hold n c i d => exact takeHold_takes _ u
  | lift n => exact (takeLift_takes _ _ u).mono (Nat.zero_le 1)
  | propose b n d => exact takePropose_takes _ _ _ _ u
  | assent b => exact takeAssent_takes _ _ u
  | demur b r => exact (takeDemur_takes _ u).mono (Nat.zero_le 1)
  | commit b => exact (takeCommit_takes _ u).mono (Nat.zero_le 1)
  | withdraw b => exact (takeWithdraw_takes _ u).mono (Nat.zero_le 1)
  | answer p => exact (Takes.refl u).mono (Nat.zero_le 1)
  -- RECALL, whose constructor bears the name of a Mathlib command
  | _ => exact (takeRecall_takes _ u).mono (Nat.zero_le 1)

/-- A frame command is the arrival of its frame, taken by the owner of its kind (R8). -/
theorem exec_frame (a : Nat) (b : Body) (s : State) :
    exec (b.command a) s = .next (endEvent s (arrive a (frameValid a b) (b.owner a s) s)) := by
  cases b <;> rfl

theorem exec_frame_taken {a : Nat} {b : Body} (hvalid : frameValid a b = true) (htakes : TakesFrom s a) :
    exec (b.command a) s = .next (endEvent s (judgeView (b.owner a s (heardState a s)))) := by
  rw [exec_frame, hvalid, arrive_taken a _ s htakes.2 htakes.1]

/-! ### The sender heard -/

/-- The arrival is the return of a station that can be asked for a RECALL (R8 step 2, R9). -/
def State.returns (s : State) (a : Nat) : Prop :=
  ((s.entry a).state = .vacant ∨ (s.entry a).state = .lost) ∧ 1 ≤ a ∧ a ≤ 24 ∧ a ≠ s.own ∧ (s.entry a).recallPending = false

/-- The sender's entry PRESENT, before what its return asks for (R8 step 1). -/
def presentState (a : Nat) (s : State) : State := s.updateEntry a fun e => { e with state := .present, age := 0 }

theorem hear_of_stranger {a : Nat} (h : (s.entry a).state ≠ .vacant ∧ (s.entry a).state ≠ .lost ∨ a = 0) :
    hear a s = presentState a s := by
  unfold hear
  dsimp only
  split
  · next hs => exact if_pos (h.resolve_left fun hk => hk.1 hs)
  · next hs => exact if_pos (h.resolve_left fun hk => hk.2 hs)
  · rfl
  · rfl

theorem hear_of_return {a : Nat} (h : (s.entry a).state = .vacant ∨ (s.entry a).state = .lost) (ha : a ≠ 0) :
    hear a s = requestRecall a (presentState a s) := by
  unfold hear
  dsimp only
  rcases h with h | h <;> rw [h] <;> exact if_neg ha

theorem requestRecall_of_asked {p : Nat} (h : 1 ≤ p ∧ p ≤ 24 ∧ p ≠ s.own ∧ (s.entry p).recallPending = false) :
    requestRecall p s = claim (.recall p) ((purge p s).updateEntry p fun e => { e with recallPending := true }) := if_pos h

theorem requestRecall_of_not_asked {p : Nat} (h : ¬(1 ≤ p ∧ p ≤ 24 ∧ p ≠ s.own ∧ (s.entry p).recallPending = false)) :
    requestRecall p s = s := if_neg h

theorem presentState_entry_self (hshaped : RosterShaped s) {a : Nat} (ha : a ≤ 24) :
    (presentState a s).entry a = { s.entry a with state := .present, age := 0 } :=
  updateEntry_entry_self (f := fun e => { e with state := .present, age := 0 }) hshaped ha fun _ => rfl

theorem presentState_own (a : Nat) (s : State) : (presentState a s).own = s.own :=
  congrArg StartSequence.address (State.updateEntry_startup _ _ _)

/-- The remote holds of an origin are gone after its purge (R41). -/
theorem purge_remote (p : Nat) (s : State) :
    (purge p s).holds.remote = s.holds.remote.filter fun r => decide (r.origin ≠ p) := by
  unfold purge State.changeHolds
  rw [settleReadiness_holds]
  rfl

theorem requestRecall_remote_of_asked {p : Nat} (h : 1 ≤ p ∧ p ≤ 24 ∧ p ≠ s.own ∧ (s.entry p).recallPending = false) :
    (requestRecall p s).holds.remote = s.holds.remote.filter fun r => decide (r.origin ≠ p) := by
  rw [requestRecall_of_asked h, claim_holds, State.updateEntry_holds, purge_remote]

theorem requestRecall_entry_self (hshaped : RosterShaped s) {p : Nat}
    (h : 1 ≤ p ∧ p ≤ 24 ∧ p ≠ s.own ∧ (s.entry p).recallPending = false) :
    (requestRecall p s).entry p = { s.entry p with recallPending := true } := by
  have hpurged : RosterShaped (purge p s) := by unfold RosterShaped; rw [purge_roster]; exact hshaped
  have hmarked : (recallMarked p (purge p s)).entry p = { (purge p s).entry p with recallPending := true } :=
    updateEntry_entry_self (f := fun e => { e with recallPending := true }) hpurged h.2.1 fun _ => rfl
  have hclaimed : (requestRecall p s).entry p = (recallMarked p (purge p s)).entry p := by
    rw [requestRecall_of_asked h]
    exact entry_congr (by rw [claim_roster]; rfl) p
  rw [hclaimed, hmarked, entry_congr (t := purge p s) (s := s) (by rw [purge_roster])]

theorem requestRecall_queued {p : Nat} (h : 1 ≤ p ∧ p ≤ 24 ∧ p ≠ s.own ∧ (s.entry p).recallPending = false)
    (hroom : Roomy (k + 1) s) : Queued (requestRecall p s) (.recall p) := by
  rw [requestRecall_of_asked h]
  exact (((purge_fills p s).then_none (updateEntry_fills _ _ _)).roomy (k := 0) hroom).claim_queued _

/-- Hearing a sender that is not asked for a RECALL leaves all but its entry (R8 step 1). -/
theorem hear_of_not_returns (hshaped : RosterShaped s) {a : Nat} (ha : a ≤ 24) (h : ¬ s.returns a) : hear a s = presentState a s := by
  by_cases hreturn : ((s.entry a).state = .vacant ∨ (s.entry a).state = .lost) ∧ a ≠ 0
  · obtain ⟨hstate, ha0⟩ := hreturn
    rw [hear_of_return hstate ha0, requestRecall_of_not_asked]
    rintro ⟨h1, h24, hown, hpending⟩
    rw [presentState_own] at hown
    rw [presentState_entry_self hshaped ha] at hpending
    exact h ⟨hstate, h1, h24, hown, hpending⟩
  · exact hear_of_stranger (by tauto)

theorem asked_of_returns (hshaped : RosterShaped s) {a : Nat} (h : s.returns a) :
    1 ≤ a ∧ a ≤ 24 ∧ a ≠ (presentState a s).own ∧ ((presentState a s).entry a).recallPending = false := by
  obtain ⟨-, h1, h24, hown, hpending⟩ := h
  rw [presentState_own, presentState_entry_self hshaped h24]
  exact ⟨h1, h24, hown, hpending⟩

theorem hear_of_returns {a : Nat} (h : s.returns a) : hear a s = requestRecall a (presentState a s) := by
  obtain ⟨hstate, h1, -⟩ := h
  exact hear_of_return hstate (by omega)

theorem presentState_rosterShaped {a : Nat} (h : RosterShaped s) : RosterShaped (presentState a s) :=
  updateEntry_rosterShaped h fun _ => rfl

/-- The line of a frame that has ended (R185). -/
def lineHeard (a : Nat) (s : State) : State := setLastSender a (lineQuiet s)

theorem lineHeard_frame (a : Nat) (s : State) :
    (lineHeard a s).roster = s.roster ∧ (lineHeard a s).holds = s.holds ∧ (lineHeard a s).startup = s.startup ∧
      (lineHeard a s).ballot = s.ballot ∧ (lineHeard a s).switch = s.switch := by
  unfold lineHeard
  exact ⟨by simp, by simp, by simp, by simp, by simp⟩

theorem lineHeard_returns {a : Nat} : (lineHeard a s).returns a ↔ s.returns a := by
  obtain ⟨hroster, -, hstartup, -⟩ := lineHeard_frame a s
  have hentry : (lineHeard a s).entry a = s.entry a := entry_congr (by rw [hroster]) a
  have hown : (lineHeard a s).own = s.own := congrArg StartSequence.address hstartup
  unfold State.returns
  rw [hentry, hown]

theorem heardState_eq (a : Nat) (s : State) : heardState a s = judgeDiscord (hear a (lineHeard a s)) := rfl

/-- The sender's entry once it has been heard (R8). -/
theorem heardState_entry_self (hshaped : RosterShaped s) {a : Nat} (ha : a ≤ 24) :
    ((heardState a s).entry a).state = .present ∧ ((heardState a s).entry a).age = 0 ∧
      ((heardState a s).entry a).summary = (s.entry a).summary ∧ ((heardState a s).entry a).announced = (s.entry a).announced ∧
      ((heardState a s).entry a).confirmed = (s.entry a).confirmed ∧
      ((s.entry a).recallPending = true → ((heardState a s).entry a).recallPending = true) ∧
      (s.returns a → ((heardState a s).entry a).recallPending = true) ∧
      (¬ s.returns a → ((heardState a s).entry a).recallPending = (s.entry a).recallPending) := by
  obtain ⟨hroster, -⟩ := lineHeard_frame a s
  have hshaped' : RosterShaped (lineHeard a s) := by unfold RosterShaped; rw [hroster]; exact hshaped
  have hline : (lineHeard a s).entry a = s.entry a := entry_congr (by rw [hroster]) a
  have hheard : (heardState a s).entry a = (hear a (lineHeard a s)).entry a := by
    rw [heardState_eq]
    exact entry_congr (by rw [judgeDiscord_roster]) a
  rw [hheard]
  by_cases hreturns : s.returns a
  · have h := lineHeard_returns.2 hreturns
    rw [hear_of_returns h, requestRecall_entry_self (presentState_rosterShaped hshaped') (asked_of_returns hshaped' h),
      presentState_entry_self hshaped' ha, hline]
    exact ⟨rfl, rfl, rfl, rfl, rfl, fun _ => rfl, fun _ => rfl, fun hn => absurd hreturns hn⟩
  · rw [hear_of_not_returns hshaped' ha (mt lineHeard_returns.1 hreturns), presentState_entry_self hshaped' ha, hline]
    exact ⟨rfl, rfl, rfl, rfl, rfl, id, fun h => absurd h hreturns, fun _ => rfl⟩

/-- On a return the remote holds of the sender are purged and a RECALL is queued when there is room (R9, R42). -/
theorem heardState_of_returns (hshaped : RosterShaped s) {a : Nat} (h : s.returns a) :
    (heardState a s).holds.remote = s.holds.remote.filter (fun r => decide (r.origin ≠ a)) ∧
      (Roomy (k + 1) s → Queued (heardState a s) (.recall a)) := by
  obtain ⟨hroster, hholds, -⟩ := lineHeard_frame a s
  have hshaped' : RosterShaped (lineHeard a s) := by unfold RosterShaped; rw [hroster]; exact hshaped
  have hreturns := lineHeard_returns.2 h
  have hasked := asked_of_returns hshaped' hreturns
  have hpresent : (presentState a (lineHeard a s)).holds = s.holds := (State.updateEntry_holds _ _ _).trans hholds
  refine ⟨?_, fun hroom => ?_⟩
  · rw [heardState_eq, judgeDiscord_holds_remote, hear_of_returns hreturns, requestRecall_remote_of_asked hasked, hpresent]
  · have hroom' : Roomy (k + 1) (presentState a (lineHeard a s)) :=
      ((lineHeard_fills a s).then_none (updateEntry_fills _ _ _)).roomy (k := 0) hroom
    have hrequested : Queued (hear a (lineHeard a s)) (.recall a) := by
      rw [hear_of_returns hreturns]
      exact requestRecall_queued hasked hroom'
    have hheard : Roomy k (hear a (lineHeard a s)) := ((lineHeard_fills a s).after_none (hear_fills a _)).roomy hroom
    rw [heardState_eq]
    exact (judgeDiscord_fills _).queued (hheard.mono (Nat.zero_le k)) hrequested

theorem hear_remote_of_not_returns (hshaped : RosterShaped s) {a : Nat} (ha : a ≤ 24) (h : ¬ s.returns a) :
    (heardState a s).holds.remote = s.holds.remote := by
  obtain ⟨hroster, hholds, -⟩ := lineHeard_frame a s
  have hshaped' : RosterShaped (lineHeard a s) := by unfold RosterShaped; rw [hroster]; exact hshaped
  rw [heardState_eq, judgeDiscord_holds_remote, hear_of_not_returns hshaped' ha (mt lineHeard_returns.1 h)]
  exact congrArg HoldUnit.remote ((State.updateEntry_holds _ _ _).trans hholds)

/-! ### The judged view -/

/-- After the roster's holds have been judged: DISCORD stands as its condition, LINK as a member is missing (R23, R24). -/
theorem judgeView_stands (h : s.ballot.mode ≠ .start) :
    ((judgeView s).stands .discord = true ↔ s.discord = true) ∧
      (s.roster.joinComplete = true → ((judgeView s).stands .link = true ↔ s.missing ≠ [])) := by
  have hlinkMode : (judgeLink s).ballot.mode ≠ .start := by
    unfold judgeLink
    split
    · split <;> simpa using h
    · exact h
  have hdiscord : (judgeLink s).discord = s.discord := discord_congr (by rw [judgeLink_roster]) (judgeLink_startup s)
  refine ⟨?_, fun hjoined => ?_⟩
  · unfold judgeView
    rw [judgeDiscord_stands_iff hlinkMode, hdiscord]
  · have hkept : (judgeView s).stands .link = (judgeLink s).stands .link := by
      unfold State.stands judgeView
      rw [judgeDiscord_ownHold_of_ne (by decide)]
    rw [hkept]
    unfold judgeLink
    rw [if_pos hjoined]
    split
    · next hempty => exact iff_of_false (by rw [liftHold_stands_self]; decide) (by simpa using hempty)
    · next hempty => exact iff_of_true (raiseHold_stands_self _ _ _) (by simpa using hempty)

theorem missing_congr (hentries : t.roster.entries = s.roster.entries) (hjoined : t.roster.joinComplete = s.roster.joinComplete)
    (hconfig : t.startup.config = s.startup.config) : t.missing = s.missing := by
  have hexpected : ∀ a, t.isExpected a = s.isExpected a := fun a => by
    unfold State.isExpected
    rw [isMember_congr hconfig]
    unfold State.cfg
    rw [hconfig]
  unfold State.missing State.entryMissing
  simp only [hentries, hjoined, hexpected]

end

end Sys2Proof.Machine

/-! Every frame is heard (R8, R9, R178, R179, R185): what an owner can make of the sender's entry and of the remote holds. -/

namespace Sys2Proof.Machine

section
variable {s t u : State} {k l : Nat}

/-! ### Entries found by address -/

/-- What the view tells of an entry is found among what it tells of all. -/
theorem entry_sight (s : State) (a : Nat) :
    (s.entry a).sight =
      ((s.roster.entries.map RosterEntry.sight).find? fun k => decide (k.1 = a)).getD (RosterEntry.vacant a).sight := by
  rw [List.find?_map, Option.getD_map]
  rfl

theorem Takes.entry_sight (h : Takes k s t) (a : Nat) : (t.entry a).sight = (s.entry a).sight := by
  rw [Machine.entry_sight, Machine.entry_sight, h.sights]

theorem Takes.entry_state (h : Takes k s t) (a : Nat) : (t.entry a).state = (s.entry a).state :=
  congrArg (fun k => k.2.1) (h.entry_sight a)

theorem Takes.entry_age (h : Takes k s t) (a : Nat) : (t.entry a).age = (s.entry a).age :=
  congrArg (fun k => k.2.2) (h.entry_sight a)

theorem Takes.rosterShaped (h : Takes k s t) (hs : RosterShaped s) : RosterShaped t := by
  have haddresses : ∀ v : State, v.roster.entries.map (fun e => e.address) = (v.roster.entries.map RosterEntry.sight).map Prod.fst :=
    fun v => by rw [List.map_map]; rfl
  unfold RosterShaped at hs ⊢
  rw [haddresses, h.sights, ← haddresses, hs]

/-- From s to t no entry that marks a RECALL as pending loses the mark (R42). -/
def PendingKept (s t : State) : Prop := ∀ a, (s.entry a).recallPending = true → (t.entry a).recallPending = true

theorem PendingKept.refl (s : State) : PendingKept s s := fun _ h => h

theorem PendingKept.trans (h : PendingKept s t) (h' : PendingKept t u) : PendingKept s u := fun a ha => h' a (h a ha)

theorem PendingKept.of_roster (h : t.roster = s.roster) : PendingKept s t := fun a ha =>
  (congrArg RosterEntry.recallPending (entry_congr (by rw [h]) a)).trans ha

/-- Entries changed one by one, under their addresses, none losing its mark. -/
theorem PendingKept.of_map {f : RosterEntry → RosterEntry} (hmap : t.roster.entries = s.roster.entries.map f)
    (haddress : ∀ e : RosterEntry, (f e).address = e.address)
    (hmark : ∀ e : RosterEntry, e.recallPending = true → (f e).recallPending = true) : PendingKept s t := fun a ha => by
  have hsame : (fun e : RosterEntry => decide (e.address = a)) ∘ f = fun e : RosterEntry => decide (e.address = a) := by
    funext e
    exact congrArg (fun n => decide (n = a)) (haddress e)
  unfold State.entry at ha ⊢
  rw [hmap, List.find?_map, hsame]
  cases hfind : s.roster.entries.find? (fun e => decide (e.address = a)) with
  | none => rw [hfind] at ha; cases ha
  | some e => rw [hfind] at ha; exact hmark e ha

theorem PendingKept.updateEntry {a : Nat} {f : RosterEntry → RosterEntry} (haddress : ∀ e : RosterEntry, (f e).address = e.address)
    (hmark : ∀ e : RosterEntry, e.recallPending = true → (f e).recallPending = true) : PendingKept s (s.updateEntry a f) :=
  .of_map (updateEntry_entries s a f) (fun e => by split <;> [exact haddress e; rfl]) fun e h => by split <;> [exact hmark e h; exact h]

/-! ### What an owner does to pending recalls -/

theorem requestRecall_pendingKept (p : Nat) (s : State) : PendingKept s (requestRecall p s) := by
  unfold requestRecall
  split
  · refine PendingKept.trans (.trans (.of_roster (purge_roster p s)) ?_) (.of_roster (claim_roster _ _))
    exact PendingKept.updateEntry (f := fun e => { e with recallPending := true }) (fun _ => rfl) fun _ _ => rfl
  · exact .refl s

theorem reconcile_pendingKept (p n : Nat) (pending : Bool) (s : State) : PendingKept s (reconcile p n pending s) := by
  unfold reconcile
  dsimp only
  split
  · exact .refl s
  · split
    · exact .of_roster (purge_roster p s)
    · split
      · exact .refl s
      · exact requestRecall_pendingKept p s

theorem confirmOffer_pendingKept (a : Nat) (m : Mode) (b : Ballot) (s : State) : PendingKept s (confirmOffer a m b s) := by
  unfold confirmOffer
  split
  · split
    · exact PendingKept.updateEntry (f := fun e => { e with confirmed := true }) (fun _ => rfl) fun _ h => h
    · exact .refl s
    · exact .of_roster (leave_roster s)
  · exact .refl s

theorem takeTally_pendingKept (a : Nat) (x : Summary) (s : State) : PendingKept s (takeTally a x false s) := by
  have hoffered : PendingKept s (offer x.ballot (tallyReconciled a x false s)) := by
    refine PendingKept.trans (.trans (t := summaryTaken a x false s) ?_ (reconcile_pendingKept _ _ _ _)) (.of_roster (offer_roster _ _))
    exact PendingKept.updateEntry (f := fun e => { e with summary := some x, recallPending := if false then false else e.recallPending })
      (fun _ => rfl) fun _ h => h
  rw [takeTally_eq]
  split
  · exact hoffered.trans (confirmOffer_pendingKept _ _ _ _)
  · exact hoffered

theorem takeAnnounce_pendingKept (a : Nat) (d : AnnounceData) (s : State) : PendingKept s (takeAnnounce a d s) := by
  have htaken : PendingKept s (announceHeard a d s) := by
    refine PendingKept.trans (t := dataTaken a d s) ?_ (.of_roster (by simp [announceHeard]))
    exact PendingKept.updateEntry (f := fun e => { e with summary := none, confirmed := false, announced := some d }) (fun _ => rfl)
      fun _ h => h
  rw [takeAnnounce_eq]
  split
  · exact htaken.trans (.of_roster (leave_roster _))
  · exact htaken

theorem takeHold_pendingKept (r : RemoteHold) (s : State) : PendingKept s (takeHold r s) := by
  refine PendingKept.trans (t := storeRemote r s) ?_ (.of_roster (by simp [takeHold]))
  unfold storeRemote
  split
  · exact .of_roster rfl
  · split
    · exact .of_roster (by simp)
    · exact requestRecall_pendingKept _ s

theorem enterClosed_pendingKept (s : State) : PendingKept s (enterClosed s) := by
  by_cases hholds : s.holds.own = [] ∧ s.holds.remote = []
  · rw [enterClosed_of_no_hold hholds.1 hholds.2]
    refine PendingKept.of_map (f := fun e => if s.isMember e.address then { e with confirmed := false } else e) (by rw [setMode_roster]; rfl) ?_ ?_
    · intro e
      split <;> rfl
    · intro e h
      split <;> exact h
  · rw [enterClosed_of_hold (by tauto)]
    exact .of_roster (leave_roster s)

theorem takeCommit_pendingKept (b : Ballot) (s : State) : PendingKept s (takeCommit b s) := by
  have hoffered : PendingKept s (offer b s) := .of_roster (offer_roster b s)
  unfold takeCommit
  dsimp only
  split
  · exact hoffered.trans (enterClosed_pendingKept _)
  · exact hoffered

/-- A RECALL pending in the state heard, and not before the arrival, is pending still after the owner (R5, R11). -/
theorem Body.owner_pendingKept (a : Nat) (hs : (s.entry a).recallPending = false) (b : Body) (u : State) :
    PendingKept u (b.owner a s u) := by
  cases b with
  | tally c =>
    show PendingKept u (takeTally a c (s.entry a).recallPending u)
    rw [hs]
    exact takeTally_pendingKept a c u
  | announce d => exact takeAnnounce_pendingKept a d u
  | hold n c i d => exact takeHold_pendingKept _ u
  | lift n => exact .of_roster (takeLift_roster _ _ u)
  | propose b n d => exact .of_roster (takePropose_roster _ _ _ _ u)
  | assent b => exact .of_roster (takeAssent_roster _ _ u)
  | demur b r => exact .of_roster (takeDemur_roster _ u)
  | commit b => exact takeCommit_pendingKept b u
  | withdraw b => exact .of_roster (takeWithdraw_roster _ u)
  | answer p => exact .refl u
  -- RECALL, whose constructor bears the name of a Mathlib command
  | _ => exact .of_roster (takeRecall_roster _ u)

/-! ### What an owner does to the remote holds -/

theorem mem_purge_remote {p : Nat} {r : RemoteHold} (hr : r ∈ (purge p s).holds.remote) : r ∈ s.holds.remote := by
  rw [purge_remote] at hr
  exact List.mem_of_mem_filter hr

theorem mem_requestRecall_remote {p : Nat} {r : RemoteHold} (hr : r ∈ (requestRecall p s).holds.remote) : r ∈ s.holds.remote := by
  by_cases hasked : 1 ≤ p ∧ p ≤ 24 ∧ p ≠ s.own ∧ (s.entry p).recallPending = false
  · rw [requestRecall_remote_of_asked hasked] at hr
    exact List.mem_of_mem_filter hr
  · rwa [requestRecall_of_not_asked hasked] at hr

theorem mem_reconcile_remote {p n : Nat} {pending : Bool} {r : RemoteHold} (hr : r ∈ (reconcile p n pending s).holds.remote) :
    r ∈ s.holds.remote := by
  unfold reconcile at hr
  dsimp only at hr
  split at hr
  · exact hr
  · split at hr
    · exact mem_purge_remote hr
    · split at hr
      · exact hr
      · exact mem_requestRecall_remote hr

theorem confirmOffer_holds_eq (a : Nat) (m : Mode) (b : Ballot) (s : State) : (confirmOffer a m b s).holds = s.holds := by
  unfold confirmOffer
  split
  · split
    · exact State.updateEntry_holds _ _ _
    · rfl
    · exact leave_holds s
  · rfl

/-- A TALLY's owner leaves the remote holds that tally reconciliation leaves (R11, R43). -/
theorem takeTally_holds (a : Nat) (x : Summary) (wasPending : Bool) (s : State) :
    (takeTally a x wasPending s).holds = (tallyReconciled a x wasPending s).holds := by
  rw [takeTally_eq]
  split
  · rw [confirmOffer_holds_eq, offer_holds]
  · rw [offer_holds]

theorem takeAnnounce_remote (a : Nat) (d : AnnounceData) (s : State) :
    (takeAnnounce a d s).holds.remote = s.holds.remote.filter fun r => decide (r.origin ≠ a) := by
  have hheard : (announceHeard a d s).holds.remote = s.holds.remote.filter fun r => decide (r.origin ≠ a) := by
    unfold announceHeard dataTaken
    rw [claim_holds, purge_remote, State.updateEntry_holds]
  rw [takeAnnounce_eq]
  split
  · rw [leave_holds, hheard]
  · exact hheard

theorem storeRemote_of_known {r : RemoteHold} (h : ∃ x ∈ s.holds.remote, x.origin = r.origin ∧ x.serial = r.serial) :
    (storeRemote r s).holds.remote = s.holds.remote.map fun x => if x.origin = r.origin ∧ x.serial = r.serial then r else x := by
  unfold storeRemote
  rw [if_pos (by simpa using h)]
  rfl

theorem storeRemote_of_room {r : RemoteHold} (h : ∀ x ∈ s.holds.remote, ¬(x.origin = r.origin ∧ x.serial = r.serial))
    (hroom : s.holds.remote.length < 48) : (storeRemote r s).holds.remote = s.holds.remote ++ [r] := by
  unfold storeRemote
  rw [if_neg (by simpa using h), if_pos (show _ < remoteCapacity from hroom)]
  unfold State.changeHolds
  rw [settleReadiness_holds]
  rfl

theorem storeRemote_of_full {r : RemoteHold} (h : ∀ x ∈ s.holds.remote, ¬(x.origin = r.origin ∧ x.serial = r.serial))
    (hfull : 48 ≤ s.holds.remote.length) : storeRemote r s = requestRecall r.origin s := by
  unfold storeRemote
  rw [if_neg (by simpa using h), if_neg (show ¬ _ < remoteCapacity from Nat.not_lt.2 hfull)]

theorem takeHold_remote (r : RemoteHold) (s : State) : (takeHold r s).holds.remote = (storeRemote r s).holds.remote := by
  unfold takeHold
  rw [reportHold_holds]

theorem mem_takeHold_remote {r x : RemoteHold} (hx : x ∈ (takeHold r s).holds.remote) : x ∈ s.holds.remote ∨ x = r := by
  rw [takeHold_remote] at hx
  by_cases hknown : ∃ x ∈ s.holds.remote, x.origin = r.origin ∧ x.serial = r.serial
  · rw [storeRemote_of_known hknown] at hx
    obtain ⟨y, hy, hyx⟩ := List.mem_map.1 hx
    split at hyx
    · exact .inr hyx.symm
    · exact .inl (hyx ▸ hy)
  · have hnew : ∀ x ∈ s.holds.remote, ¬(x.origin = r.origin ∧ x.serial = r.serial) := fun x hx h => hknown ⟨x, hx, h⟩
    by_cases hroom : s.holds.remote.length < 48
    · rw [storeRemote_of_room hnew hroom] at hx
      simpa using hx
    · rw [storeRemote_of_full hnew (Nat.not_lt.1 hroom)] at hx
      exact .inl (mem_requestRecall_remote hx)

theorem takeLift_remote (o : Nat) (n : Byte) (s : State) :
    (takeLift o n s).holds.remote = s.holds.remote.filter fun r => decide (¬(r.origin = o ∧ r.serial = n)) := by
  unfold takeLift State.changeHolds
  rw [settleReadiness_holds]
  rfl

theorem takeRecall_remote (p : Nat) (s : State) : (takeRecall p s).holds.remote = s.holds.remote := by
  have hall : ∀ (l : List OwnHold) (v : State), (l.foldl replayNotice v).holds.remote = v.holds.remote := by
    intro l
    induction l with
    | nil => exact fun _ => rfl
    | cons h l ih =>
      refine fun v => (ih _).trans ?_
      unfold replayNotice
      split
      · rfl
      · simp
  unfold takeRecall
  split
  · exact hall _ s
  · rfl

/-- An owner adds no remote hold but a HOLD frame's own, under its sender (R38). -/
theorem Body.mem_owner_remote {a : Nat} {b : Body} {r : RemoteHold} (hr : r ∈ (b.owner a s u).holds.remote) :
    r ∈ u.holds.remote ∨ b = .hold r.serial r.cause r.index r.detail := by
  cases b with
  | tally c =>
    have hr' : r ∈ (tallyReconciled a c (s.entry a).recallPending u).holds.remote := by rwa [← takeTally_holds]
    have htaken : (summaryTaken a c (s.entry a).recallPending u).holds = u.holds := State.updateEntry_holds _ _ _
    exact .inl (htaken ▸ mem_reconcile_remote hr')
  | announce d =>
    have hr' : r ∈ (takeAnnounce a d u).holds.remote := hr
    rw [takeAnnounce_remote] at hr'
    exact .inl (List.mem_of_mem_filter hr')
  | hold n c i d =>
    refine (mem_takeHold_remote (r := ⟨a, n, c, i, d, s.now⟩) hr).imp_right fun h => ?_
    rw [h]
  | lift n =>
    have hr' : r ∈ (takeLift a n u).holds.remote := hr
    rw [takeLift_remote] at hr'
    exact .inl (List.mem_of_mem_filter hr')
  | propose b n d => exact .inl ((takePropose_holds a b n d u) ▸ (hr : r ∈ (takePropose a b n d u).holds.remote))
  | assent b => exact .inl ((takeAssent_holds a b u) ▸ (hr : r ∈ (takeAssent a b u).holds.remote))
  | demur b x => exact .inl ((takeDemur_holds b u) ▸ (hr : r ∈ (takeDemur b u).holds.remote))
  | commit b => exact .inl ((takeCommit_holds b u) ▸ (hr : r ∈ (takeCommit b u).holds.remote))
  | withdraw b => exact .inl ((takeWithdraw_holds b u) ▸ (hr : r ∈ (takeWithdraw b u).holds.remote))
  | answer p => exact .inl hr
  -- RECALL, whose constructor bears the name of a Mathlib command
  | _ =>
    next p => exact .inl ((takeRecall_remote p u) ▸ (hr : r ∈ (takeRecall p u).holds.remote))

/-! ### The arrival whole -/

theorem sender_le_of_frameValid {a : Nat} {b : Body} (h : frameValid a b = true) : a ≤ 24 := by
  unfold frameValid kindAllowed at h
  by_cases ha : a = 0
  · omega
  · simp [ha] at h
    omega

/-- The state in which the roster's holds are judged after an owner. -/
def frameTaken (a : Nat) (b : Body) (s : State) : State := endEvent s (judgeView (b.owner a s (heardState a s)))

theorem exec_frameTaken {a : Nat} {b : Body} (hvalid : frameValid a b = true) (htakes : TakesFrom s a) :
    exec (b.command a) s = .next (frameTaken a b s) := exec_frame_taken hvalid htakes

theorem frameTaken_roster (a : Nat) (b : Body) (s : State) : (frameTaken a b s).roster = (b.owner a s (heardState a s)).roster := by
  simp [frameTaken]

theorem frameTaken_entry (a : Nat) (b : Body) (s : State) (p : Nat) :
    (frameTaken a b s).entry p = (b.owner a s (heardState a s)).entry p := entry_congr (by rw [frameTaken_roster]) p

theorem frameTaken_remote (a : Nat) (b : Body) (s : State) :
    (frameTaken a b s).holds.remote = (b.owner a s (heardState a s)).holds.remote := by simp [frameTaken]

theorem frameTaken_highest (a : Nat) (b : Body) (s : State) :
    (frameTaken a b s).ballot.highest = (b.owner a s (heardState a s)).ballot.highest := by simp [frameTaken]

theorem frameTaken_holds (a : Nat) (b : Body) (s : State) :
    (frameTaken a b s).holds = (judgeView (b.owner a s (heardState a s))).holds := endEvent_holds _ _

theorem frameTaken_mode (a : Nat) (b : Body) (s : State) :
    (frameTaken a b s).ballot.mode = (judgeView (b.owner a s (heardState a s))).ballot.mode := endEvent_ballot_mode _ _

theorem heardState_medium (a : Nat) (h : s.link.sending = none) : (heardState a s).link.medium = .idle := by
  have hquiet : (lineHeard a s).link.medium = .idle := by
    unfold lineHeard
    rw [setLastSender_link_medium, lineQuiet_of_quiet h]
    rfl
  rw [heardState_eq, judgeDiscord_link_medium]
  unfold hear
  dsimp only
  repeat' split
  all_goals simpa using hquiet

/-- What the owner queues, and what hearing queued, are in the queue at the end when there is room. -/
theorem frameTaken_queued {a : Nat} {b : Body} {x : Claim} (hroom : HasRoom s)
    (h : Roomy 1 (heardState a s) → Queued (b.owner a s (heardState a s)) x) : Queued (frameTaken a b s) x := by
  have hheard : Roomy 1 (heardState a s) := (heardState_fills a s).roomy hroom.roomy
  have howner : Roomy 0 (b.owner a s (heardState a s)) := (Body.owner_takes a s b _).fills.roomy hheard
  exact Queued.of_link ((judgeView_fills _).queued howner (h hheard)) (endEvent_link_queue ..)

theorem heardState_mode_eq_start (a : Nat) : (heardState a s).ballot.mode = .start ↔ s.ballot.mode = .start := by
  have hheard : (hear a (lineHeard a s)).ballot.mode = s.ballot.mode := by simp [lineHeard]
  rw [heardState_eq, ← hheard]
  unfold judgeDiscord
  split
  · rfl
  · split
    · exact raiseHold_mode_eq_start _ _ _ _
    · simp

/-- After the arrival DISCORD and LINK stand as the view says (R23, R24). -/
theorem frameTaken_stands {a : Nat} {b : Body} (hmode : s.ballot.mode ≠ .start) :
    ((frameTaken a b s).stands .discord = true ↔ (frameTaken a b s).discord = true) ∧
      ((frameTaken a b s).roster.joinComplete = true → ((frameTaken a b s).stands .link = true ↔ (frameTaken a b s).missing ≠ [])) := by
  have howner : (b.owner a s (heardState a s)).ballot.mode ≠ .start := by
    rw [Ne, (Body.owner_takes a s b _).start, heardState_mode_eq_start]
    exact hmode
  obtain ⟨hdiscord, hlink⟩ := judgeView_stands howner
  have hstands : ∀ c, (frameTaken a b s).stands c = (judgeView (b.owner a s (heardState a s))).stands c := fun c =>
    stands_congr (by simp [frameTaken])
  have hstartup : (frameTaken a b s).startup = (b.owner a s (heardState a s)).startup := by simp [frameTaken]
  have hmissing : (frameTaken a b s).missing = (b.owner a s (heardState a s)).missing :=
    missing_congr (by rw [frameTaken_roster]) (by rw [frameTaken_roster]) (by rw [hstartup])
  rw [hstands, hstands, discord_congr (by rw [frameTaken_roster]) hstartup, frameTaken_roster, hmissing]
  exact ⟨hdiscord, hlink⟩

/-- Who is missing (R19). -/
theorem mem_missing {m : Nat} : m ∈ s.missing ↔ ∃ e ∈ s.roster.entries, e.address = m ∧
    ((1 ≤ m ∧ m ≤ s.cfg.shared.size) ∨ (m = 0 ∧ s.cfg.shared.gatewayRequired = true)) ∧
      (e.state = .lost ∨ s.roster.joinComplete = true ∧ e.state = .vacant) := by
  have hentry : ∀ e : RosterEntry, s.entryMissing e = true ↔
      ((1 ≤ e.address ∧ e.address ≤ s.cfg.shared.size) ∨ (e.address = 0 ∧ s.cfg.shared.gatewayRequired = true)) ∧
        (e.state = .lost ∨ s.roster.joinComplete = true ∧ e.state = .vacant) := fun e => by
    rw [show s.cfg.shared.size = s.size from rfl]
    simp [State.entryMissing, State.isExpected, State.isMember]
  unfold State.missing
  simp only [List.mem_map, List.mem_filter, hentry]
  constructor
  · rintro ⟨e, ⟨he, hmissing⟩, rfl⟩
    exact ⟨e, he, rfl, hmissing⟩
  · rintro ⟨e, he, rfl, hmissing⟩
    exact ⟨e, ⟨he, hmissing⟩, rfl⟩

/-- A heard entry that disagrees with the string digest (R24). -/
theorem disagrees_iff (e : RosterEntry) (d : Digest) : e.disagrees d = true ↔
    (∃ t, e.summary = some t ∧ t.digest ≠ d) ∨ e.summary = none ∧ ∃ x, e.announced = some x ∧ x.digest ≠ d := by
  unfold RosterEntry.disagrees RosterEntry.carriedDigest
  cases e.summary with
  | none => cases e.announced <;> simp
  | some t => simp

/-- The DISCORD condition (R24). -/
theorem discord_iff : s.discord = true ↔ s.cfg.shared.size < s.own ∨ ∃ e ∈ s.roster.entries, e.address ≠ s.own ∧
    (e.state = .present ∨ e.state = .stale) ∧
      (((∃ t, e.summary = some t ∧ t.digest ≠ s.startup.digest) ∨
        e.summary = none ∧ ∃ x, e.announced = some x ∧ x.digest ≠ s.startup.digest) ∨ s.cfg.shared.size < e.address) := by
  rw [show s.cfg.shared.size = s.size from rfl]
  simp [State.discord, State.isStranger, State.entryDiscord, RosterEntry.heard, disagrees_iff, and_assoc]

/-- A return is heard: the sender's records are purged, its RECALL is pending, and queued when there is room (R9, R42). -/
theorem frameTaken_of_returns (hshaped : RosterShaped s) {a : Nat} {b : Body} (h : s.returns a) :
    ((frameTaken a b s).entry a).recallPending = true ∧ (HasRoom s → Queued (frameTaken a b s) (.recall a)) ∧
      (∀ r ∈ (heardState a s).holds.remote, r.origin ≠ a) ∧
      ∀ r ∈ (frameTaken a b s).holds.remote, r.origin = a → b = .hold r.serial r.cause r.index r.detail := by
  have h' := h
  obtain ⟨-, -, h24, -, hpending⟩ := h'
  obtain ⟨-, -, -, -, -, -, hmarked, -⟩ := heardState_entry_self hshaped h24
  obtain ⟨hremote, hqueued⟩ := heardState_of_returns (k := 1) hshaped h
  have hpurged : ∀ r ∈ (heardState a s).holds.remote, r.origin ≠ a := by
    rw [hremote]
    intro r hr
    exact of_decide_eq_true (List.mem_filter.1 hr).2
  refine ⟨?_, fun hroom => frameTaken_queued hroom fun hheard => ?_, hpurged, fun r hr horigin => ?_⟩
  · rw [frameTaken_entry]
    exact Body.owner_pendingKept a hpending b _ a (hmarked h)
  · exact (Body.owner_takes a s b _).fills.queued hheard (hqueued hroom.roomy)
  · rw [frameTaken_remote] at hr
    exact (Body.mem_owner_remote hr).resolve_left fun hold => hpurged r hold horigin

/-- A frame that is not valid only ends on the line; one taken in START makes its sender the last sender (R7, R178). -/
theorem exec_frame_untaken {a : Nat} {b : Body}
    (h : frameValid a b = false ∨ s.ballot.mode = .start ∧ ¬(s.addressed = true ∧ a = s.own)) :
    ∃ v, exec (b.command a) s = .next (endEvent s v) ∧ v.roster = s.roster ∧ v.holds = s.holds ∧ v.ballot = s.ballot ∧
      v.switch = s.switch ∧ v.link.queue = s.link.queue ∧
      v.link.lastSender = if frameValid a b = true then a else s.link.lastSender := by
  refine ⟨_, exec_frame a b s, ?_⟩
  cases hvalid : frameValid a b with
  | false =>
    rw [arrive_of_invalid]
    simp
  | true =>
    obtain ⟨hmode, hother⟩ := h.resolve_left (by simp [hvalid])
    rw [arrive_in_start a _ s hother hmode]
    simp [setLastSender]

end

/-- Settles O15, by hearing, the owner and the judgement. -/
theorem everyFrameIsHeard : Obligations.EveryFrameIsHeard := by
  refine ⟨fun s => ⟨fun m => mem_missing, discord_iff⟩, fun a b s => ⟨fun hvalid htakes hshaped => ?_, fun huntaken => ?_⟩⟩
  · have ha := sender_le_of_frameValid hvalid
    obtain ⟨hpresent, hage, -⟩ := heardState_entry_self hshaped ha
    have howner := Body.owner_takes a s b (heardState a s)
    obtain ⟨hmedium, hlast, -⟩ := howner.line
    obtain ⟨hdiscord, hlink⟩ := frameTaken_stands (a := a) (b := b) htakes.1
    refine ⟨_, exec_frameTaken hvalid htakes, ?_, ?_, ?_, fun hsending => ?_, fun p hp => ?_, hdiscord, hlink,
      fun hstate h1 hown hpending => frameTaken_of_returns hshaped ⟨hstate, h1, ha, hown, hpending⟩⟩
    · rw [frameTaken_entry, howner.entry_state, hpresent]
    · rw [frameTaken_entry, howner.entry_age, hage]
    · simpa [frameTaken] using hlast
    · simpa [frameTaken] using hmedium.trans (heardState_medium a hsending)
    · subst hp
      simp [frameTaken, Body.owner]
  · obtain ⟨v, hexec, hroster, hholds, hballot, hswitch, hqueue, hlast⟩ := exec_frame_untaken huntaken
    refine ⟨_, hexec, by simp [hroster], by simp [hholds], by simp [hballot], by simp [hswitch], by simp [hqueue], ?_⟩
    rw [endEvent_link_lastSender, hlast]

section
variable {s : State} {p n : Nat}

theorem reconcile_of_equal (pending : Bool) (h : n = (s.holds.remote.filter fun r => decide (r.origin = p)).length) :
    reconcile p n pending s = s := if_pos h

theorem reconcile_of_none (pending : Bool) (h : (s.holds.remote.filter fun r => decide (r.origin = p)).length ≠ 0) :
    reconcile p 0 pending s = purge p s := by
  unfold reconcile
  dsimp only
  rw [if_neg (Ne.symm h), if_pos rfl]

theorem reconcile_of_differing (pending : Bool) (hn : n ≠ 0) (h : n ≠ (s.holds.remote.filter fun r => decide (r.origin = p)).length) :
    reconcile p n pending s = if pending then s else requestRecall p s := by
  unfold reconcile
  dsimp only
  rw [if_neg h, if_neg hn]

end

/-- Settles O17, by its cases. -/
theorem tallyReconciliation : Obligations.TallyReconciliation := by
  intro p n pending s
  refine ⟨purge_remote p s, reconcile_of_equal pending, ?_, fun hn hc hp => ?_, fun hn hc hp => ?_,
    fun hn hc h1 h24 hown hshaped hpending => ?_⟩
  · rintro rfl hc
    exact reconcile_of_none pending hc
  · rw [reconcile_of_differing pending hn hc, if_pos hp]
  · rw [reconcile_of_differing pending hn hc, requestRecall_of_not_asked (by rintro ⟨h1, -, hown, -⟩; omega), ite_self]
  · have hasked : 1 ≤ p ∧ p ≤ 24 ∧ p ≠ s.own ∧ (s.entry p).recallPending = false := ⟨h1, h24, hown, hpending⟩
    rw [reconcile_of_differing false hn hc, if_neg Bool.false_ne_true]
    refine ⟨by rw [requestRecall_entry_self hshaped hasked], fun r hr => ?_, fun hroom => ?_⟩
    · rw [requestRecall_remote_of_asked hasked] at hr
      exact of_decide_eq_true (List.mem_filter.1 hr).2
    · exact requestRecall_queued (k := 1) hasked hroom.roomy

end Sys2Proof.Machine

/-! Keeping the ballot or leaving it: what hearing, the roster's holds, an offer and an owner make of the ballot record and of the
switch (R46, R51, R52, R72). -/

namespace Sys2Proof.Machine

section
variable {s t u : State} {k l : Nat}

/-! ### Staying and leaving -/

/-- From s to t the switch stayed, and the ballot record but for the highest ballot seen and the settle timer. -/
structure BallotStays (s t : State) : Prop where
  record : t.ballot = { s.ballot with highest := t.ballot.highest, settle := t.ballot.settle }
  switch : t.switch = s.switch

/-- From s to t, with at most k frames queued, the station left its ballot and is OPEN (R52). -/
structure BallotLeft (k : Nat) (s t : State) : Prop where
  party : s.isParty
  record : t.ballot = { leftRecord s.ballot with mode := .opened, highest := t.ballot.highest, settle := t.ballot.settle }
  command : t.switch.command = .opened
  withdraw : ∀ b, s.ballot.mode = .pledged → s.ballot.role = .proposer → s.ballot.current = some b → Roomy k s →
    Queued t (.withdraw b)

/-- From s to t at most k frames have been queued, and the station kept its ballot or left it. -/
structure Yields (k : Nat) (s t : State) : Prop where
  fills : Fills k s t
  outcome : BallotStays s t ∨ BallotLeft k s t

theorem BallotStays.refl (s : State) : BallotStays s s := ⟨rfl, rfl⟩

theorem BallotStays.trans (h : BallotStays s t) (h' : BallotStays t u) : BallotStays s u :=
  ⟨by rw [h'.record, h.record], h'.switch.trans h.switch⟩

theorem BallotStays.of_ballot (hballot : t.ballot = s.ballot) (hswitch : t.switch = s.switch) : BallotStays s t :=
  ⟨by rw [hballot], hswitch⟩

/-- The fields of the record one by one. -/
theorem BallotStays.of_fields (hmode : t.ballot.mode = s.ballot.mode) (hcurrent : t.ballot.current = s.ballot.current)
    (hrole : t.ballot.role = s.ballot.role) (hvotes : t.ballot.votes = s.ballot.votes)
    (hclaimed : t.ballot.commitClaimed = s.ballot.commitClaimed) (hproposal : t.ballot.proposal = s.ballot.proposal)
    (hpledge : t.ballot.pledge = s.ballot.pledge) (hconfirm : t.ballot.confirm = s.ballot.confirm) (hswitch : t.switch = s.switch) :
    BallotStays s t := by
  refine ⟨?_, hswitch⟩
  dsimp only
  rw [← hmode, ← hcurrent, ← hrole, ← hvotes, ← hclaimed, ← hproposal, ← hpledge, ← hconfirm]

theorem leftRecord_with (b : BallotUnit) (h : Ballot) (x : Timer) :
    leftRecord { b with highest := h, settle := x } = { leftRecord b with highest := h, settle := x } := by
  unfold leftRecord
  dsimp only
  split <;> rfl

section
variable (h : BallotStays s t)
include h

theorem BallotStays.mode : t.ballot.mode = s.ballot.mode := by rw [h.record]
theorem BallotStays.current : t.ballot.current = s.ballot.current := by rw [h.record]
theorem BallotStays.role : t.ballot.role = s.ballot.role := by rw [h.record]
theorem BallotStays.votes : t.ballot.votes = s.ballot.votes := by rw [h.record]
theorem BallotStays.commitClaimed : t.ballot.commitClaimed = s.ballot.commitClaimed := by rw [h.record]
theorem BallotStays.proposal : t.ballot.proposal = s.ballot.proposal := by rw [h.record]
theorem BallotStays.pledge : t.ballot.pledge = s.ballot.pledge := by rw [h.record]
theorem BallotStays.confirm : t.ballot.confirm = s.ballot.confirm := by rw [h.record]

theorem BallotStays.isParty_iff : t.isParty ↔ s.isParty := by
  unfold State.isParty
  rw [h.mode]

theorem BallotStays.isPledged (r : Role) (b : Ballot) : t.isPledged r b = s.isPledged r b := by
  unfold State.isPledged
  rw [h.mode, h.role, h.current]

end

section
variable (h : BallotLeft k s t)
include h

theorem BallotLeft.mode : t.ballot.mode = .opened := by rw [h.record]
theorem BallotLeft.current : t.ballot.current = none := by rw [h.record]; exact leftRecord_current _
theorem BallotLeft.role : t.ballot.role = .none := by rw [h.record]; exact leftRecord_role _

theorem BallotLeft.not_party : ¬ t.isParty := by
  unfold State.isParty
  rw [h.mode]
  decide

end

theorem Yields.refl (s : State) : Yields 0 s s := ⟨.refl s, .inl (.refl s)⟩

theorem Yields.of_stays (hfills : Fills k s t) (hstays : BallotStays s t) : Yields k s t := ⟨hfills, .inl hstays⟩

theorem Yields.of_ballot (hfills : Fills k s t) (hballot : t.ballot = s.ballot) (hswitch : t.switch = s.switch) : Yields k s t :=
  .of_stays hfills (.of_ballot hballot hswitch)

theorem BallotStays.then_left (h : BallotStays s t) (hfills : Fills k s t) (h' : BallotLeft l t u) : BallotLeft (k + l) s u where
  party := h.isParty_iff.1 h'.party
  record := by
    rw [h'.record, h.record, leftRecord_with]
  command := h'.command
  withdraw := fun b hmode hrole hcurrent hroom =>
    h'.withdraw b (h.mode.trans hmode) (h.role.trans hrole) (h.current.trans hcurrent) (hfills.roomy (by rwa [Nat.add_comm]))

theorem BallotLeft.then_stays (h : BallotLeft k s t) (hfills : Fills k s t) (hfills' : Fills l t u) (h' : BallotStays t u) :
    BallotLeft (k + l) s u where
  party := h.party
  record := by rw [h'.record, h.record]
  command := by rw [h'.switch, h.command]
  withdraw := fun b hmode hrole hcurrent hroom =>
    hfills'.queued (hfills.roomy (by rwa [Nat.add_comm])) (h.withdraw b hmode hrole hcurrent (hroom.mono (Nat.le_add_right k l)))

theorem Yields.trans (h : Yields k s t) (h' : Yields l t u) : Yields (k + l) s u := by
  refine ⟨h.fills.trans h'.fills, ?_⟩
  obtain hstays | hleft := h.outcome <;> obtain hstays' | hleft' := h'.outcome
  · exact .inl (hstays.trans hstays')
  · exact .inr (hstays.then_left h.fills hleft')
  · exact .inr (hleft.then_stays h.fills h'.fills hstays')
  · exact absurd hleft'.party hleft.not_party

theorem Yields.then_none (h : Yields k s t) (h' : Yields 0 t u) : Yields k s u := h.trans h'

theorem Yields.after_none (h : Yields 0 s t) (h' : Yields k t u) : Yields k s u := by
  have hboth := h.trans h'
  rwa [Nat.zero_add] at hboth

theorem BallotLeft.mono (h : BallotLeft k s t) (hkl : k ≤ l) : BallotLeft l s t :=
  { h with withdraw := fun b hmode hrole hcurrent hroom => h.withdraw b hmode hrole hcurrent (hroom.mono hkl) }

theorem Yields.mono (h : Yields k s t) (hkl : k ≤ l) : Yields l s t :=
  ⟨h.fills.mono hkl, h.outcome.imp_right fun hleft => hleft.mono hkl⟩

/-- A station with no ballot keeps its record. -/
theorem Yields.stays (h : Yields k s t) (hs : ¬ s.isParty) : BallotStays s t := h.outcome.resolve_right fun hleft => hs hleft.party

theorem Yields.not_party (h : Yields k s t) (hs : ¬ s.isParty) : ¬ t.isParty := by
  rw [(h.stays hs).isParty_iff]
  exact hs

/-- A station that is party to a ballot has a current one (R49). -/
def State.hasCurrent (s : State) : Prop := s.isParty → s.ballot.current.isSome = true

theorem BallotRecordLegal.hasCurrent (h : BallotRecordLegal s) : s.hasCurrent := h.1.2

theorem Yields.hasCurrent (h : Yields k s t) (hs : s.hasCurrent) : t.hasCurrent := by
  obtain hstays | hleft := h.outcome
  · intro ht
    rw [hstays.current]
    exact hs (hstays.isParty_iff.1 ht)
  · exact fun ht => absurd ht hleft.not_party

theorem Yields.left (h : Yields k s t) (hs : s.isParty) (ht : ¬ t.isParty) : BallotLeft k s t :=
  h.outcome.resolve_left fun hstays => ht (hstays.isParty_iff.2 hs)

/-! ### Leaving and offering -/

theorem leave_yields (s : State) : Yields 0 s (leave s) := by
  refine ⟨leave_fills s, ?_⟩
  by_cases hp : s.isParty
  · refine .inr ⟨hp, ?_, leave_command_of_party hp, fun b hmode hrole hcurrent hroom => leave_queued_withdraw hroom hmode hrole hcurrent⟩
    rw [leave_ballot_highest, ← leftRecord_highest]
    exact leave_ballot_of_party hp
  · rw [leave_of_not_party hp]
    exact .inl (.refl s)

theorem leave_not_party (s : State) : ¬ (leave s).isParty := by
  rintro (h | h)
  · exact leave_not_pledged s h
  · exact leave_not_closed s h

theorem changeBallot_highest_yields (b : Ballot) (s : State) : Yields 0 s (s.changeBallot { s.ballot with highest := b }) :=
  .of_stays (.of_blocks (by simp) (by simp) (by simp) (by simp))
    (.of_fields (by simp) (by simp) (by simp) (by simp) (by simp) (by simp) (by simp) (by simp) (by simp))

theorem offer_yields (b : Ballot) (s : State) : Yields 0 s (offer b s) := by
  unfold offer
  split
  · dsimp only
    split
    · exact (changeBallot_highest_yields b s).then_none (leave_yields _)
    · exact changeBallot_highest_yields b s
  · exact .refl s

/-- A superseding ballot offered leaves no station party to a ballot (R51). -/
theorem offer_not_party {b : Ballot} (hs : s.hasCurrent) (hreplace : s.wouldReplace b = true) : ¬ (offer b s).isParty := by
  cases hcurrent : s.ballot.current with
  | none =>
    have hidle : ¬ s.isParty := fun hp => by simpa [hcurrent] using hs hp
    exact (offer_yields b s).not_party hidle
  | some x =>
    rw [offer_of_current (by rw [hcurrent]; rfl) hreplace]
    exact leave_not_party _

/-! ### Raising, lifting, judging -/

theorem appendNotice_stays (kind : NoticeKind) (n : Byte) (r : Bool) (s : State) : BallotStays s (appendNotice kind n r s) :=
  .of_ballot (appendNotice_ballot ..) (appendNotice_switch ..)

theorem addOwn_stays (c : Cause) (i : Option Nat) (d : Option Detail) (s : State) : BallotStays s (addOwn c i d s) :=
  .of_fields (by simp [addOwn]) (by simp) (by simp [addOwn]) (by simp [addOwn]) (by simp [addOwn]) (by simp [addOwn]) (by simp [addOwn])
    (by simp [addOwn]) (by simp)

theorem appendNotice_yields (kind : NoticeKind) (n : Byte) (r : Bool) (s : State) : Yields 0 s (appendNotice kind n r s) :=
  .of_stays (.of_blocks (by simp) (by simp) (by simp) (by simp)) (appendNotice_stays kind n r s)

theorem raiseHold_yields (c : Cause) (i : Option Nat) (d : Option Detail) (s : State) : Yields 0 s (raiseHold c i d s) := by
  obtain ⟨-, h⟩ | ⟨y, -, -, h⟩ | ⟨y, -, -, h | h⟩ := raiseHold_cases c i d s <;> rw [h]
  · have hadded : Yields 0 s (addOwn c i d s) :=
      .of_stays (.of_blocks (by simp) (by simp) (by simp [addOwn]) (by simp [addOwn])) (addOwn_stays c i d s)
    exact (hadded.then_none (appendNotice_yields _ _ _ _)).then_none (leave_yields _)
  · exact .refl s
  · exact .of_ballot (.of_blocks rfl rfl rfl rfl) rfl rfl
  · have hchanged : Yields 0 s (changeDetail c i d s) := .of_ballot (.of_blocks rfl rfl rfl rfl) rfl rfl
    exact hchanged.then_none (appendNotice_yields _ _ _ _)

/-- A raise of a hold that stands is not reported (R34). -/
theorem raiseHold_stays {c : Cause} {i : Option Nat} (d : Option Detail) (h : s.ownHold c i ≠ none) :
    BallotStays s (raiseHold c i d s) := by
  obtain ⟨hnew, -⟩ | ⟨y, -, -, h⟩ | ⟨y, -, -, h | h⟩ := raiseHold_cases c i d s
  · exact absurd hnew h
  · rw [h]; exact .refl s
  · rw [h]; exact .of_ballot rfl rfl
  · rw [h]
    exact BallotStays.trans (t := changeDetail c i d s) (.of_ballot rfl rfl) (appendNotice_stays _ _ _ _)

theorem liftHold_stays (c : Cause) (i : Option Nat) (s : State) : BallotStays s (liftHold c i s) :=
  .of_fields (by simp) (by simp) (by simp) (by simp) (by simp) (by simp) (by simp) (by simp) (by simp)

theorem liftHold_yields (c : Cause) (i : Option Nat) (s : State) : Yields 0 s (liftHold c i s) :=
  .of_stays (liftHold_fills c i s) (liftHold_stays c i s)

theorem judgeLink_yields (s : State) : Yields 0 s (judgeLink s) := by
  unfold judgeLink
  split
  · split
    · exact liftHold_yields _ _ s
    · exact raiseHold_yields _ _ _ s
  · exact .refl s

theorem judgeDiscord_yields (s : State) : Yields 0 s (judgeDiscord s) := by
  unfold judgeDiscord
  split
  · exact .refl s
  · split
    · exact raiseHold_yields _ _ _ s
    · exact liftHold_yields _ _ s

theorem judgeView_yields (s : State) : Yields 0 s (judgeView s) := (judgeLink_yields s).then_none (judgeDiscord_yields _)

theorem endEvent_stays (before s : State) : BallotStays s (endEvent before s) :=
  .of_fields (by simp) (by simp) (by simp) (by simp) (by simp) (by simp) (by simp) (by simp) (by simp)

theorem endEvent_yields (before s : State) : Yields 0 s (endEvent before s) :=
  .of_stays (endEvent_fills before s) (endEvent_stays before s)

/-- The roster's judgement raises a hold that did not stand (R23, R24). -/
def State.viewRaises (s : State) : Prop :=
  (s.roster.joinComplete = true ∧ s.missing ≠ [] ∧ s.stands .link = false) ∨
    (s.ballot.mode ≠ .start ∧ s.discord = true ∧ s.stands .discord = false)

theorem judgeLink_stands_discord (s : State) : (judgeLink s).stands .discord = s.stands .discord := by
  unfold judgeLink
  split
  · split
    · exact liftHold_stands_of_ne _ _ (by decide)
    · exact raiseHold_stands_of_ne _ _ _ (by decide)
  · rfl

theorem judgeLink_discord (s : State) : (judgeLink s).discord = s.discord :=
  discord_congr (by rw [judgeLink_roster]) (judgeLink_startup s)

theorem judgeLink_stays (h : ¬(s.roster.joinComplete = true ∧ s.missing ≠ [] ∧ s.stands .link = false)) :
    BallotStays s (judgeLink s) := by
  unfold judgeLink
  split
  · next hjoined =>
    split
    · exact liftHold_stays _ _ s
    · next hmissing =>
      refine raiseHold_stays _ fun hnew => h ⟨hjoined, by simpa using hmissing, ?_⟩
      exact stands_eq_false_iff.2 hnew
  · exact .refl s

theorem judgeDiscord_stays (h : ¬(s.ballot.mode ≠ .start ∧ s.discord = true ∧ s.stands .discord = false)) :
    BallotStays s (judgeDiscord s) := by
  unfold judgeDiscord
  split
  · exact .refl s
  · next hmode =>
    split
    · next hdiscord => exact raiseHold_stays _ fun hnew => h ⟨hmode, hdiscord, stands_eq_false_iff.2 hnew⟩
    · exact liftHold_stays _ _ s

/-- A judgement that raises nothing new leaves the ballot. -/
theorem judgeView_stays (h : ¬ s.viewRaises) : BallotStays s (judgeView s) := by
  have hlink := judgeLink_stays (s := s) fun hl => h (.inl hl)
  refine hlink.trans (judgeDiscord_stays ?_)
  rw [hlink.mode, judgeLink_discord, judgeLink_stands_discord]
  exact fun hd => h (.inr hd)

theorem ClearView.not_viewRaises (h : ClearView s) : ¬ s.viewRaises := by
  obtain ⟨hmissing, hdiscord⟩ := h
  rintro (⟨-, hm, -⟩ | ⟨-, hd, -⟩)
  · exact hm hmissing
  · cases hd.symm.trans hdiscord

theorem judgeLink_not_party_of_raise (hjoined : s.roster.joinComplete = true) (hmissing : s.missing ≠ [])
    (hstands : s.stands .link = false) : ¬ (judgeLink s).isParty := by
  obtain ⟨hp, hc⟩ := raiseHold_new_open (s := s) (c := .link) (i := none) none (stands_eq_false_iff.1 hstands)
  unfold judgeLink
  rw [if_pos hjoined, if_neg (by simpa using hmissing)]
  exact fun h => h.elim hp hc

theorem judgeDiscord_not_party_of_raise (hmode : s.ballot.mode ≠ .start) (hdiscord : s.discord = true)
    (hstands : s.stands .discord = false) : ¬ (judgeDiscord s).isParty := by
  obtain ⟨hp, hc⟩ := raiseHold_new_open (s := s) (c := .discord) (i := none) none (stands_eq_false_iff.1 hstands)
  unfold judgeDiscord
  rw [if_neg hmode, if_pos hdiscord]
  exact fun h => h.elim hp hc

theorem judgeLink_mode_eq_start (s : State) : (judgeLink s).ballot.mode = .start ↔ s.ballot.mode = .start := by
  unfold judgeLink
  split
  · split
    · rw [liftHold_ballot_mode]
    · exact raiseHold_mode_eq_start _ _ _ s
  · rfl

/-- A judgement that raises a new hold leaves no station party to a ballot (R46). -/
theorem judgeView_not_party (h : s.viewRaises) : ¬ (judgeView s).isParty := by
  rcases h with ⟨hjoined, hmissing, hstands⟩ | ⟨hmode, hdiscord, hstands⟩
  · exact (judgeDiscord_yields _).not_party (judgeLink_not_party_of_raise hjoined hmissing hstands)
  · refine judgeDiscord_not_party_of_raise ?_ ?_ ?_
    · rwa [Ne, judgeLink_mode_eq_start]
    · rwa [judgeLink_discord]
    · rwa [judgeLink_stands_discord]

/-- The mode after the roster's judgement depends on the mode and on whether it raises something new. -/
theorem judgeView_mode_congr (hmode : t.ballot.mode = s.ballot.mode) (hraises : t.viewRaises ↔ s.viewRaises) :
    (judgeView t).ballot.mode = (judgeView s).ballot.mode := by
  by_cases hr : s.viewRaises
  · by_cases hp : s.isParty
    · have hp' : t.isParty := by unfold State.isParty; rw [hmode]; exact hp
      rw [((judgeView_yields t).left hp' (judgeView_not_party (hraises.2 hr))).mode,
        ((judgeView_yields s).left hp (judgeView_not_party hr)).mode]
    · have hp' : ¬ t.isParty := by unfold State.isParty; rw [hmode]; exact hp
      rw [((judgeView_yields t).stays hp').mode, ((judgeView_yields s).stays hp).mode, hmode]
  · rw [(judgeView_stays fun h => hr (hraises.1 h)).mode, (judgeView_stays hr).mode, hmode]

theorem viewRaises_congr (hroster : t.roster = s.roster) (hstartup : t.startup = s.startup) (hmode : t.ballot.mode = s.ballot.mode)
    (hown : t.holds.own = s.holds.own) : t.viewRaises ↔ s.viewRaises := by
  have hmissing : t.missing = s.missing := missing_congr (by rw [hroster]) (by rw [hroster]) (by rw [hstartup])
  unfold State.viewRaises
  rw [stands_congr hown, stands_congr hown, discord_congr (by rw [hroster]) hstartup, hmode, hroster, hmissing]

/-! ### Hearing and the owners -/

theorem updateEntry_yields (a : Nat) (f : RosterEntry → RosterEntry) (s : State) : Yields 0 s (s.updateEntry a f) :=
  .of_stays (updateEntry_fills a f s)
    (.of_fields (by simp) (by simp) (by simp) (by simp) (by simp) (by simp) (by simp) (by simp) (by simp))

theorem claim_yields (x : Claim) (s : State) : Yields 1 s (claim x s) := .of_ballot (claim_fills x s) (claim_ballot x s) (claim_switch x s)

theorem changeHolds_yields (x : HoldUnit) (s : State) : Yields 0 s (s.changeHolds x) :=
  .of_stays (.of_blocks (by simp) (by simp) (by simp) (by simp))
    (.of_fields (by simp) (by simp) (by simp) (by simp) (by simp) (by simp) (by simp) (by simp) (by simp))

theorem requestRecall_yields (p : Nat) (s : State) : Yields 1 s (requestRecall p s) :=
  .of_stays (requestRecall_fills p s)
    (.of_fields (by simp) (by simp) (by simp) (by simp) (by simp) (by simp) (by simp) (by simp) (by simp))

theorem hear_stays (a : Nat) (s : State) : BallotStays s (hear a s) :=
  .of_fields (by simp) (by simp) (by simp) (by simp) (by simp) (by simp) (by simp) (by simp) (by simp)

theorem lineHeard_stays (a : Nat) (s : State) : BallotStays s (lineHeard a s) :=
  .of_ballot (by simp [lineHeard]) (by simp [lineHeard])

theorem heardState_yields (a : Nat) (s : State) : Yields 1 s (heardState a s) := by
  have hline : Yields 0 s (lineHeard a s) := .of_stays (lineHeard_fills a s) (lineHeard_stays a s)
  exact (hline.after_none (.of_stays (hear_fills a _) (hear_stays a _))).then_none (judgeDiscord_yields _)

theorem heardState_gateway_yields (s : State) : Yields 0 s (heardState 0 s) := by
  have hline : Yields 0 s (lineHeard 0 s) := .of_stays (lineHeard_fills 0 s) (lineHeard_stays 0 s)
  exact (hline.then_none (.of_stays (hear_gateway_fills _) (hear_stays 0 _))).then_none (judgeDiscord_yields _)

/-- Hearing a sender that brings no DISCORD leaves the ballot. -/
theorem heardState_stays (a : Nat) (h : (heardState a s).discord = false) : BallotStays s (heardState a s) := by
  have hdiscord : (hear a (lineHeard a s)).discord = false := by
    rw [← h, heardState_eq]
    exact (discord_congr (by rw [judgeDiscord_roster]) (judgeDiscord_startup _)).symm
  refine ((lineHeard_stays a s).trans (hear_stays a _)).trans (judgeDiscord_stays ?_)
  rw [hdiscord]
  rintro ⟨-, h, -⟩
  cases h

theorem reconcile_yields (p n : Nat) (pending : Bool) (s : State) : Yields 1 s (reconcile p n pending s) :=
  .of_stays (reconcile_fills p n pending s)
    (.of_fields (by simp) (by simp) (by simp) (by simp) (by simp) (by simp) (by simp) (by simp) (by simp))

theorem confirmOffer_yields (a : Nat) (m : Mode) (b : Ballot) (s : State) : Yields 0 s (confirmOffer a m b s) := by
  unfold confirmOffer
  split
  · split
    · exact updateEntry_yields a _ s
    · exact .refl s
    · exact leave_yields s
  · exact .refl s

theorem tallyReconciled_yields (a : Nat) (x : Summary) (wasPending : Bool) (s : State) :
    Yields 1 s (tallyReconciled a x wasPending s) :=
  (updateEntry_yields a _ s).after_none (reconcile_yields _ _ _ _)

theorem takeTally_yields (a : Nat) (x : Summary) (wasPending : Bool) (s : State) : Yields 1 s (takeTally a x wasPending s) := by
  have hoffered := (tallyReconciled_yields a x wasPending s).then_none (offer_yields x.ballot _)
  rw [takeTally_eq]
  split
  · exact hoffered.then_none (confirmOffer_yields _ _ _ _)
  · exact hoffered

theorem announceHeard_yields (a : Nat) (d : AnnounceData) (s : State) : Yields 1 s (announceHeard a d s) :=
  ((updateEntry_yields a _ s).then_none (changeHolds_yields _ _)).after_none (claim_yields .tally _)

theorem takeAnnounce_yields (a : Nat) (d : AnnounceData) (s : State) : Yields 1 s (takeAnnounce a d s) := by
  rw [takeAnnounce_eq]
  split
  · exact (announceHeard_yields a d s).then_none (leave_yields _)
  · exact announceHeard_yields a d s

theorem storeRemote_yields (r : RemoteHold) (s : State) : Yields 1 s (storeRemote r s) := by
  unfold storeRemote
  split
  · refine Yields.mono (k := 0) ?_ (Nat.zero_le 1)
    exact .of_ballot (.of_blocks rfl rfl rfl rfl) rfl rfl
  · split
    · exact (changeHolds_yields _ s).mono (Nat.zero_le 1)
    · exact requestRecall_yields _ s

theorem takeHold_yields (r : RemoteHold) (s : State) : Yields 1 s (takeHold r s) := (storeRemote_yields r s).then_none (leave_yields _)

theorem takeHold_not_party (r : RemoteHold) (s : State) : ¬ (takeHold r s).isParty := leave_not_party _

theorem takeLift_yields (o : Nat) (n : Byte) (s : State) : Yields 0 s (takeLift o n s) := changeHolds_yields _ s

theorem takeDemur_yields (b : Ballot) (s : State) : Yields 0 s (takeDemur b s) := by
  unfold takeDemur
  dsimp only
  split
  · exact (offer_yields b s).then_none (leave_yields _)
  · exact offer_yields b s

theorem takeWithdraw_yields (b : Ballot) (s : State) : Yields 0 s (takeWithdraw b s) := by
  unfold takeWithdraw
  dsimp only
  split
  · exact (offer_yields b s).then_none (leave_yields _)
  · exact offer_yields b s

/-- After the owner only the roster's judgement can make a station leave its ballot. -/
theorem frameTaken_yields (a : Nat) (b : Body) (s : State) : Yields 0 (b.owner a s (heardState a s)) (frameTaken a b s) :=
  (judgeView_yields _).then_none (endEvent_yields s _)

end

end Sys2Proof.Machine

/-! ANNOUNCE, HOLD, LIFT and RECALL taken (R12, R38 to R41, R45). -/

namespace Sys2Proof.Machine

section
variable {s t u : State}

/-! ### The state heard -/

theorem heardState_rosterShaped {a : Nat} (h : RosterShaped s) : RosterShaped (heardState a s) := by
  have hline : RosterShaped (lineHeard a s) := by
    obtain ⟨hroster, -⟩ := lineHeard_frame a s
    unfold RosterShaped
    rw [hroster]
    exact h
  have hpresent : RosterShaped (presentState a (lineHeard a s)) := presentState_rosterShaped hline
  have hheard : RosterShaped (hear a (lineHeard a s)) := by
    by_cases hstranger : ((lineHeard a s).entry a).state ≠ .vacant ∧ ((lineHeard a s).entry a).state ≠ .lost ∨ a = 0
    · rwa [hear_of_stranger hstranger]
    · rw [hear_of_return (by tauto) (by tauto)]
      exact (requestRecall_takes _ _).rosterShaped hpresent
  unfold RosterShaped
  rw [heardState_eq, judgeDiscord_roster]
  exact hheard

theorem heardState_startup_eq (a : Nat) (s : State) : (heardState a s).startup = s.startup := by simp [heardState]

theorem heardState_own_eq (a : Nat) (s : State) : (heardState a s).own = s.own :=
  congrArg StartSequence.address (heardState_startup_eq a s)

theorem isExpected_congr (h : t.startup = s.startup) (a : Nat) : t.isExpected a = s.isExpected a := by
  have hmember : t.isMember a = s.isMember a := isMember_congr (by rw [h]) a
  have hcfg : t.cfg = s.cfg := by unfold State.cfg; rw [h]
  unfold State.isExpected
  rw [hmember, hcfg]

/-- An owner of a kind that any sender may use has a valid frame from an address of the roster (R179). -/
theorem kindAllowed_of_le {a k : Nat} (ha : a ≤ 24) (h1 : 1 ≤ k) (h5 : k ≤ 5) : kindAllowed a k = true := by
  unfold kindAllowed
  split
  · simp [h1, h5]
  · simp [ha, h1, show k ≤ 10 by omega]

/-! ### ANNOUNCE -/

theorem announceHeard_roster (a : Nat) (d : AnnounceData) (s : State) : (announceHeard a d s).roster = (dataTaken a d s).roster := by
  unfold announceHeard
  rw [claim_roster, purge_roster]

theorem takeAnnounce_roster_eq (a : Nat) (d : AnnounceData) (s : State) : (takeAnnounce a d s).roster = (dataTaken a d s).roster := by
  rw [takeAnnounce_eq]
  split
  · rw [leave_roster, announceHeard_roster]
  · rw [announceHeard_roster]

theorem takeAnnounce_entry_self (h : RosterShaped s) {a : Nat} (ha : a ≤ 24) (d : AnnounceData) :
    (takeAnnounce a d s).entry a = { s.entry a with summary := none, confirmed := false, announced := some d } :=
  (entry_congr (by rw [takeAnnounce_roster_eq]; rfl) a).trans
    (updateEntry_entry_self (f := fun e => { e with summary := none, confirmed := false, announced := some d }) h ha fun _ => rfl)

theorem takeAnnounce_startup_eq (a : Nat) (d : AnnounceData) (s : State) : (announceHeard a d s).startup = s.startup := by
  simp [announceHeard, dataTaken]

/-- An ANNOUNCE of a station that is to be there leaves no closure (R12, R71). -/
theorem takeAnnounce_not_closed {a : Nat} (d : AnnounceData) (h : s.isExpected a = true) :
    (takeAnnounce a d s).ballot.mode ≠ .closed := by
  rw [takeAnnounce_eq, isExpected_congr (takeAnnounce_startup_eq a d s), h, Bool.true_and]
  split
  · exact leave_not_closed _
  · next hmode => simpa using hmode

theorem takeAnnounce_queued (a : Nat) (d : AnnounceData) (hroom : Roomy 1 s) : Queued (takeAnnounce a d s) .tally := by
  have hbefore : Fills 0 s (purge a (dataTaken a d s)) := ((updateEntry_yields a _ s).then_none (changeHolds_yields _ _)).fills
  have hclaimed : Queued (announceHeard a d s) .tally := Roomy.claim_queued (k := 0) .tally (hbefore.roomy hroom)
  rw [takeAnnounce_eq]
  split
  · exact (leave_fills _).queued ((announceHeard_takes a d s).fills.roomy hroom) hclaimed
  · exact hclaimed

theorem takeAnnounce_highest (a : Nat) (d : AnnounceData) (s : State) : (takeAnnounce a d s).ballot.highest = s.ballot.highest := by
  have hheard : (announceHeard a d s).ballot.highest = s.ballot.highest := by simp [announceHeard, dataTaken]
  rw [takeAnnounce_eq]
  split
  · rw [leave_ballot_highest, hheard]
  · exact hheard

/-- The mode at the end of an arrival was CLOSED before if it is CLOSED. -/
theorem Yields.mode_of_closed {k : Nat} (h : Yields k s t) (ht : t.ballot.mode = .closed) : s.ballot.mode = .closed := by
  obtain hstays | hleft := h.outcome
  · rw [← hstays.mode, ht]
  · cases hleft.mode.symm.trans ht

/-! ### LIFT: the own holds do not see the remote table -/

/-- The parts of the hold unit that raising and lifting read and write are the same. -/
structure HoldsAlike (s t : State) : Prop where
  own : t.holds.own = s.holds.own
  serial : t.holds.nextSerial = s.holds.nextSerial
  notices : t.holds.notices = s.holds.notices

/-- The own holds agree, and the notices in all but their item numbers. -/
structure HoldsAgree (s t : State) : Prop where
  own : t.holds.own = s.holds.own
  serial : t.holds.nextSerial = s.holds.nextSerial
  notices : t.holds.notices.map (fun n => (n.kind, n.serial)) = s.holds.notices.map fun n => (n.kind, n.serial)

theorem HoldsAlike.agree (h : HoldsAlike s t) : HoldsAgree s t := ⟨h.own, h.serial, by rw [h.notices]⟩

/-- The serials of the LIFT notices, from the kinds and serials of the list. -/
theorem lift_serials (l : List Notice) :
    (l.filter fun n => decide (n.kind = .lift)).map (fun n => n.serial) =
      ((l.map fun n => (n.kind, n.serial)).filter fun x => decide (x.1 = .lift)).map Prod.snd := by
  rw [List.filter_map, List.map_map]
  rfl

theorem HoldsAgree.allocate (h : HoldsAgree s t) : t.holds.allocate = s.holds.allocate := by
  unfold HoldUnit.allocate HoldUnit.usedSerials
  rw [h.own, h.serial, lift_serials, lift_serials, h.notices]

/-- Two states that append, find and remove the same notices. -/
structure NoticesAlike (s t : State) : Prop where
  sending : t.link.sending = s.link.sending
  mute : t.link.mute = s.link.mute
  mode : t.ballot.mode = s.ballot.mode

theorem NoticesAlike.of_link (hlink : t.link = s.link) (hmode : t.ballot.mode = s.ballot.mode) : NoticesAlike s t :=
  ⟨by rw [hlink], by rw [hlink], hmode⟩

theorem appendNotice_agree (kind : NoticeKind) (n : Byte) (r : Bool) (h : HoldsAlike s t) (hline : NoticesAlike s t) :
    HoldsAgree (appendNotice kind n r s) (appendNotice kind n r t) := by
  obtain ⟨hsending, hmute', hmode⟩ := hline
  refine ⟨by simpa using h.own, by simpa using h.serial, ?_⟩
  by_cases hsilent : s.ballot.mode = .start ∨ s.link.mute = true
  · rw [appendNotice_of_silent _ _ _ hsilent, appendNotice_of_silent _ _ _ (by rwa [hmode, hmute']), h.notices]
  · have hmute : s.link.mute = false := by simpa using fun hm => hsilent (.inr hm)
    rw [appendNotice_notices _ _ _ (fun hm => hsilent (.inl hm)) hmute,
      appendNotice_notices _ _ _ (by rw [hmode]; exact fun hm => hsilent (.inl hm)) (hmute'.trans hmute),
      roomyNotices_congr h.notices hsending, List.map_append, List.map_append]
    rfl

theorem addOwn_alike (c : Cause) (i : Option Nat) (d : Option Detail) (h : HoldsAlike s t) (hclock : t.clock = s.clock) :
    HoldsAlike (addOwn c i d s) (addOwn c i d t) := by
  have hnow : t.now = s.now := congrArg StationClock.ms hclock
  refine ⟨?_, ?_, by simpa using h.notices⟩
  · rw [addOwn_own, addOwn_own, h.own, h.agree.allocate, hnow]
  · obtain ⟨-, hs, -⟩ := addOwn_frame c i d s
    obtain ⟨-, ht, -⟩ := addOwn_frame c i d t
    rw [hs, ht, h.agree.allocate]

theorem raiseHold_agree (c : Cause) (i : Option Nat) (d : Option Detail) (h : HoldsAlike s t) (hline : NoticesAlike s t)
    (hclock : t.clock = s.clock) : HoldsAgree (raiseHold c i d s) (raiseHold c i d t) := by
  have hsame : t.ownHold c i = s.ownHold c i := ownHold_congr h.own c i
  cases hx : s.ownHold c i with
  | none =>
    obtain ⟨-, -, hsl, hsm⟩ := addOwn_frame c i d s
    obtain ⟨-, -, htl, htm⟩ := addOwn_frame c i d t
    have hadded := appendNotice_agree .hold s.holds.allocate false (addOwn_alike c i d h hclock)
      ⟨by rw [htl, hsl, hline.sending], by rw [htl, hsl, hline.mute], by rw [htm, hsm, hline.mode]⟩
    rw [raiseHold_of_new d hx, raiseHold_of_new d (hsame.trans hx), h.agree.allocate]
    exact ⟨by simpa using hadded.own, by simpa using hadded.serial, by simpa using hadded.notices⟩
  | some x =>
    by_cases hd : x.detail = d
    · rw [← hd, raiseHold_of_same hx, raiseHold_of_same (hsame.trans hx)]
      exact h.agree
    · have hchanged : HoldsAlike (changeDetail c i d s) (changeDetail c i d t) :=
        ⟨by rw [changeDetail_own, changeDetail_own, h.own], h.serial, h.notices⟩
      rw [raiseHold_of_other hx hd, raiseHold_of_other (hsame.trans hx) hd, holdNotice_congr h.notices hline.sending]
      split
      · exact hchanged.agree
      · exact appendNotice_agree _ _ _ hchanged ⟨hline.sending, hline.mute, hline.mode⟩

theorem liftNotices_agree (n : Byte) (h : HoldsAlike s t) (hline : NoticesAlike s t) :
    HoldsAgree (liftNotices n s) (liftNotices n t) := by
  have hremoved : ∀ k, HoldsAlike (removeNotice k s) (removeNotice k t) := fun k =>
    ⟨by simpa using h.own, by simpa using h.serial, congrArg (List.filter fun n : Notice => decide (n.item ≠ k)) h.notices⟩
  unfold liftNotices
  simp only [holdNotice_congr h.notices hline.sending, onLine_congr hline.sending]
  split
  · exact appendNotice_agree _ _ _ h hline
  · split
    · exact appendNotice_agree _ _ _ h hline
    · split
      · exact appendNotice_agree _ _ _ (hremoved _) ⟨hline.sending, hline.mute, hline.mode⟩
      · exact (hremoved _).agree

theorem liftHold_agree (c : Cause) (i : Option Nat) (h : HoldsAlike s t) (hline : NoticesAlike s t) :
    HoldsAgree (liftHold c i s) (liftHold c i t) := by
  unfold liftHold
  rw [ownHold_congr h.own]
  split
  · exact h.agree
  · refine liftNotices_agree _ ⟨?_, ?_, ?_⟩ ⟨by simpa using hline.sending, by simpa using hline.mute, by simpa using hline.mode⟩
    · simp [h.own]
    · simpa using h.serial
    · simpa using h.notices

theorem judgeLink_agree (h : HoldsAlike s t) (hline : NoticesAlike s t) (hclock : t.clock = s.clock) (hroster : t.roster = s.roster)
    (hstartup : t.startup = s.startup) : HoldsAgree (judgeLink s) (judgeLink t) := by
  have hmissing : t.missing = s.missing := missing_congr (by rw [hroster]) (by rw [hroster]) (by rw [hstartup])
  unfold judgeLink
  rw [hmissing, hroster]
  split
  · split
    · exact liftHold_agree _ _ h hline
    · exact raiseHold_agree _ _ _ h hline hclock
  · exact h.agree

/-- A raise makes the own hold set from the records and the serials in use alone. -/
theorem raiseHold_own_congr (c : Cause) (i : Option Nat) (d : Option Detail) (h : HoldsAgree s t) (hclock : t.clock = s.clock) :
    (raiseHold c i d t).holds.own = (raiseHold c i d s).holds.own := by
  have hsame : t.ownHold c i = s.ownHold c i := ownHold_congr h.own c i
  have hnow : t.now = s.now := congrArg StationClock.ms hclock
  cases hx : s.ownHold c i with
  | none => rw [raiseHold_own_of_new d hx, raiseHold_own_of_new d (hsame.trans hx), h.own, h.allocate, hnow]
  | some x =>
    by_cases hd : x.detail = d
    · rw [← hd, raiseHold_of_same hx, raiseHold_of_same (hsame.trans hx), h.own]
    · rw [raiseHold_own_of_standing d hx hd, raiseHold_own_of_standing d (hsame.trans hx) hd, h.own]

theorem judgeDiscord_own_congr (h : HoldsAgree s t) (hclock : t.clock = s.clock) (hstart : t.ballot.mode = .start ↔ s.ballot.mode = .start)
    (hdiscord : t.discord = s.discord) : (judgeDiscord t).holds.own = (judgeDiscord s).holds.own := by
  unfold judgeDiscord
  by_cases hs : s.ballot.mode = .start
  · rw [if_pos hs, if_pos (hstart.2 hs), h.own]
  · rw [if_neg hs, if_neg fun ht => hs (hstart.1 ht), hdiscord]
    split
    · exact raiseHold_own_congr _ _ _ h hclock
    · rw [liftHold_own, liftHold_own, h.own]

theorem judgeView_own_congr (h : HoldsAlike s t) (hline : NoticesAlike s t) (hclock : t.clock = s.clock) (hroster : t.roster = s.roster)
    (hstartup : t.startup = s.startup) : (judgeView t).holds.own = (judgeView s).holds.own := by
  refine judgeDiscord_own_congr (judgeLink_agree h hline hclock hroster hstartup) ?_ ?_ ?_
  · rw [judgeLink_clock, judgeLink_clock, hclock]
  · rw [judgeLink_mode_eq_start, judgeLink_mode_eq_start, hline.mode]
  · rw [judgeLink_discord, judgeLink_discord, discord_congr (by rw [hroster]) hstartup]

theorem takeLift_alike (o : Nat) (n : Byte) (s : State) : HoldsAlike s (takeLift o n s) := by
  unfold takeLift
  exact ⟨by simp, by simp, by simp⟩

theorem takeLift_link_eq (o : Nat) (n : Byte) (s : State) : (takeLift o n s).link = s.link := State.changeHolds_link _ _

/-! ### A judgement that raises nothing new -/

theorem raiseHold_own_of_stands {c : Cause} {i : Option Nat} (d : Option Detail) (h : s.ownHold c i ≠ none)
    (hown : t.holds.own = s.holds.own) : (raiseHold c i d t).holds.own = (raiseHold c i d s).holds.own := by
  obtain ⟨x, hx⟩ := Option.ne_none_iff_exists'.1 h
  have hx' : t.ownHold c i = some x := (ownHold_congr hown c i).trans hx
  by_cases hd : x.detail = d
  · rw [← hd, raiseHold_of_same hx, raiseHold_of_same hx', hown]
  · rw [raiseHold_own_of_standing d hx hd, raiseHold_own_of_standing d hx' hd, hown]

/-- A judgement that raises nothing new makes the own holds from the own holds and the view alone. -/
theorem judgeView_own_of_quiet (h : ¬ s.viewRaises) (hown : t.holds.own = s.holds.own) (hmode : t.ballot.mode = s.ballot.mode)
    (hroster : t.roster = s.roster) (hstartup : t.startup = s.startup) : (judgeView t).holds.own = (judgeView s).holds.own := by
  have hmissing : t.missing = s.missing := missing_congr (by rw [hroster]) (by rw [hroster]) (by rw [hstartup])
  have hlink : (judgeLink t).holds.own = (judgeLink s).holds.own := by
    unfold judgeLink
    rw [hmissing, hroster]
    split
    · next hjoined =>
      split
      · rw [liftHold_own, liftHold_own, hown]
      · next hm => exact raiseHold_own_of_stands none (fun hnew => h (.inl ⟨hjoined, by simpa using hm, stands_eq_false_iff.2 hnew⟩)) hown
    · exact hown
  have hstart : (judgeLink t).ballot.mode = .start ↔ (judgeLink s).ballot.mode = .start := by
    rw [judgeLink_mode_eq_start, judgeLink_mode_eq_start, hmode]
  have hdiscord : (judgeLink t).discord = (judgeLink s).discord := by
    rw [judgeLink_discord, judgeLink_discord, discord_congr (by rw [hroster]) hstartup]
  unfold judgeView judgeDiscord
  by_cases hs : (judgeLink s).ballot.mode = .start
  · rw [if_pos hs, if_pos (hstart.2 hs), hlink]
  · rw [if_neg hs, if_neg fun ht => hs (hstart.1 ht), hdiscord]
    split
    · next hd =>
      refine raiseHold_own_of_stands none (fun hnew => h (.inr ⟨?_, ?_, ?_⟩)) hlink
      · rwa [Ne, ← judgeLink_mode_eq_start]
      · rwa [← judgeLink_discord]
      · rw [← judgeLink_stands_discord]
        exact stands_eq_false_iff.2 hnew
    · rw [liftHold_own, liftHold_own, hlink]

/-- An address that is missing once a sender has been heard was missing before. -/
theorem heardState_missing_subset (a : Nat) (s : State) {m : Nat} (hm : m ∈ (heardState a s).missing) : m ∈ s.missing := by
  have hsights : (hear a (lineHeard a s)).roster.entries.map RosterEntry.sight =
      (presentState a (lineHeard a s)).roster.entries.map RosterEntry.sight := by
    by_cases hstranger : ((lineHeard a s).entry a).state ≠ .vacant ∧ ((lineHeard a s).entry a).state ≠ .lost ∨ a = 0
    · rw [hear_of_stranger hstranger]
    · rw [hear_of_return (by tauto) (by tauto)]
      exact (requestRecall_takes _ _).sights
  have hjoined : (heardState a s).roster.joinComplete = s.roster.joinComplete := heardState_roster_joinComplete a s
  have hcfg : (heardState a s).cfg = s.cfg := by unfold State.cfg; rw [heardState_startup_eq]
  obtain ⟨e, he, haddress, hexpected, hstate⟩ := mem_missing.1 hm
  rw [heardState_eq, judgeDiscord_roster] at he
  rw [hjoined] at hstate
  rw [hcfg] at hexpected
  have hsight : e.sight ∈ (presentState a (lineHeard a s)).roster.entries.map RosterEntry.sight := by
    rw [← hsights]
    exact List.mem_map_of_mem he
  unfold presentState at hsight
  rw [updateEntry_entries, (lineHeard_frame a s).1] at hsight
  obtain ⟨x, hx, hxe⟩ := List.mem_map.1 hsight
  obtain ⟨y, hy, rfl⟩ := List.mem_map.1 hx
  split at hxe
  · have hpresent : e.state = .present := (congrArg (fun k => k.2.1) hxe).symm
    rw [hpresent] at hstate
    simp at hstate
  · have hya : y.address = e.address := congrArg Prod.fst hxe
    have hys : y.state = e.state := congrArg (fun k => k.2.1) hxe
    exact mem_missing.2 ⟨y, hy, hya.trans haddress, hexpected, by rwa [hys]⟩

theorem heardState_stands_link (a : Nat) (s : State) : (heardState a s).stands .link = s.stands .link := by
  unfold State.stands
  rw [heardState_eq, judgeDiscord_ownHold_of_ne (by decide)]
  exact congrArg Option.isSome (ownHold_congr (by simp [lineHeard]) _ _)

/-- Where LINK was in step, the judgement that follows the hearing raises nothing new (R23, R24). -/
theorem heardState_not_viewRaises (a : Nat) (hmode : s.ballot.mode ≠ .start) (h : LinkInStep s) : ¬ (heardState a s).viewRaises := by
  rintro (⟨hjoined, hmissing, hstands⟩ | ⟨hm, hdiscord, hstands⟩)
  · rw [heardState_roster_joinComplete] at hjoined
    rw [heardState_stands_link] at hstands
    obtain ⟨m, hm⟩ := List.exists_mem_of_ne_nil _ hmissing
    have hstanding := (h.2 hjoined).2 (List.ne_nil_of_mem (heardState_missing_subset a s hm))
    cases hstands.symm.trans hstanding
  · have hheard : (hear a (lineHeard a s)).ballot.mode ≠ .start := by
      rw [(hear_stays a _).mode, (lineHeard_stays a s).mode]
      exact hmode
    have hsame : (heardState a s).discord = (hear a (lineHeard a s)).discord :=
      discord_congr (by rw [heardState_eq, judgeDiscord_roster]) (by rw [heardState_eq, judgeDiscord_startup])
    rw [hsame, ← judgeDiscord_stands_iff hheard, ← heardState_eq, hstands] at hdiscord
    cases hdiscord

/-! ### RECALL: the replay notices -/

/-- The HOLD notices of a list. -/
def holdNotices (l : List Notice) : List Notice := l.filter fun x => decide (x.kind = .hold)

/-- The list has a HOLD notice of this serial. -/
def State.noticed (s : State) (n : Byte) : Prop := ∃ x ∈ s.holds.notices, x.kind = .hold ∧ x.serial = n

theorem noticed_iff {n : Byte} : s.noticed n ↔ ∃ x ∈ holdNotices s.holds.notices, x.serial = n := by
  unfold State.noticed holdNotices
  simp [and_assoc]

theorem filter_eraseP_of_disjoint {α : Type} {p q : α → Bool} (h : ∀ x, p x = true → q x = false) (l : List α) :
    (l.eraseP p).filter q = l.filter q := by
  induction l with
  | nil => rfl
  | cons x l ih =>
    cases hp : p x with
    | true => rw [List.eraseP_cons_of_pos hp, List.filter_cons_of_neg (by simp [h x hp])]
    | false => rw [List.eraseP_cons_of_neg (by simp [hp]), List.filter_cons, List.filter_cons, ih]

/-- Making room drops no HOLD notice (R29). -/
theorem holdNotices_roomyNotices (s : State) : holdNotices s.roomyNotices = holdNotices s.holds.notices := by
  unfold State.roomyNotices
  split
  · rfl
  · refine filter_eraseP_of_disjoint (fun x hx => ?_) _
    obtain ⟨hlift, -⟩ := Bool.and_eq_true_iff.1 hx
    rw [of_decide_eq_true hlift]
    rfl

theorem replayNotice_of_noticed {h : OwnHold} (hn : s.noticed h.serial) : replayNotice s h = s := by
  obtain ⟨x, hx, hkind, hserial⟩ := hn
  obtain ⟨y, hy⟩ := Option.ne_none_iff_exists'.1 (holdNotice_ne_none hx hkind hserial)
  unfold replayNotice
  rw [hy]

theorem replayNotice_of_not_noticed {h : OwnHold} (hn : ¬ s.noticed h.serial) :
    replayNotice s h = appendNotice .hold h.serial true s := by
  unfold replayNotice
  split
  · next x hx => exact absurd ⟨x, holdNotice_mem hx, holdNotice_spec hx⟩ hn
  · rfl

theorem replayNotice_of_mute (h : OwnHold) (hmute : s.link.mute = true) : replayNotice s h = s := by
  unfold replayNotice
  split
  · rfl
  · exact appendNotice_of_silent _ _ _ (.inr hmute)

/-- What a RECALL's replay of a list of own holds has added to the notice list (R45). -/
structure Replayed (l : List OwnHold) (s t : State) (added : List Notice) : Prop where
  holds : holdNotices t.holds.notices = holdNotices s.holds.notices ++ added
  fresh : ∀ x ∈ added, x.replay = true ∧ ¬ s.noticed x.serial
  distinct : (added.map fun x => x.serial).Nodup
  order : (added.map fun x => x.serial).Sublist (l.map fun h => h.serial)
  every : ∀ h ∈ l, ¬ s.noticed h.serial → ∃ x ∈ added, x.serial = h.serial
  room : s.holds.notices.length + l.length ≤ 64 → t.holds.notices = s.holds.notices ++ added

/-- The replay of an own hold that has a HOLD notice adds nothing. -/
theorem Replayed.skip {l : List OwnHold} {h : OwnHold} {added : List Notice} (hr : Replayed l s t added) (hn : s.noticed h.serial) :
    Replayed (h :: l) s t added where
  holds := hr.holds
  fresh := hr.fresh
  distinct := hr.distinct
  order := hr.order.cons _
  every := fun x hx hnot => by
    rcases List.mem_cons.1 hx with rfl | hx
    · exact absurd hn hnot
    · exact hr.every x hx hnot
  room := fun hroom => hr.room (by rw [List.length_cons] at hroom; omega)

/-- The replay of an own hold without a HOLD notice comes before those of the rest. -/
theorem Replayed.append {l : List OwnHold} {h : OwnHold} {added : List Notice} (hmode : s.ballot.mode ≠ .start)
    (hmute : s.link.mute = false) (hr : Replayed l (appendNotice .hold h.serial true s) t added) (hn : ¬ s.noticed h.serial) :
    Replayed (h :: l) s t (⟨s.link.nextItem, .hold, h.serial, true⟩ :: added) := by
  have hnotices := appendNotice_notices .hold h.serial true hmode hmute
  have hholds : holdNotices (appendNotice .hold h.serial true s).holds.notices =
      holdNotices s.holds.notices ++ [⟨s.link.nextItem, .hold, h.serial, true⟩] := by
    rw [hnotices, ← holdNotices_roomyNotices s]
    exact List.filter_append ..
  have hnoticed : ∀ n, (appendNotice .hold h.serial true s).noticed n ↔ s.noticed n ∨ n = h.serial := fun n => by
    rw [noticed_iff, noticed_iff, hholds]
    simp [or_and_right, exists_or, eq_comm]
  refine ⟨?_, ?_, ?_, ?_, ?_, fun hroom => ?_⟩
  · rw [hr.holds, hholds, List.append_assoc]
    rfl
  · intro x hx
    rcases List.mem_cons.1 hx with rfl | hx
    · exact ⟨rfl, hn⟩
    · obtain ⟨hreplay, hnot⟩ := hr.fresh x hx
      exact ⟨hreplay, fun hx' => hnot ((hnoticed _).2 (.inl hx'))⟩
  · refine List.nodup_cons.2 ⟨fun hmem => ?_, hr.distinct⟩
    obtain ⟨x, hx, hserial⟩ := List.mem_map.1 hmem
    exact (hr.fresh x hx).2 ((hnoticed _).2 (.inr hserial))
  · exact hr.order.cons_cons _
  · intro x hx hnot
    rcases List.mem_cons.1 hx with rfl | hx
    · exact ⟨_, List.mem_cons_self, rfl⟩
    · by_cases hsame : x.serial = h.serial
      · exact ⟨_, List.mem_cons_self, hsame.symm⟩
      · obtain ⟨y, hy, hserial⟩ := hr.every x hx fun hx' => ((hnoticed _).1 hx').elim hnot hsame
        exact ⟨y, List.mem_cons_of_mem _ hy, hserial⟩
  · rw [List.length_cons] at hroom
    have hkept : s.roomyNotices = s.holds.notices := if_pos (show _ < 64 by omega)
    rw [hkept] at hnotices
    rw [hr.room (by rw [hnotices, List.length_append, List.length_singleton]; omega), hnotices, List.append_assoc]
    rfl

theorem foldl_replayNotice_replayed (l : List OwnHold) :
    ∀ s : State, s.ballot.mode ≠ .start → s.link.mute = false → ∃ added, Replayed l s (l.foldl replayNotice s) added := by
  induction l with
  | nil => exact fun s _ _ => ⟨[], ⟨by simp, by simp, by simp, by simp, by simp, by simp⟩⟩
  | cons h l ih =>
    intro s hmode hmute
    by_cases hn : s.noticed h.serial
    · obtain ⟨added, hr⟩ := ih s hmode hmute
      refine ⟨added, ?_⟩
      rw [List.foldl_cons, replayNotice_of_noticed hn]
      exact hr.skip hn
    · obtain ⟨added, hr⟩ := ih (appendNotice .hold h.serial true s) (by simpa using hmode) (by simpa using hmute)
      refine ⟨⟨s.link.nextItem, .hold, h.serial, true⟩ :: added, ?_⟩
      rw [List.foldl_cons, replayNotice_of_not_noticed hn]
      exact hr.append hmode hmute hn

theorem takeRecall_replayed (hmode : s.ballot.mode ≠ .start) (hmute : s.link.mute = false) :
    ∃ added, Replayed s.holds.own s (takeRecall s.own s) added := by
  obtain ⟨added, hr⟩ := foldl_replayNotice_replayed s.holds.own s hmode hmute
  exact ⟨added, by unfold takeRecall; rwa [if_pos rfl]⟩

theorem takeRecall_of_mute (p : Nat) (hmute : s.link.mute = true) : takeRecall p s = s := by
  have hall : ∀ l : List OwnHold, l.foldl replayNotice s = s := by
    intro l
    induction l with
    | nil => rfl
    | cons h l ih => rw [List.foldl_cons, replayNotice_of_mute h hmute, ih]
  unfold takeRecall
  rw [hall, ite_self]

theorem takeRecall_own (p : Nat) (s : State) : (takeRecall p s).holds.own = s.holds.own := by
  have hall : ∀ (l : List OwnHold) (v : State), (l.foldl replayNotice v).holds.own = v.holds.own := by
    intro l
    induction l with
    | nil => exact fun _ => rfl
    | cons h l ih =>
      refine fun v => (ih _).trans ?_
      unfold replayNotice
      split
      · rfl
      · simp
  unfold takeRecall
  split
  · exact hall _ s
  · rfl

end

/-- Settles O18, by the announce's owner. -/
theorem announceTaken : Obligations.AnnounceTaken := by
  intro a d s hvalid htakes hshaped
  have ha := sender_le_of_frameValid hvalid
  have hentry : (frameTaken a (.announce d) s).entry a =
      { (heardState a s).entry a with summary := none, confirmed := false, announced := some d } :=
    (frameTaken_entry _ _ _ _).trans (takeAnnounce_entry_self (heardState_rosterShaped hshaped) ha d)
  refine ⟨_, exec_frameTaken hvalid htakes, by rw [hentry], by rw [hentry], by rw [hentry], fun r hr => ?_, fun hexpected hclosed => ?_,
    fun hroom => frameTaken_queued hroom fun hheard => takeAnnounce_queued a d hheard, ?_⟩
  · rw [frameTaken_remote] at hr
    have hr' : r ∈ (takeAnnounce a d (heardState a s)).holds.remote := hr
    rw [takeAnnounce_remote] at hr'
    exact of_decide_eq_true (List.mem_filter.1 hr').2
  · refine takeAnnounce_not_closed d ?_ ((frameTaken_yields a (.announce d) s).mode_of_closed hclosed)
    rw [isExpected_congr (heardState_startup_eq a s), hexpected]
  · rw [frameTaken_highest]
    exact (takeAnnounce_highest a d _).trans (heardState_ballot_highest a s)

/-- Settles O19, by what is stored of the frame. -/
theorem holdFrameTaken : Obligations.HoldFrameTaken := by
  intro a n c i d s hvalid htakes
  have ha := sender_le_of_frameValid hvalid
  have hnot : ¬ (frameTaken a (.hold n c i d) s).isParty := (frameTaken_yields a (.hold n c i d) s).not_party (takeHold_not_party _ _)
  have hremote : (frameTaken a (.hold n c i d) s).holds.remote = (storeRemote ⟨a, n, c, i, d, s.now⟩ (heardState a s)).holds.remote :=
    (frameTaken_remote _ _ _).trans (takeHold_remote _ _)
  refine ⟨_, exec_frameTaken hvalid htakes, fun h => hnot (.inl h), fun h => hnot (.inr h), ?_⟩
  intro u old asks new
  rw [hremote]
  refine ⟨fun hknown => storeRemote_of_known (r := new) hknown, fun hnew hroom => storeRemote_of_room (r := new) hnew hroom,
    fun hnew hfull => ?_⟩
  have hstored : storeRemote new u = requestRecall a u := storeRemote_of_full (r := new) hnew hfull
  have hasked : asks ↔ 1 ≤ a ∧ a ≤ 24 ∧ a ≠ u.own ∧ (u.entry a).recallPending = false := by
    have hown : u.own = s.own := heardState_own_eq a s
    rw [hown]
    exact ⟨fun ⟨h1, hne, hp⟩ => ⟨h1, ha, hne, hp⟩, fun ⟨h1, _, hne, hp⟩ => ⟨h1, hne, hp⟩⟩
  rw [hstored]
  refine ⟨fun h => by rw [requestRecall_of_not_asked (mt hasked.2 h)], fun h => ?_⟩
  have h' := hasked.1 h
  refine ⟨requestRecall_remote_of_asked h', fun hshaped => ?_, fun hroom => frameTaken_queued hroom fun hheard => ?_⟩
  · have hentry : (frameTaken a (.hold n c i d) s).entry a = (storeRemote new u).entry a := by
      rw [frameTaken_entry]
      exact entry_congr (by simp [Body.owner, takeHold, new, u]) a
    rw [hentry, hstored, requestRecall_entry_self (heardState_rosterShaped hshaped) h']
  · have hqueued : Queued (storeRemote new u) (.recall a) := by
      rw [hstored]
      exact requestRecall_queued (k := 0) h' hheard
    exact (leave_fills _).queued ((storeRemote_fills new u).roomy hheard) hqueued

/-- Settles O20, by the owners of the two frames. -/
theorem liftAndRecallTaken : Obligations.LiftAndRecallTaken := by
  intro a p n s htakes ha
  have hlift : frameValid a (.lift n) = true := by
    simp [frameValid, Body.kindCode, Body.fits, kindAllowed_of_le ha]
  have hliftMode : (takeLift a n (heardState a s)).ballot.mode = (heardState a s).ballot.mode := by simp
  have hrecallMode : (takeRecall p (heardState a s)).ballot.mode = (heardState a s).ballot.mode := by rw [takeRecall_ballot]
  refine ⟨⟨_, exec_frameTaken hlift htakes, ?_, ?_, ?_⟩, fun hp => ?_, fun hp => if_neg hp, fun hmute h hh => ?_,
    takeRecall_of_mute p, fun hmute => ?_⟩
  · rw [frameTaken_remote]
    exact takeLift_remote _ _ _
  · rw [frameTaken_mode]
    exact judgeView_mode_congr hliftMode (viewRaises_congr (takeLift_roster _ _ _) (takeLift_startup _ _ _) hliftMode (takeLift_alike _ _ _).own)
  · rw [frameTaken_holds]
    exact judgeView_own_congr (takeLift_alike _ _ _) (.of_link (takeLift_link_eq _ _ _) hliftMode) (takeLift_clock _ _ _)
      (takeLift_roster _ _ _) (takeLift_startup _ _ _)
  · have hrecall : frameValid a (.recall p) = true := by
      simp [frameValid, Body.kindCode, Body.fits, kindAllowed_of_le ha, hp]
    refine ⟨_, exec_frameTaken hrecall htakes, frameTaken_holds _ _ _, ?_, fun hstep => ?_, ?_⟩
    · rw [frameTaken_remote]
      exact takeRecall_remote _ _
    · rw [frameTaken_holds]
      exact judgeView_own_of_quiet (heardState_not_viewRaises a htakes.1 hstep) (takeRecall_own _ _) hrecallMode
        (takeRecall_roster _ _) (takeRecall_startup _ _)
    · rw [frameTaken_mode]
      refine judgeView_mode_congr hrecallMode ?_
      exact viewRaises_congr (takeRecall_roster _ _) (takeRecall_startup _ _) hrecallMode (takeRecall_own _ _)
  · obtain ⟨added, hr⟩ := takeRecall_replayed htakes.1 hmute
    have hnoticed : (takeRecall s.own s).noticed h.serial := by
      rw [noticed_iff, hr.holds]
      by_cases hn : s.noticed h.serial
      · obtain ⟨x, hx, hserial⟩ := noticed_iff.1 hn
        exact ⟨x, List.mem_append_left _ hx, hserial⟩
      · obtain ⟨x, hx, hserial⟩ := hr.every h hh hn
        exact ⟨x, List.mem_append_right _ hx, hserial⟩
    exact hnoticed
  · obtain ⟨added, hr⟩ := takeRecall_replayed htakes.1 hmute
    exact ⟨added, hr.holds, hr.fresh, hr.distinct, hr.order, hr.every, hr.room⟩

end Sys2Proof.Machine

/-! TALLY taken (R5, R11, R42 to R44, R69): reconciliation, the summary, the offer and the close confirmation; and what an offer of a
superseding ballot leaves of an arrival. -/

namespace Sys2Proof.Machine

section
variable {s t u : State} {a p n k : Nat} {pending : Bool}

/-! ### Reconciliation -/

/-- The records of an origin, counted (R43). -/
def State.recordCount (s : State) (p : Nat) : Nat := (s.holds.remote.filter fun r => decide (r.origin = p)).length

/-- Reconciliation asks the origin for a RECALL (R42, R43). -/
def State.asksRecall (s : State) (p n : Nat) (pending : Bool) : Prop :=
  n ≠ s.recordCount p ∧ n ≠ 0 ∧ pending = false ∧ 1 ≤ p ∧ p ≤ 24 ∧ p ≠ s.own ∧ (s.entry p).recallPending = false

theorem reconcile_of_asks (h : s.asksRecall p n pending) : reconcile p n pending s = requestRecall p s := by
  obtain ⟨hcount, hn, hpending, -⟩ := h
  rw [reconcile_of_differing pending hn hcount, hpending]
  rfl

theorem reconcile_of_emptied (h0 : n = 0) (hcount : n ≠ s.recordCount p) : reconcile p n pending s = purge p s := by
  subst h0
  exact reconcile_of_none pending (Ne.symm hcount)

theorem reconcile_of_rest (h : ¬ s.asksRecall p n pending) (hrest : n = s.recordCount p ∨ n ≠ 0) : reconcile p n pending s = s := by
  by_cases hcount : n = s.recordCount p
  · exact reconcile_of_equal pending hcount
  · have hn := hrest.resolve_left hcount
    rw [reconcile_of_differing pending hn hcount]
    split
    · rfl
    · next hpending => exact requestRecall_of_not_asked fun hask => h ⟨hcount, hn, by simpa using hpending, hask⟩

/-- Reconciliation asks, empties the origin's records, or does nothing. -/
theorem reconcile_cases (p n : Nat) (pending : Bool) (s : State) :
    (s.asksRecall p n pending ∧ reconcile p n pending s = requestRecall p s) ∨
      (¬ s.asksRecall p n pending ∧ n = 0 ∧ n ≠ s.recordCount p ∧ reconcile p n pending s = purge p s) ∨
      (¬ s.asksRecall p n pending ∧ (n = s.recordCount p ∨ n ≠ 0) ∧ reconcile p n pending s = s) := by
  by_cases hasks : s.asksRecall p n pending
  · exact .inl ⟨hasks, reconcile_of_asks hasks⟩
  · by_cases hrest : n = s.recordCount p ∨ n ≠ 0
    · exact .inr (.inr ⟨hasks, hrest, reconcile_of_rest hasks hrest⟩)
    · have h0 : n = 0 := by tauto
      have hcount : n ≠ s.recordCount p := by tauto
      exact .inr (.inl ⟨hasks, h0, hcount, reconcile_of_emptied h0 hcount⟩)

/-- Reconciliation changes no entry of its origin but for the mark of a RECALL asked for. -/
theorem reconcile_entry_self (hshaped : RosterShaped s) :
    (s.asksRecall p n pending → (reconcile p n pending s).entry p = { s.entry p with recallPending := true }) ∧
      (¬ s.asksRecall p n pending → (reconcile p n pending s).entry p = s.entry p) := by
  obtain ⟨hasks, h⟩ | ⟨hasks, -, -, h⟩ | ⟨hasks, -, h⟩ := reconcile_cases p n pending s <;> rw [h]
  · have hasks' := hasks
    obtain ⟨-, -, -, hasked⟩ := hasks'
    exact ⟨fun _ => requestRecall_entry_self hshaped hasked, fun hno => absurd hasks hno⟩
  · exact ⟨fun hyes => absurd hyes hasks, fun _ => entry_congr (by rw [purge_roster]) p⟩
  · exact ⟨fun hyes => absurd hyes hasks, fun _ => rfl⟩

/-- Reconciliation reads the remote holds, the own address and, where it may ask, the mark. -/
theorem asksRecall_congr (hremote : t.holds.remote = s.holds.remote) (hown : t.own = s.own)
    (hmark : pending = false → (t.entry p).recallPending = (s.entry p).recallPending) :
    t.asksRecall p n pending ↔ s.asksRecall p n pending := by
  unfold State.asksRecall State.recordCount
  rw [hremote, hown]
  cases pending with
  | true => simp
  | false => rw [hmark rfl]

theorem reconcile_remote_congr (hremote : t.holds.remote = s.holds.remote) (hasks : t.asksRecall p n pending ↔ s.asksRecall p n pending) :
    (reconcile p n pending t).holds.remote = (reconcile p n pending s).holds.remote := by
  have hcount : t.recordCount p = s.recordCount p := by unfold State.recordCount; rw [hremote]
  obtain ⟨hs, h⟩ | ⟨hs, h0, hne, h⟩ | ⟨hs, hrest, h⟩ := reconcile_cases p n pending s <;> rw [h]
  · have ht := hasks.2 hs
    rw [reconcile_of_asks ht]
    obtain ⟨-, -, -, hasked⟩ := hs
    obtain ⟨-, -, -, hasked'⟩ := ht
    rw [requestRecall_remote_of_asked hasked, requestRecall_remote_of_asked hasked', hremote]
  · rw [reconcile_of_emptied h0 (by rwa [hcount]), purge_remote, purge_remote, hremote]
  · rw [reconcile_of_rest (mt hasks.1 hs) (by rwa [hcount]), hremote]

/-! ### The summary taken -/

theorem summaryTaken_entry_self (hshaped : RosterShaped s) (ha : a ≤ 24) (c : Summary) (was : Bool) :
    (summaryTaken a c was s).entry a =
      { s.entry a with summary := some c, recallPending := if was then false else (s.entry a).recallPending } :=
  updateEntry_entry_self (f := fun e => { e with summary := some c, recallPending := if was then false else e.recallPending }) hshaped ha
    fun _ => rfl

theorem summaryTaken_holds (a : Nat) (c : Summary) (was : Bool) (s : State) : (summaryTaken a c was s).holds = s.holds :=
  State.updateEntry_holds _ _ _

theorem summaryTaken_own (a : Nat) (c : Summary) (was : Bool) (s : State) : (summaryTaken a c was s).own = s.own :=
  congrArg StartSequence.address (State.updateEntry_startup _ _ _)

/-- With the summary in place reconciliation asks as it would have on the state heard, where a mark that the TALLY clears was seen. -/
theorem summaryTaken_asksRecall (hshaped : RosterShaped s) (ha : a ≤ 24) (c : Summary) {was : Bool}
    (hwas : was = true → (s.entry a).recallPending = true) :
    (summaryTaken a c was s).asksRecall a n (s.entry a).recallPending ↔ s.asksRecall a n (s.entry a).recallPending := by
  refine asksRecall_congr (congrArg HoldUnit.remote (summaryTaken_holds a c was s)) (summaryTaken_own a c was s) fun hpending => ?_
  have hnot : was = false := by
    cases was with
    | false => rfl
    | true => cases (hwas rfl).symm.trans hpending
  rw [summaryTaken_entry_self hshaped ha, hnot]
  rfl

theorem confirmOffer_entry_recallPending (a : Nat) (m : Mode) (b : Ballot) (s : State) (c : Nat) :
    ((confirmOffer a m b s).entry c).recallPending = (s.entry c).recallPending := by
  have hupdate : ((s.updateEntry a fun e => { e with confirmed := true }).entry c).recallPending = (s.entry c).recallPending := by
    rw [updateEntry_entry]
    · unfold State.entry
      cases s.roster.entries.find? fun e => decide (e.address = c) with
      | none => rfl
      | some e =>
        simp only [Option.map_some, Option.getD_some]
        split <;> rfl
    · intro e; rfl
  unfold confirmOffer
  split
  · split
    · exact hupdate
    · rfl
    · rw [entry_congr (t := leave s) (s := s) (by rw [leave_roster])]
  · rfl

/-- What a TALLY's owner makes of its sender's entry, but for the confirmation. -/
theorem takeTally_entry (a : Nat) (c : Summary) (was : Bool) (s : State) :
    ((takeTally a c was s).entry a).summary = ((tallyReconciled a c was s).entry a).summary ∧
      ((takeTally a c was s).entry a).recallPending = ((tallyReconciled a c was s).entry a).recallPending := by
  have hoffered : (offer c.ballot (tallyReconciled a c was s)).entry a = (tallyReconciled a c was s).entry a :=
    entry_congr (by rw [offer_roster]) a
  rw [takeTally_eq]
  split
  · exact ⟨by rw [confirmOffer_entry_summary, hoffered], by rw [confirmOffer_entry_recallPending, hoffered]⟩
  · exact ⟨by rw [hoffered], by rw [hoffered]⟩

theorem tallyReconciled_summary (hshaped : RosterShaped s) (ha : a ≤ 24) (c : Summary) (was : Bool) :
    ((tallyReconciled a c was s).entry a).summary = some c := by
  have hentry := reconcile_entry_self (p := a) (n := c.holdCount) (pending := (s.entry a).recallPending)
    ((summaryTaken_takes a c was s).rosterShaped hshaped)
  unfold tallyReconciled
  by_cases hasks : (summaryTaken a c was s).asksRecall a c.holdCount (s.entry a).recallPending
  · rw [hentry.1 hasks, summaryTaken_entry_self hshaped ha]
  · rw [hentry.2 hasks, summaryTaken_entry_self hshaped ha]

/-- The mark of a RECALL that was pending before the arrival is cleared (R5, R11). -/
theorem tallyReconciled_cleared (hshaped : RosterShaped s) (ha : a ≤ 24) (c : Summary) (hpending : (s.entry a).recallPending = true) :
    ((tallyReconciled a c true s).entry a).recallPending = false := by
  have hentry := reconcile_entry_self (p := a) (n := c.holdCount) (pending := (s.entry a).recallPending)
    ((summaryTaken_takes a c true s).rosterShaped hshaped)
  unfold tallyReconciled
  rw [hentry.2, summaryTaken_entry_self hshaped ha]
  · rfl
  · rintro ⟨-, -, hno, -⟩
    cases hpending.symm.trans hno

/-- Otherwise the mark is as reconciliation leaves it (R42, R43). -/
theorem tallyReconciled_mark (hshaped : RosterShaped s) (ha : a ≤ 24) (c : Summary) :
    ((tallyReconciled a c false s).entry a).recallPending =
      ((reconcile a c.holdCount (s.entry a).recallPending s).entry a).recallPending := by
  have hasks := summaryTaken_asksRecall (n := c.holdCount) hshaped ha c (was := false) nofun
  have hentry := reconcile_entry_self (p := a) (n := c.holdCount) (pending := (s.entry a).recallPending)
    ((summaryTaken_takes a c false s).rosterShaped hshaped)
  have hentry' := reconcile_entry_self (p := a) (n := c.holdCount) (pending := (s.entry a).recallPending) hshaped
  unfold tallyReconciled
  by_cases h : s.asksRecall a c.holdCount (s.entry a).recallPending
  · rw [hentry.1 (hasks.2 h), hentry'.1 h]
  · rw [hentry.2 (mt hasks.1 h), hentry'.2 h, summaryTaken_entry_self hshaped ha]
    rfl

theorem takeTally_queued (hshaped : RosterShaped s) (c : Summary) {was : Bool} (hwas : was = true → (s.entry a).recallPending = true)
    (ha : a ≤ 24) (h : s.asksRecall a c.holdCount (s.entry a).recallPending) (hroom : Roomy 1 s) :
    Queued (takeTally a c was s) (.recall a) := by
  have hasks := (summaryTaken_asksRecall hshaped ha c hwas).2 h
  have hroomy : Roomy (0 + 1) (summaryTaken a c was s) := (summaryTaken_takes a c was s).fills.roomy hroom
  have hreconciled : Queued (tallyReconciled a c was s) (.recall a) := by
    unfold tallyReconciled
    rw [reconcile_of_asks hasks]
    obtain ⟨-, -, -, hasked⟩ := hasks
    exact requestRecall_queued hasked hroomy
  have hbefore : Roomy 0 (tallyReconciled a c was s) := (tallyReconciled_takes a c was s).fills.roomy hroom
  have hoffered := (offer_fills c.ballot _).queued hbefore hreconciled
  rw [takeTally_eq]
  split
  · exact (confirmOffer_fills _ _ _ _).queued ((offer_fills _ _).roomy hbefore) hoffered
  · exact hoffered

/-! ### The offer of an arrival -/

theorem wouldReplace_congr (h : t.ballot.highest = s.ballot.highest) (b : Ballot) : t.wouldReplace b = s.wouldReplace b := by
  unfold State.wouldReplace
  rw [h]

theorem takeTally_highest (a : Nat) (c : Summary) (was : Bool) (s : State) :
    (takeTally a c was s).ballot.highest = if s.wouldReplace c.ballot = true then c.ballot else s.ballot.highest := by
  have hreconciled : (tallyReconciled a c was s).ballot.highest = s.ballot.highest := by simp [tallyReconciled, summaryTaken]
  have hconfirm : ∀ v : State, (confirmOffer a c.mode c.ballot v).ballot.highest = v.ballot.highest := by
    intro v
    unfold confirmOffer
    split
    · split <;> simp
    · rfl
  rw [takeTally_eq]
  split
  · rw [hconfirm, offer_highest, wouldReplace_congr hreconciled, hreconciled]
  · rw [offer_highest, wouldReplace_congr hreconciled, hreconciled]

theorem leftRecord_of_proposer {b : BallotUnit} (hmode : b.mode = .pledged) (hrole : b.role = .proposer) :
    leftRecord b = { b with current := none, role := .none, votes := [], commitClaimed := false, proposal := .stopped } := by
  cases b
  cases hmode
  cases hrole
  rfl

theorem leftRecord_of_voter {b : BallotUnit} (hmode : b.mode = .pledged) (hrole : b.role = .voter) :
    leftRecord b = { b with current := none, role := .none, pledge := .stopped } := by
  cases b
  cases hmode
  cases hrole
  rfl

theorem leftRecord_of_closed {b : BallotUnit} (hmode : b.mode = .closed) :
    leftRecord b = { b with current := none, role := .none, confirm := .stopped } := by
  cases b
  cases hmode
  rfl

/-- A PLEDGED or CLOSED station that left its ballot, one that had none and kept its record: what an offer promises (R51, R52). -/
theorem Yields.leftFor {x : Ballot} (h : Yields 2 s t) (hhighest : t.ballot.highest = x) (hnot : ¬ t.isParty) : LeftFor s t x := by
  refine ⟨hhighest, fun hp => ?_, fun hmode hrole => ?_, fun hmode hrole => ?_, fun hmode => ?_, fun hmode => ?_⟩
  · have hleft := h.left hp hnot
    exact ⟨hleft.mode, hleft.current, hleft.role, fun _ => hleft.command⟩
  · have hleft := h.left (.inl hmode) hnot
    refine ⟨?_, ?_, ?_, fun b hb hroom => hleft.withdraw b hmode hrole hb hroom.roomy⟩ <;>
      rw [hleft.record, leftRecord_of_proposer hmode hrole]
  · have hleft := h.left (.inl hmode) hnot
    rw [hleft.record, leftRecord_of_voter hmode hrole]
  · have hleft := h.left (.inr hmode) hnot
    rw [hleft.record, leftRecord_of_closed hmode]
  · have hidle : ¬ s.isParty := by
      unfold State.isParty
      rcases hmode with hm | hm <;> rw [hm] <;> decide
    have hstays := h.stays hidle
    exact ⟨hstays.mode, hstays.current⟩

theorem tallyReconciled_highest (a : Nat) (c : Summary) (was : Bool) (s : State) :
    (tallyReconciled a c was s).ballot.highest = s.ballot.highest := by simp [tallyReconciled, summaryTaken]

theorem takeTally_not_party_of_replacing (hs : s.hasCurrent) (c : Summary) (was : Bool) (hreplace : s.wouldReplace c.ballot = true) :
    ¬ (takeTally a c was s).isParty := by
  have hoffered : ¬ (offer c.ballot (tallyReconciled a c was s)).isParty :=
    offer_not_party ((tallyReconciled_yields a c was s).hasCurrent hs)
      ((wouldReplace_congr (tallyReconciled_highest a c was s) _).trans hreplace)
  rw [takeTally_eq]
  split
  · exact (confirmOffer_yields _ _ _ _).not_party hoffered
  · exact hoffered

/-- A mode or ballot that is not the closure's breaks it (R69). -/
theorem confirmOffer_not_closed {m : Mode} {b : Ballot} (h : s.ballot.current ≠ some b ∨ m = .join ∨ m = .opened) :
    (confirmOffer a m b s).ballot.mode ≠ .closed := by
  by_cases hmode : s.ballot.mode = .closed
  · by_cases hcurrent : s.ballot.current = some b
    · unfold confirmOffer
      rw [if_pos hmode, decide_eq_true hcurrent]
      obtain rfl | rfl := h.resolve_left (fun hne => hne hcurrent)
      · exact leave_not_closed s
      · exact leave_not_closed s
    · rw [confirmOffer_of_other hmode hcurrent]
      exact leave_not_closed s
  · rwa [confirmOffer_of_not_closed hmode]

theorem takeTally_not_closed {c : Summary} {was : Bool} (hmember : s.isMember a = true)
    (h : s.ballot.current ≠ some c.ballot ∨ c.mode = .join ∨ c.mode = .opened) :
    (takeTally a c was s).ballot.mode ≠ .closed := by
  have hyields := (tallyReconciled_yields a c was s).then_none (offer_yields c.ballot _)
  have hstartup : (offer c.ballot (tallyReconciled a c was s)).startup = s.startup := by simp [tallyReconciled, summaryTaken]
  rw [takeTally_eq, if_pos ((isMember_congr (by rw [hstartup]) a).trans hmember)]
  obtain hstays | hleft := hyields.outcome
  · exact confirmOffer_not_closed (h.imp_left fun hne => by rwa [hstays.current])
  · rw [confirmOffer_of_not_closed (by rw [hleft.mode]; decide), hleft.mode]
    decide

/-- A frame that breaks a closure leaves the station OPEN. -/
theorem Yields.mode_of_not_closed (h : Yields k s t) (hs : s.ballot.mode = .closed) (ht : t.ballot.mode ≠ .closed) :
    t.ballot.mode = .opened := by
  obtain hstays | hleft := h.outcome
  · exact absurd (hstays.mode.trans hs) ht
  · exact hleft.mode

theorem takeTally_of_closed {c : Summary} {was : Bool} (hmember : s.isMember a = true)
    (hreplace : s.wouldReplace c.ballot = false) :
    takeTally a c was s = confirmOffer a c.mode c.ballot (tallyReconciled a c was s) := by
  have hstartup : (tallyReconciled a c was s).startup = s.startup := by simp [tallyReconciled, summaryTaken]
  rw [takeTally_eq, offer_of_not_replacing _ _ ((wouldReplace_congr (tallyReconciled_highest a c was s) _).trans hreplace),
    if_pos ((isMember_congr (by rw [hstartup]) a).trans hmember)]

theorem tallyReconciled_stays (a : Nat) (c : Summary) (was : Bool) (s : State) : BallotStays s (tallyReconciled a c was s) :=
  .of_fields (by simp [tallyReconciled, summaryTaken]) (by simp [tallyReconciled, summaryTaken])
    (by simp [tallyReconciled, summaryTaken]) (by simp [tallyReconciled, summaryTaken]) (by simp [tallyReconciled, summaryTaken])
    (by simp [tallyReconciled, summaryTaken]) (by simp [tallyReconciled, summaryTaken]) (by simp [tallyReconciled, summaryTaken])
    (by simp [tallyReconciled, summaryTaken])

/-- The missing set reads what an owner leaves alone. -/
theorem Takes.mem_missing_iff (h : Takes k s t) {m : Nat} : m ∈ t.missing ↔ m ∈ s.missing := by
  have hcfg : t.cfg = s.cfg := by unfold State.cfg; rw [h.startup]
  have hentries : ∀ {x y : State}, x.roster.entries.map RosterEntry.sight = y.roster.entries.map RosterEntry.sight →
      ∀ {P : Nat → EntryState → Prop}, (∃ e ∈ x.roster.entries, P e.address e.state) → ∃ e ∈ y.roster.entries, P e.address e.state := by
    rintro x y hxy P ⟨e, he, hP⟩
    have hmem : e.sight ∈ y.roster.entries.map RosterEntry.sight := hxy ▸ List.mem_map_of_mem he
    obtain ⟨d, hd, hde⟩ := List.mem_map.1 hmem
    have haddress : d.address = e.address := congrArg Prod.fst hde
    have hstate : d.state = e.state := congrArg (fun k => k.2.1) hde
    exact ⟨d, hd, by rwa [haddress, hstate]⟩
  rw [mem_missing, mem_missing, hcfg, h.joined]
  exact ⟨hentries h.sights (P := fun x y => x = m ∧ _ ∧ (y = .lost ∨ s.roster.joinComplete = true ∧ y = .vacant)),
    hentries h.sights.symm (P := fun x y => x = m ∧ _ ∧ (y = .lost ∨ s.roster.joinComplete = true ∧ y = .vacant))⟩

/-! ### A TALLY that agrees brings no DISCORD -/

/-- What decides discord of an entry: its address, state, summary and announce data. -/
def RosterEntry.told (e : RosterEntry) : Nat × EntryState × Option Summary × Option AnnounceData :=
  (e.address, e.state, e.summary, e.announced)

theorem entryDiscord_congr {e d : RosterEntry} (hstartup : t.startup = s.startup) (h : d.told = e.told) :
    t.entryDiscord d = s.entryDiscord e := by
  have haddress : d.address = e.address := congrArg Prod.fst h
  have hstate : d.state = e.state := congrArg (fun k => k.2.1) h
  have hsummary : d.summary = e.summary := congrArg (fun k => k.2.2.1) h
  have hannounced : d.announced = e.announced := congrArg (fun k => k.2.2.2) h
  have hsize : t.size = s.size := by unfold State.size State.cfg; rw [hstartup]
  unfold State.entryDiscord RosterEntry.heard RosterEntry.disagrees RosterEntry.carriedDigest State.isStranger State.own
  rw [haddress, hstate, hsummary, hannounced, hstartup, hsize]

theorem discord_of_told (hstartup : t.startup = s.startup)
    (htold : t.roster.entries.map RosterEntry.told = s.roster.entries.map RosterEntry.told) : t.discord = s.discord := by
  have hsize : t.size = s.size := by unfold State.size State.cfg; rw [hstartup]
  have hown : t.isStranger t.own = s.isStranger s.own := by
    unfold State.isStranger State.own
    rw [hsize, hstartup]
  have hany : t.roster.entries.any t.entryDiscord = s.roster.entries.any s.entryDiscord := by
    rw [Bool.eq_iff_iff, List.any_eq_true, List.any_eq_true]
    constructor
    · rintro ⟨d, hd, hdiscord⟩
      have hmem : d.told ∈ s.roster.entries.map RosterEntry.told := htold ▸ List.mem_map_of_mem hd
      obtain ⟨e, he, heq⟩ := List.mem_map.1 hmem
      exact ⟨e, he, by rwa [← entryDiscord_congr hstartup heq.symm]⟩
    · rintro ⟨e, he, hdiscord⟩
      have hmem : e.told ∈ t.roster.entries.map RosterEntry.told := htold ▸ List.mem_map_of_mem he
      obtain ⟨d, hd, heq⟩ := List.mem_map.1 hmem
      exact ⟨d, hd, by rwa [entryDiscord_congr hstartup heq]⟩
  unfold State.discord
  rw [hown, hany]

theorem map_told_of_keeps {f : RosterEntry → RosterEntry} (hf : ∀ e : RosterEntry, (f e).told = e.told) (l : List RosterEntry) :
    (l.map f).map RosterEntry.told = l.map RosterEntry.told := by
  rw [List.map_map]
  exact List.map_congr_left fun e _ => hf e

theorem updateEntry_told {f : RosterEntry → RosterEntry} (hf : ∀ e : RosterEntry, (f e).told = e.told) (a : Nat) (s : State) :
    (s.updateEntry a f).roster.entries.map RosterEntry.told = s.roster.entries.map RosterEntry.told := by
  rw [updateEntry_entries]
  refine map_told_of_keeps (fun e => ?_) _
  split
  · exact hf e
  · rfl

theorem reconcile_told (p n : Nat) (pending : Bool) (s : State) :
    (reconcile p n pending s).roster.entries.map RosterEntry.told = s.roster.entries.map RosterEntry.told := by
  obtain ⟨hasks, h⟩ | ⟨-, -, -, h⟩ | ⟨-, -, h⟩ := reconcile_cases p n pending s <;> rw [h]
  · obtain ⟨-, -, -, hasked⟩ := hasks
    have hmarked : (recallMarked p (purge p s)).roster.entries.map RosterEntry.told = (purge p s).roster.entries.map RosterEntry.told :=
      updateEntry_told (f := fun e => { e with recallPending := true }) (fun _ => rfl) p _
    rw [requestRecall_of_asked hasked, claim_roster]
    exact hmarked.trans (by rw [purge_roster])
  · rw [purge_roster]

theorem confirmOffer_told (a : Nat) (m : Mode) (b : Ballot) (s : State) :
    (confirmOffer a m b s).roster.entries.map RosterEntry.told = s.roster.entries.map RosterEntry.told := by
  unfold confirmOffer
  split
  · split
    · exact updateEntry_told (f := fun e => { e with confirmed := true }) (fun _ => rfl) a s
    · rfl
    · rw [leave_roster]
  · rfl

/-- A summary of the own digest makes no discord where none was. -/
theorem summaryTaken_discord {c : Summary} (was : Bool) (h : s.discord = false) (hdigest : c.digest = s.startup.digest) :
    (summaryTaken a c was s).discord = false := by
  have hstartup : (summaryTaken a c was s).startup = s.startup := State.updateEntry_startup _ _ _
  have hcfg : (summaryTaken a c was s).cfg = s.cfg := by unfold State.cfg; rw [hstartup]
  rw [Bool.eq_false_iff] at h ⊢
  refine fun hdiscord => h (discord_iff.2 ?_)
  have hd := discord_iff.1 hdiscord
  rw [hcfg, summaryTaken_own, hstartup] at hd
  refine hd.imp_right ?_
  rintro ⟨e, he, hne, hstate, hor⟩
  unfold summaryTaken at he
  rw [updateEntry_entries] at he
  obtain ⟨d, hd, rfl⟩ := List.mem_map.1 he
  split at hne
  · next haddress =>
    rw [if_pos haddress] at hstate hor
    refine ⟨d, hd, hne, hstate, .inr ?_⟩
    rcases hor with (⟨t, ht, htne⟩ | ⟨hnone, -⟩) | hsize
    · cases ht
      exact absurd hdigest htne
    · cases hnone
    · exact hsize
  · next haddress =>
    rw [if_neg haddress] at hstate hor
    exact ⟨d, hd, hne, hstate, hor⟩

theorem takeTally_clearView {c : Summary} {was : Bool} (h : ClearView s) (hdigest : c.digest = s.startup.digest) :
    ClearView (takeTally a c was s) := by
  obtain ⟨hmissing, hdiscord⟩ := h
  have htakes := takeTally_takes a c was s
  have htold : (takeTally a c was s).roster.entries.map RosterEntry.told =
      (summaryTaken a c was s).roster.entries.map RosterEntry.told := by
    have hoffered : (offer c.ballot (tallyReconciled a c was s)).roster.entries.map RosterEntry.told =
        (summaryTaken a c was s).roster.entries.map RosterEntry.told := by
      rw [offer_roster]
      exact reconcile_told _ _ _ _
    rw [takeTally_eq]
    split
    · rw [confirmOffer_told, hoffered]
    · exact hoffered
  have hstartup : (takeTally a c was s).startup = (summaryTaken a c was s).startup :=
    htakes.startup.trans (summaryTaken_takes a c was s).startup.symm
  refine ⟨List.eq_nil_iff_forall_not_mem.2 fun m hm => ?_, ?_⟩
  · have hsame : m ∈ s.missing := htakes.mem_missing_iff.1 hm
    rw [hmissing] at hsame
    cases hsame
  · rw [discord_of_told hstartup htold]
    exact summaryTaken_discord was hdiscord hdigest

theorem takeTally_entry_confirmed (hshaped : RosterShaped s) (ha : a ≤ 24) {c : Summary} {was : Bool} (hmode : s.ballot.mode = .closed)
    (hmember : s.isMember a = true) (hcurrent : s.ballot.current = some c.ballot) (hreplace : s.wouldReplace c.ballot = false) :
    (c.mode = .closed → BallotStays s (takeTally a c was s) ∧ ((takeTally a c was s).entry a).confirmed = true) ∧
      (c.mode = .pledged → BallotStays s (takeTally a c was s) ∧
        ((takeTally a c was s).entry a).confirmed = (s.entry a).confirmed) := by
  have hstays := tallyReconciled_stays a c was s
  have hmode' := hstays.mode.trans hmode
  have hcurrent' := hstays.current.trans hcurrent
  have hshaped' := (tallyReconciled_takes a c was s).rosterShaped hshaped
  rw [takeTally_of_closed hmember hreplace]
  refine ⟨fun hc => ?_, fun hp => ?_⟩
  · rw [hc, confirmOffer_of_closed hmode' hcurrent',
      updateEntry_entry_self (f := fun e => { e with confirmed := true }) hshaped' ha fun _ => rfl]
    exact ⟨hstays.trans (.of_fields (by simp) (by simp) (by simp) (by simp) (by simp) (by simp) (by simp) (by simp) (by simp)), rfl⟩
  · have hkept : confirmOffer a .pledged c.ballot (tallyReconciled a c was s) = tallyReconciled a c was s := by
      unfold confirmOffer
      rw [if_pos hmode', decide_eq_true hcurrent']
    have hentry := reconcile_entry_self (p := a) (n := c.holdCount) (pending := (s.entry a).recallPending)
      ((summaryTaken_takes a c was s).rosterShaped hshaped)
    have hsummary := summaryTaken_entry_self hshaped ha c was
    rw [hp, hkept]
    refine ⟨hstays, ?_⟩
    unfold tallyReconciled
    by_cases hasks : (summaryTaken a c was s).asksRecall a c.holdCount (s.entry a).recallPending
    · rw [hentry.1 hasks, hsummary]
    · rw [hentry.2 hasks, hsummary]

end

/-- Settles O16, by reconciliation, the offer and the close confirmation. -/
theorem tallyTaken : Obligations.TallyTaken := by
  intro a c s hvalid htakes hshaped u pending count
  have ha := sender_le_of_frameValid hvalid
  have hshaped' : RosterShaped u := heardState_rosterShaped hshaped
  obtain ⟨-, -, -, -, hconfirmed, hkept, -, -⟩ := heardState_entry_self hshaped ha
  have hown : u.own = s.own := heardState_own_eq a s
  have hhighest : u.ballot.highest = s.ballot.highest := heardState_ballot_highest a s
  have hmember : u.isMember a = s.isMember a := isMember_congr (by rw [heardState_startup_eq]) a
  have hheard : Yields 1 s u := heardState_yields a s
  have hafter := frameTaken_yields a (.tally c) s
  have hwhole : Yields 2 s (frameTaken a (.tally c) s) :=
    (hheard.trans (takeTally_yields a c (s.entry a).recallPending u)).then_none hafter
  have hfield := takeTally_entry a c (s.entry a).recallPending u
  have hentry : (frameTaken a (.tally c) s).entry a = (takeTally a c (s.entry a).recallPending u).entry a := frameTaken_entry _ _ _ _
  refine ⟨_, exec_frameTaken hvalid htakes, ?_, fun hwas => ?_, ?_, fun hwas => ?_, fun h0 hcount hpending h1 hroom => ?_, ?_,
    fun hlegal hreplace => ?_, fun hmode hm hcurrent => ?_, fun hmode hm hc => ?_, fun hmode hm hcurrent hreplace hclear hdigest => ?_⟩
  · rw [hentry, hfield.1, tallyReconciled_summary hshaped' ha]
  · rw [hentry, hfield.2, hwas, tallyReconciled_cleared hshaped' ha c (hkept hwas)]
  · rw [frameTaken_remote]
    have hasks := summaryTaken_asksRecall (n := c.holdCount) hshaped' ha c hkept
    refine (congrArg HoldUnit.remote (takeTally_holds _ _ _ _)).trans ?_
    exact reconcile_remote_congr (congrArg HoldUnit.remote (summaryTaken_holds _ _ _ _)) hasks
  · rw [hentry, hfield.2, hwas, tallyReconciled_mark hshaped' ha]
  · have hnot : a ≠ s.own := by
      rintro rfl
      exact htakes.2 ⟨decide_eq_true ⟨h1, ha⟩, rfl⟩
    have hasks : u.asksRecall a c.holdCount (u.entry a).recallPending :=
      ⟨hcount, h0, hpending, h1, ha, by rwa [hown], hpending⟩
    exact frameTaken_queued hroom fun hroomy => takeTally_queued hshaped' c hkept ha hasks hroomy
  · rw [frameTaken_highest]
    refine (takeTally_highest a c _ u).trans ?_
    rw [wouldReplace_congr hhighest, hhighest]
  · refine hwhole.leftFor ?_ ?_
    · rw [frameTaken_highest]
      refine (takeTally_highest a c _ u).trans ?_
      rw [wouldReplace_congr hhighest, if_pos hreplace]
    · refine hafter.not_party (takeTally_not_party_of_replacing (hheard.hasCurrent hlegal.hasCurrent) c _ ?_)
      rw [wouldReplace_congr hhighest, hreplace]
  · refine hwhole.mode_of_not_closed hmode fun hclosed => ?_
    have htaken := hafter.mode_of_closed hclosed
    obtain hstays | hleft := hheard.outcome
    · exact takeTally_not_closed (hmember.trans hm) (.inl (by rwa [hstays.current])) htaken
    · cases hleft.mode.symm.trans ((takeTally_yields a c _ u).mode_of_closed htaken)
  · refine hwhole.mode_of_not_closed hmode fun hclosed => ?_
    have htaken := hafter.mode_of_closed hclosed
    obtain hstays | hleft := hheard.outcome
    · exact takeTally_not_closed (hmember.trans hm) (.inr hc) htaken
    · cases hleft.mode.symm.trans ((takeTally_yields a c _ u).mode_of_closed htaken)
  · have hstays : BallotStays s u := heardState_stays a hclear.2
    have htaken := takeTally_entry_confirmed (was := (s.entry a).recallPending) hshaped' ha (hstays.mode.trans hmode) (hmember.trans hm)
      (hstays.current.trans hcurrent) ((wouldReplace_congr hhighest _).trans hreplace)
    have hclear' : ClearView (takeTally a c (s.entry a).recallPending u) :=
      takeTally_clearView hclear (by rw [heardState_startup_eq, hdigest])
    have hjudged : BallotStays (takeTally a c (s.entry a).recallPending u) (frameTaken a (.tally c) s) :=
      (judgeView_stays hclear'.not_viewRaises).trans (endEvent_stays s _)
    refine ⟨fun hc => ?_, fun hp => ?_⟩
    · obtain ⟨hst, hconf⟩ := htaken.1 hc
      have hall := (hstays.trans hst).trans hjudged
      exact ⟨hall.mode.trans hmode, hall.current, by rw [hentry, hconf]⟩
    · obtain ⟨hst, hconf⟩ := htaken.2 hp
      have hall := (hstays.trans hst).trans hjudged
      exact ⟨hall.mode.trans hmode, hall.current, by rw [hentry, hconf, hconfirmed]⟩

end Sys2Proof.Machine

/-! How ballots end, and what PROPOSE, ASSENT and COMMIT frames make of a ballot (R51, R52, R59 to R70). -/

namespace Sys2Proof.Machine

section
variable {s t u : State} {a k : Nat} {b : Ballot}

/-! ### The switch and the ballot left -/

theorem Yields.switchFollowsMode (h : Yields k s t) (hs : SwitchFollowsMode s) : SwitchFollowsMode t := by
  obtain hstays | hleft := h.outcome
  · rw [switchFollowsMode_iff, hstays.switch, hstays.mode, switchFollowsMode_iff.1 hs]
  · rw [switchFollowsMode_iff, hleft.command, hleft.mode]
    rfl

theorem command_opened_of_not_closed (h : SwitchFollowsMode s) (hmode : s.ballot.mode ≠ .closed) : s.switch.command = .opened := by
  rw [switchFollowsMode_iff.1 h]
  exact if_neg hmode

theorem BallotLeft.left (h : BallotLeft k s t) : t.ballot.mode = .opened ∧ t.ballot.current = none ∧ t.ballot.role = .none :=
  ⟨h.mode, h.current, h.role⟩

/-- A proposer that left has no votes, no COMMIT claimed and no proposal timer (R52). -/
theorem BallotLeft.proposer (h : BallotLeft k s t) (hmode : s.ballot.mode = .pledged) (hrole : s.ballot.role = .proposer) :
    t.ballot.votes = [] ∧ t.ballot.commitClaimed = false ∧ t.ballot.proposal = .stopped := by
  rw [h.record, leftRecord_of_proposer hmode hrole]
  exact ⟨rfl, rfl, rfl⟩

theorem BallotLeft.voter (h : BallotLeft k s t) (hmode : s.ballot.mode = .pledged) (hrole : s.ballot.role = .voter) :
    t.ballot.pledge = .stopped := by
  rw [h.record, leftRecord_of_voter hmode hrole]

theorem BallotLeft.closed (h : BallotLeft k s t) (hmode : s.ballot.mode = .closed) : t.ballot.confirm = .stopped := by
  rw [h.record, leftRecord_of_closed hmode]

theorem isPledged_party {r : Role} (h : s.isPledged r b = true) : s.isParty := .inl ((isPledged_iff r b).1 h).1

/-! ### DEMUR and WITHDRAW -/

theorem takeDemur_highest (b : Ballot) (s : State) : (takeDemur b s).ballot.highest = (offer b s).ballot.highest := by
  unfold takeDemur
  dsimp only
  split <;> simp

theorem takeWithdraw_highest (b : Ballot) (s : State) : (takeWithdraw b s).ballot.highest = (offer b s).ballot.highest := by
  unfold takeWithdraw
  dsimp only
  split <;> simp

/-- The frame's ballot is one that the proposer ends with a DEMUR of it, or that any party ends with a WITHDRAW of it. -/
theorem takeDemur_not_party (h : ¬ (offer b s).isParty ∨ (offer b s).isPledged .proposer b = true) : ¬ (takeDemur b s).isParty := by
  unfold takeDemur
  dsimp only
  split
  · exact leave_not_party _
  · next hno => exact h.resolve_right fun hyes => hno hyes

theorem takeWithdraw_not_party
    (h : ¬ (offer b s).isParty ∨ (offer b s).isPledged .voter b = true ∨
      (offer b s).ballot.mode = .closed ∧ (offer b s).ballot.current = some b) : ¬ (takeWithdraw b s).isParty := by
  unfold takeWithdraw
  dsimp only
  split
  · exact leave_not_party _
  · next hno => exact h.resolve_right fun hyes => hno (by simpa using hyes)

theorem heardState_offer_not_party (a : Nat) (hs : s.hasCurrent) (hreplace : s.wouldReplace b = true) :
    ¬ (offer b (heardState a s)).isParty :=
  offer_not_party ((heardState_yields a s).hasCurrent hs) ((wouldReplace_congr (heardState_ballot_highest a s) b).trans hreplace)

theorem heardState_offer_highest (a : Nat) (hreplace : s.wouldReplace b = true) :
    (offer b (heardState a s)).ballot.highest = b := by
  rw [offer_highest, wouldReplace_congr (heardState_ballot_highest a s), if_pos hreplace]

/-- An owner that offers a superseding ballot, and after which no station is party to one, ends a ballot as the offer promises. -/
theorem frameTaken_leftFor {f : Body} (howner : Yields 1 (heardState a s) (f.owner a s (heardState a s)))
    (hhighest : (f.owner a s (heardState a s)).ballot.highest = b) (hnot : ¬ (f.owner a s (heardState a s)).isParty) :
    LeftFor s (frameTaken a f s) b := by
  have hwhole : Yields 2 s (frameTaken a f s) := ((heardState_yields a s).trans howner).then_none (frameTaken_yields a f s)
  exact hwhole.leftFor ((frameTaken_highest a f s).trans hhighest) ((frameTaken_yields a f s).not_party hnot)

/-- A frame that offers a ballot: either the hearing, or the offer, left the ballot, or the ballot stands as before. -/
theorem heardState_offer_cases (a : Nat) (b : Ballot) (hs : s.hasCurrent) :
    ¬ (offer b (heardState a s)).isParty ∨ BallotStays s (offer b (heardState a s)) := by
  cases hreplace : s.wouldReplace b with
  | true => exact .inl (heardState_offer_not_party a hs hreplace)
  | false =>
    rw [offer_of_not_replacing _ _ ((wouldReplace_congr (heardState_ballot_highest a s) b).trans hreplace)]
    exact ((heardState_yields a s).outcome).symm.imp_left BallotLeft.not_party

/-! ### The expiries of the ballot unit -/

theorem expireProposalTimer_of_proposer (hrunning : s.ballot.proposal.isRunning = true) (hmode : s.ballot.mode = .pledged)
    (hrole : s.ballot.role = .proposer) :
    expireProposalTimer s = leave (s.setBallot { s.ballot with proposal := .stopped }) := by
  unfold expireProposalTimer
  rw [if_pos hrunning]
  exact if_pos ⟨hmode, hrole⟩

theorem expirePledgeTimer_of_voter (hrunning : s.ballot.pledge.isRunning = true) (hmode : s.ballot.mode = .pledged)
    (hrole : s.ballot.role = .voter) :
    expirePledgeTimer s = leave (s.setBallot { s.ballot with pledge := .stopped }) := by
  unfold expirePledgeTimer
  rw [if_pos hrunning]
  exact if_pos ⟨hmode, hrole⟩

theorem expireConfirmTimer_of_closed (hrunning : s.ballot.confirm.isRunning = true) (hmode : s.ballot.mode = .closed) :
    expireConfirmTimer s =
      if s.allConfirmed = false then leave (s.setBallot { s.ballot with confirm := .stopped })
      else s.setBallot { s.ballot with confirm := .stopped } := by
  have hconfirmed : (s.setBallot { s.ballot with confirm := .stopped }).allConfirmed = s.allConfirmed := rfl
  unfold expireConfirmTimer
  rw [if_pos hrunning]
  dsimp only
  rw [hconfirmed]
  cases s.allConfirmed with
  | false => exact if_pos ⟨hmode, rfl⟩
  | true => exact if_neg (by simp)

theorem allConfirmed_iff : s.allConfirmed = true ↔ ∀ e ∈ s.roster.entries, s.isMember e.address = true → e.confirmed = true := by
  unfold State.allConfirmed
  rw [List.all_eq_true]
  refine forall₂_congr fun e _ => ?_
  cases s.isMember e.address <;> simp

/-- Leaving a ballot that is not the station's own queues nothing (R52). -/
theorem leave_queue_of_not_proposer (h : s.ballot.role ≠ .proposer) : (leave s).link.queue = s.link.queue := by
  have hnone : withdrawClaim s = s := by
    unfold withdrawClaim
    split
    · next hr _ => exact absurd hr h
    · rfl
  by_cases hp : s.isParty
  · rw [leave_of_party hp, setMode_link, hnone]
    rfl
  · rw [leave_of_not_party hp]

end

/-- Settles O27, by the leaving that each way to end a ballot comes to. -/
theorem ballotsEnd : Obligations.BallotsEnd := by
  refine ⟨fun a b s htakes hlegal hreplace => ⟨fun r hvalid => ?_, fun hvalid => ?_⟩, fun s b hcurrent => ?_⟩
  · have hnot := heardState_offer_not_party a hlegal.hasCurrent hreplace
    refine ⟨_, exec_frameTaken hvalid htakes, frameTaken_leftFor ((takeDemur_yields b _).mono (Nat.zero_le 1)) ?_
      (takeDemur_not_party (.inl hnot))⟩
    exact (takeDemur_highest b _).trans (heardState_offer_highest a hreplace)
  · have hnot := heardState_offer_not_party a hlegal.hasCurrent hreplace
    refine ⟨_, exec_frameTaken hvalid htakes, frameTaken_leftFor ((takeWithdraw_yields b _).mono (Nat.zero_le 1)) ?_
      (takeWithdraw_not_party (.inl hnot))⟩
    exact (takeWithdraw_highest b _).trans (heardState_offer_highest a hreplace)
  · have hhas : s.hasCurrent := fun _ => by rw [hcurrent]; rfl
    intro left
    have hdemur : ∀ a r, s.isParty → s.isPledged .proposer b = true → BallotLeft 2 s (frameTaken a (.demur b r) s) := by
      intro a r hp hpledged
      have howner := takeDemur_yields b (heardState a s)
      have hwhole : Yields 2 s (frameTaken a (.demur b r) s) :=
        ((heardState_yields a s).trans (howner.mono (Nat.zero_le 1))).then_none (frameTaken_yields a (.demur b r) s)
      refine hwhole.left hp ((frameTaken_yields a (.demur b r) s).not_party (takeDemur_not_party ?_))
      exact (heardState_offer_cases a b hhas).imp_right fun hstays => (hstays.isPledged .proposer b).trans hpledged
    have hwithdraw : ∀ a, s.isParty → (s.isPledged .voter b = true ∨ s.ballot.mode = .closed) →
        BallotLeft 2 s (frameTaken a (.withdraw b) s) := by
      intro a hp hor
      have howner := takeWithdraw_yields b (heardState a s)
      have hwhole : Yields 2 s (frameTaken a (.withdraw b) s) :=
        ((heardState_yields a s).trans (howner.mono (Nat.zero_le 1))).then_none (frameTaken_yields a (.withdraw b) s)
      refine hwhole.left hp ((frameTaken_yields a (.withdraw b) s).not_party (takeWithdraw_not_party ?_))
      refine (heardState_offer_cases a b hhas).imp_right fun hstays => hor.imp (fun hv => (hstays.isPledged .voter b).trans hv) fun hc => ?_
      exact ⟨hstays.mode.trans hc, hstays.current.trans hcurrent⟩
    refine ⟨fun hmode hrole => ⟨fun hrunning => ?_, fun a r hvalid htakes => ?_⟩,
      fun hmode hrole => ⟨fun hrunning => ?_, fun a hvalid htakes => ?_⟩,
      fun hmode => ⟨fun a hvalid htakes => ?_, fun hrunning => ?_⟩⟩
    · have hleft := (leave_yields (s.setBallot { s.ballot with proposal := .stopped })).left (.inl hmode) (leave_not_party _)
      obtain ⟨hvotes, hclaimed, hproposal⟩ := hleft.proposer hmode hrole
      refine ⟨_, event_eq_next expireProposalTimer s, ?_⟩
      rw [expireProposalTimer_of_proposer hrunning hmode hrole]
      refine ⟨by simpa [left] using hleft.left, by simpa using hvotes, by simpa using hclaimed, by simpa using hproposal, by simp,
        fun hroom => Queued.of_link (hleft.withdraw b hmode hrole hcurrent (hroom.roomy.mono (by omega))) (endEvent_link_queue ..)⟩
    · have hleft := hdemur a r (.inl hmode) ((isPledged_iff _ _).2 ⟨hmode, hrole, hcurrent⟩)
      obtain ⟨hvotes, hclaimed, hproposal⟩ := hleft.proposer hmode hrole
      exact ⟨_, exec_frameTaken hvalid htakes, hleft.left, hvotes, hclaimed, hproposal,
        fun hroom => hleft.withdraw b hmode hrole hcurrent hroom.roomy⟩
    · have hleft := (leave_yields (s.setBallot { s.ballot with pledge := .stopped })).left (.inl hmode) (leave_not_party _)
      refine ⟨_, event_eq_next expirePledgeTimer s, ?_⟩
      rw [expirePledgeTimer_of_voter hrunning hmode hrole]
      refine ⟨by simpa [left] using hleft.left, by simpa using hleft.voter hmode hrole, by simp, ?_⟩
      rw [endEvent_link_queue]
      exact leave_queue_of_not_proposer (s := s.setBallot { s.ballot with pledge := .stopped }) (by rw [State.setBallot_ballot, hrole]; decide)
    · have hleft := hwithdraw a (.inl hmode) (.inl ((isPledged_iff _ _).2 ⟨hmode, hrole, hcurrent⟩))
      exact ⟨_, exec_frameTaken hvalid htakes, hleft.left, hleft.voter hmode hrole⟩
    · have hleft := hwithdraw a (.inr hmode) (.inr hmode)
      exact ⟨_, exec_frameTaken hvalid htakes, hleft.left, hleft.closed hmode, fun _ => hleft.command⟩
    · have hleft := (leave_yields (s.setBallot { s.ballot with confirm := .stopped })).left (.inr hmode) (leave_not_party _)
      refine ⟨_, event_eq_next expireConfirmTimer s, ?_⟩
      rw [expireConfirmTimer_of_closed hrunning hmode]
      cases hconfirmed : s.allConfirmed with
      | false =>
        rw [if_pos rfl]
        refine ⟨by simpa using hleft.closed hmode, fun _ => by simpa [left] using hleft.left, fun hall => ?_⟩
        cases hconfirmed.symm.trans (allConfirmed_iff.2 hall)
      | true =>
        rw [if_neg (by simp)]
        refine ⟨by simp, fun ⟨e, he, hmember, hno⟩ => ?_, fun _ => ⟨by simpa using hmode, by simpa using hcurrent, by simp⟩⟩
        cases hno.symm.trans (allConfirmed_iff.1 hconfirmed e he hmember)

end Sys2Proof.Machine

/-! PROPOSE, ASSENT and COMMIT taken (R59 to R63, R66, R68). -/

namespace Sys2Proof.Machine

section
variable {s t u : State} {a n k : Nat} {b : Ballot} {d : Digest}

/-! ### The judgement after hearing -/

/-- Once a sender has been heard DISCORD stands as its condition (R24). -/
theorem heardState_stands_discord (a : Nat) (hmode : s.ballot.mode ≠ .start) :
    (heardState a s).stands .discord = true ↔ (heardState a s).discord = true := by
  have hheard : (hear a (lineHeard a s)).ballot.mode ≠ .start := by
    rw [(hear_stays a _).mode, (lineHeard_stays a s).mode]
    exact hmode
  have hsame : (heardState a s).discord = (hear a (lineHeard a s)).discord :=
    discord_congr (by rw [heardState_eq, judgeDiscord_roster]) (by rw [heardState_eq, judgeDiscord_startup])
  rw [hsame, ← judgeDiscord_stands_iff hheard, heardState_eq]

/-- A station without own holds has no DISCORD to raise once it has heard. -/
theorem heardState_discord_of_no_hold (a : Nat) (hmode : s.ballot.mode ≠ .start) (hown : (heardState a s).holds.own = []) :
    (heardState a s).discord = false := by
  have hnone : (heardState a s).stands .discord = false := by
    unfold State.stands State.ownHold
    rw [hown]
    rfl
  cases hdiscord : (heardState a s).discord with
  | false => rfl
  | true => cases hnone.symm.trans ((heardState_stands_discord a hmode).2 hdiscord)

theorem clearView_congr (hroster : t.roster = s.roster) (hstartup : t.startup = s.startup) : ClearView t ↔ ClearView s := by
  have hmissing : t.missing = s.missing := missing_congr (by rw [hroster]) (by rw [hroster]) (by rw [hstartup])
  unfold ClearView
  rw [hmissing, discord_congr (by rw [hroster]) hstartup]

/-! ### Voting -/

theorem takePropose_of_rest (h : b.proposer ≠ a ∨ s.wouldReplace b = false) : takePropose a b n d s = s := by
  refine if_neg ?_
  rintro ⟨hp, hreplace⟩
  rcases h with hne | hno
  · exact hne hp
  · cases hno.symm.trans hreplace

theorem takePropose_of_replacing (hp : b.proposer = a) (hreplace : s.wouldReplace b = true) :
    takePropose a b n d s = vote b n d (offer b s) := if_pos ⟨hp, hreplace⟩

/-- The station assents to a proposal of this S and digest (R60, R61). -/
def State.assents (s : State) (n : Nat) (d : Digest) : Prop :=
  s.ballot.mode = .opened ∧ s.holds.own = [] ∧ s.holds.remote = [] ∧ s.missing = [] ∧ n = s.size ∧ d = s.startup.digest

/-- The reason of a DEMUR where the station does not assent (R60). -/
def State.objection (s : State) (n : Nat) : DemurReason :=
  if s.ballot.mode = .join then .joining
  else if s.holds.own ≠ [] ∨ s.holds.remote ≠ [] then .holds
  else if s.missing ≠ [] ∨ n ≠ s.size then .membership
  else .digest

theorem vote_of_assents (h : s.assents n d) : vote b n d s = assent b s := by
  obtain ⟨hmode, hown, hremote, hmissing, hn, hd⟩ := h
  have hnone : s.demurReason n d = none := by simp [State.demurReason, hmode, hown, hremote, hmissing, hn, hd]
  unfold vote
  rw [hnone]
  exact if_pos hmode

/-- A station in JOIN or OPEN that does not assent claims a DEMUR (R60). -/
theorem vote_of_not_assents (h : ¬ s.assents n d) (hmode : s.ballot.mode = .opened ∨ s.ballot.mode = .join) :
    vote b n d s = claim (.demur b (s.objection n)) s := by
  have hreason : s.demurReason n d = some (s.objection n) := by
    unfold State.demurReason State.objection
    by_cases hjoin : s.ballot.mode = .join
    · rw [if_pos hjoin, if_pos hjoin]
    · have hopen := hmode.resolve_right hjoin
      rw [if_neg hjoin, if_neg hjoin]
      by_cases hholds : s.holds.own ≠ [] ∨ s.holds.remote ≠ []
      · rw [if_pos hholds, if_pos (by simpa using hholds)]
      · rw [if_neg hholds, if_neg (by simpa using hholds)]
        by_cases hmember : s.missing ≠ [] ∨ n ≠ s.size
        · rw [if_pos hmember, if_pos (by simpa using hmember)]
        · rw [if_neg hmember, if_neg (by simpa using hmember), if_pos]
          intro hd
          exact h ⟨hopen, by tauto, by tauto, by tauto, by tauto, hd⟩
  unfold vote
  rw [hreason]

theorem assent_queued (b : Ballot) (hroom : Roomy 1 s) : Queued (assent b s) (.assent b) := by
  have howed : (voterState b s).owed = 0 := owed_of_role (s := voterState b s) (by decide : Role.voter ≠ .proposer)
  have hfills : Fills 0 s (voterState b s) := .of_same rfl rfl (by rw [howed]; exact Nat.zero_le _)
  have hvoter : Roomy (0 + 1) (voterState b s) := hfills.roomy hroom
  have hclaimed := hvoter.claim_queued (.assent b)
  refine hclaimed.of_link ?_
  rw [assent_eq]
  show (setMode .pledged (claim (.assent b) (voterState b s))).link.queue = _
  rw [setMode_link]

theorem vote_highest (b : Ballot) (n : Nat) (d : Digest) (s : State) : (vote b n d s).ballot.highest = s.ballot.highest := by
  unfold vote
  split
  · simp
  · split
    · next h => rw [assent_ballot b h]
    · rfl

/-! ### The state in which a proposal is voted on -/

/-- A station that has heard a superseding ballot offered is in JOIN or OPEN (R59). -/
theorem offered_mode (htakes : TakesFrom s a) (hlegal : BallotRecordLegal s) (hreplace : s.wouldReplace b = true) :
    (offer b (heardState a s)).ballot.mode = .opened ∨ (offer b (heardState a s)).ballot.mode = .join := by
  have hnot := heardState_offer_not_party (a := a) hlegal.hasCurrent hreplace
  have hstart : (offer b (heardState a s)).ballot.mode ≠ .start := by
    rw [Ne, (offer_takes b _).start, heardState_mode_eq_start]
    exact htakes.1
  cases hmode : (offer b (heardState a s)).ballot.mode with
  | start => exact absurd hmode hstart
  | join => exact .inr rfl
  | opened => exact .inl rfl
  | pledged => exact absurd (.inl hmode) hnot
  | closed => exact absurd (.inr hmode) hnot

theorem offered_roomy (a : Nat) (b : Ballot) (hroom : HasRoom s) : Roomy 1 (offer b (heardState a s)) :=
  (((heardState_yields a s).then_none (offer_yields b _)).fills).roomy hroom.roomy

theorem offered_command (a : Nat) (hlegal : BallotRecordLegal s) (hreplace : s.wouldReplace b = true) (hs : SwitchFollowsMode s) :
    (offer b (heardState a s)).switch.command = .opened := by
  have hnot := heardState_offer_not_party (a := a) hlegal.hasCurrent hreplace
  have hfollows := ((heardState_yields a s).then_none (offer_yields b _)).switchFollowsMode hs
  exact command_opened_of_not_closed hfollows fun hc => hnot (.inr hc)

/-- A vote to ASSENT leaves the roster's judgement nothing to raise. -/
theorem assent_clearView (htakes : TakesFrom s a) (h : (offer b (heardState a s)).assents n d) :
    ClearView (assent b (offer b (heardState a s))) := by
  obtain ⟨hmode, hown, -, hmissing, -⟩ := h
  have hroster : (offer b (heardState a s)).roster = (heardState a s).roster := offer_roster _ _
  have hstartup : (offer b (heardState a s)).startup = (heardState a s).startup := offer_startup _ _
  refine (clearView_congr (s := offer b (heardState a s)) ?_ ?_).2 ⟨hmissing, ?_⟩
  · simp
  · simp
  · rw [discord_congr (by rw [hroster]) hstartup]
    exact heardState_discord_of_no_hold a htakes.1 (by rwa [offer_holds] at hown)

theorem assent_stays_judged (htakes : TakesFrom s a) (h : (offer b (heardState a s)).assents n d) :
    BallotStays (assent b (offer b (heardState a s))) (endEvent s (judgeView (assent b (offer b (heardState a s))))) :=
  (judgeView_stays (assent_clearView htakes h).not_viewRaises).trans (endEvent_stays s _)

/-! ### ASSENT -/

/-- The state in which the votes are counted (R62). -/
def voteCounted (a : Nat) (b : Ballot) (s : State) : State := claimCommit b (addVote a s)

theorem takeAssent_of_pledged (hreplace : s.wouldReplace b = false) (h : s.isPledged .proposer b = true) :
    takeAssent a b s = voteCounted a b s := by
  unfold takeAssent
  rw [offer_of_not_replacing b s hreplace]
  exact if_pos h

theorem takeAssent_of_not_pledged (h : (offer b s).isPledged .proposer b = false) : takeAssent a b s = offer b s :=
  if_neg (by simp [h])

/-- What counting makes of the record: the votes, and the COMMIT claimed (R62, R63). -/
theorem voteCounted_ballot (a : Nat) (b : Ballot) (s : State) :
    (voteCounted a b s).ballot =
      { s.ballot with votes := (addVote a s).ballot.votes, commitClaimed := s.ballot.commitClaimed || (addVote a s).votesComplete } := by
  have hadded : (addVote a s).ballot = { s.ballot with votes := (addVote a s).ballot.votes } := by
    unfold addVote
    split <;> rfl
  have hclaimed : (addVote a s).ballot.commitClaimed = s.ballot.commitClaimed := by rw [hadded]
  have hcounted : (voteCounted a b s).ballot =
      { (addVote a s).ballot with commitClaimed := s.ballot.commitClaimed || (addVote a s).votesComplete } := by
    unfold voteCounted claimCommit
    rw [hclaimed]
    by_cases hclaim : (addVote a s).votesComplete = true ∧ s.ballot.commitClaimed = false
    · obtain ⟨hcomplete, hno⟩ := hclaim
      rw [hcomplete, hno]
      rw [if_pos (show (true && !false) = true from rfl), State.setBallot_ballot, claim_ballot]
      rfl
    · have hsame : (s.ballot.commitClaimed || (addVote a s).votesComplete) = (addVote a s).ballot.commitClaimed := by
        rw [hclaimed]
        cases hc : s.ballot.commitClaimed with
        | true => rfl
        | false =>
          cases hv : (addVote a s).votesComplete with
          | true => exact absurd ⟨hv, hc⟩ hclaim
          | false => rfl
      rw [if_neg (by simpa using hclaim), hsame]
  rw [hcounted, hadded]

theorem addVote_votes_of_member (h : s.isMember a = true) (m : Nat) :
    m ∈ (addVote a s).ballot.votes ↔ s.isMember m = true ∧ m ≤ 24 ∧ (m = a ∨ m ∈ s.ballot.votes) := by
  have haddresses : m ∈ addresses ↔ m ≤ 24 := by
    unfold addresses
    simp only [List.mem_cons, List.not_mem_nil, or_false]
    omega
  unfold addVote
  rw [if_pos h]
  simp only [State.setBallot_ballot, State.members, List.mem_filter, haddresses, Bool.or_eq_true, decide_eq_true_eq,
    List.contains_iff_mem]
  tauto

theorem addVote_votes_of_other (h : s.isMember a = false) : (addVote a s).ballot.votes = s.ballot.votes := by
  unfold addVote
  rw [if_neg (by simp [h])]

/-- The vote set is complete when every member is in it (R63). -/
theorem votesComplete_iff : s.votesComplete = true ↔ ∀ m, m ≤ 24 → 1 ≤ m → m ≤ s.cfg.shared.size → m ∈ s.ballot.votes := by
  have hmember : ∀ m, m ∈ s.members ↔ m ≤ 24 ∧ 1 ≤ m ∧ m ≤ s.cfg.shared.size := fun m => by
    have haddresses : m ∈ addresses ↔ m ≤ 24 := by
      unfold addresses
      simp only [List.mem_cons, List.not_mem_nil, or_false]
      omega
    unfold State.members State.isMember
    rw [List.mem_filter, haddresses, decide_eq_true_eq]
    rfl
  unfold State.votesComplete
  rw [List.all_eq_true]
  simp only [hmember, List.contains_iff_mem]
  exact ⟨fun h m h24 h1 hm => h m ⟨h24, h1, hm⟩, fun h m ⟨h24, h1, hm⟩ => h m h24 h1 hm⟩

theorem votesComplete_congr (hvotes : t.ballot.votes = s.ballot.votes) (hstartup : t.startup = s.startup) :
    t.votesComplete = s.votesComplete := by
  have hcfg : t.cfg = s.cfg := by unfold State.cfg; rw [hstartup]
  rw [Bool.eq_iff_iff, votesComplete_iff, votesComplete_iff, hvotes, hcfg]

theorem voteCounted_frame (a : Nat) (b : Ballot) (s : State) :
    (voteCounted a b s).roster = s.roster ∧ (voteCounted a b s).startup = s.startup := by
  have hadded : (addVote a s).roster = s.roster ∧ (addVote a s).startup = s.startup := by
    unfold addVote
    split <;> exact ⟨rfl, rfl⟩
  unfold voteCounted claimCommit
  split
  · exact ⟨(claim_roster _ _).trans hadded.1, (claim_startup _ _).trans hadded.2⟩
  · exact hadded

theorem voteCounted_queued (hcomplete : (addVote a s).votesComplete = true) (hno : s.ballot.commitClaimed = false) (hroom : Roomy 1 s) :
    Queued (voteCounted a b s) (.commit b) := by
  have hroomy : Roomy (0 + 1) (addVote a s) := (addVote_fills a s).roomy hroom
  have hclaimed : (addVote a s).ballot.commitClaimed = false := by
    unfold addVote
    split <;> exact hno
  have hqueued := hroomy.claim_queued (.commit b)
  unfold voteCounted claimCommit
  rw [hcomplete, hclaimed, if_pos (show (true && !false) = true from rfl)]
  exact hqueued.of_link rfl

/-! ### COMMIT -/

theorem takeCommit_of_pledged (hreplace : s.wouldReplace b = false) (h : s.isPledged .voter b = true) :
    takeCommit b s = enterClosed s := by
  unfold takeCommit
  rw [offer_of_not_replacing b s hreplace]
  exact if_pos h

theorem takeCommit_of_not_pledged (h : (offer b s).isPledged .voter b = false) : takeCommit b s = offer b s :=
  if_neg (by simp [h])

/-- Entering CLOSED commands the switch CLOSED with a check of cause COMMAND (R48, R132, R133). -/
theorem setMode_closed_switch (hmode : s.ballot.mode ≠ .closed) (hcommand : s.switch.command = .opened) :
    (setMode .closed s).switch.command = .closed ∧ ∃ c, (setMode .closed s).switch.check = some c ∧ c.cause = .command := by
  have hne : ¬ commandFor .closed = (s.changeBallot { s.ballot with mode := .closed }).switch.command := by
    rw [State.changeBallot_switch, hcommand]
    decide
  unfold setMode
  rw [if_neg hmode, deliverToPlanner_switch]
  unfold deliverToDriver
  rw [if_neg hne]
  exact ⟨rfl, _, rfl, rfl⟩

theorem enterClosed_told (s : State) :
    (enterClosed s).roster.entries.map RosterEntry.told = s.roster.entries.map RosterEntry.told := by
  by_cases hholds : s.holds.own = [] ∧ s.holds.remote = []
  · rw [enterClosed_of_no_hold hholds.1 hholds.2, setMode_roster]
    refine map_told_of_keeps (fun e => ?_) _
    split <;> rfl
  · rw [enterClosed_of_hold (by tauto), leave_roster]

theorem enterClosed_clearView (hmode : s.ballot.mode ≠ .start) (h : ClearView s) : ClearView (enterClosed s) := by
  obtain ⟨hmissing, hdiscord⟩ := h
  have htakes := enterClosed_takes hmode
  refine ⟨List.eq_nil_iff_forall_not_mem.2 fun m hm => ?_, ?_⟩
  · have hsame := htakes.mem_missing_iff.1 hm
    rw [hmissing] at hsame
    cases hsame
  · rw [discord_of_told htakes.startup (enterClosed_told s), hdiscord]

/-- A COMMIT that is not for a voter's ballot finds no voter of it after its offer. -/
theorem offered_not_voter (a : Nat) (hlegal : BallotRecordLegal s) (h : s.isPledged .voter b = false) :
    (offer b (heardState a s)).isPledged .voter b = false := by
  rcases heardState_offer_cases a b hlegal.hasCurrent with hnot | hstays
  · exact Bool.eq_false_iff.2 fun hp => hnot (isPledged_party hp)
  · rw [hstays.isPledged, h]

end

/-- Settles O28, by the vote on the ballot offered. -/
theorem proposeTaken : Obligations.ProposeTaken := by
  intro a b n d s hvalid htakes hlegal hshaped
  have ha := sender_le_of_frameValid hvalid
  obtain ⟨hpresent, -⟩ := heardState_entry_self hshaped ha
  have howner : (Body.propose b n d).owner a s (heardState a s) = takePropose a b n d (heardState a s) := rfl
  refine ⟨_, exec_frameTaken hvalid htakes, ?_, fun hrest => ?_, fun hp hreplace => ?_⟩
  · rw [frameTaken_entry, (Body.owner_takes a s _ _).entry_state, hpresent]
  · have hrest' := hrest.imp_right ((wouldReplace_congr (heardState_ballot_highest a s) b).trans ·)
    unfold frameTaken
    rw [howner, takePropose_of_rest hrest']
    simp
  · have hreplace' := (wouldReplace_congr (heardState_ballot_highest a s) b).trans hreplace
    have htaken : (Body.propose b n d).owner a s (heardState a s) = vote b n d (offer b (heardState a s)) :=
      takePropose_of_replacing hp hreplace'
    have hoffered : Yields 1 s (offer b (heardState a s)) := (heardState_yields a s).then_none (offer_yields b _)
    have hnot := heardState_offer_not_party (a := a) hlegal.hasCurrent hreplace
    have hmode := offered_mode htakes hlegal hreplace
    have hhighest := heardState_offer_highest (s := s) a hreplace
    have hstartup : (offer b (heardState a s)).startup = s.startup := (offer_startup _ _).trans (heardState_startup_eq a s)
    refine ⟨?_, fun hfollows => ?_, fun hm hr x hx hroom => frameTaken_queued hroom fun _ => ?_, hoffered.mono (by omega) |>.leftFor hhighest hnot,
      fun hassents => ?_, fun hassents => ?_⟩
    · rw [frameTaken_highest, htaken, vote_highest, hhighest]
    · have hcommand := offered_command a hlegal hreplace hfollows
      have hfollowsOffered := hoffered.switchFollowsMode hfollows
      by_cases hassents : (offer b (heardState a s)).assents n d
      · have hstays := assent_stays_judged htakes hassents
        unfold frameTaken
        rw [htaken, vote_of_assents hassents, hstays.switch]
        exact assent_command b hassents.1
      · have hvoted : Yields 1 (offer b (heardState a s)) (frameTaken a (.propose b n d) s) := by
          have hafter := frameTaken_yields a (.propose b n d) s
          rw [htaken, vote_of_not_assents hassents hmode] at hafter
          exact (claim_yields _ _).then_none hafter
        rw [(hvoted.stays hnot).switch, hcommand]
    · have hleft := hoffered.left (.inl hm) hnot
      rw [htaken]
      exact (vote_takes b n d _).fills.queued (offered_roomy a b hroom) (hleft.withdraw x hm hr hx (hroom.roomy.mono (by omega)))
    · have hassents' : (offer b (heardState a s)).assents n d := hassents
      have hopen := hassents'.1
      have hstays := assent_stays_judged htakes hassents'
      have hcfg : (offer b (heardState a s)).cfg = s.cfg := by unfold State.cfg; rw [hstartup]
      refine ⟨?_, ?_, ?_, ?_, fun hroom => frameTaken_queued hroom fun _ => ?_⟩
      · unfold frameTaken
        rw [htaken, vote_of_assents hassents', hstays.mode, assent_ballot b hopen]
      · unfold frameTaken
        rw [htaken, vote_of_assents hassents', hstays.role, assent_ballot b hopen]
      · unfold frameTaken
        rw [htaken, vote_of_assents hassents', hstays.current, assent_ballot b hopen]
      · unfold frameTaken
        rw [htaken, vote_of_assents hassents', hstays.pledge, assent_ballot b hopen, hcfg]
      · rw [htaken, vote_of_assents hassents']
        exact assent_queued b (offered_roomy a b hroom)
    · have hassents' : ¬ (offer b (heardState a s)).assents n d := hassents
      have hvoted : Yields 1 (offer b (heardState a s)) (frameTaken a (.propose b n d) s) := by
        have hafter := frameTaken_yields a (.propose b n d) s
        rw [htaken, vote_of_not_assents hassents' hmode] at hafter
        exact (claim_yields _ _).then_none hafter
      refine ⟨(hvoted.stays hnot).mode, fun hroom => frameTaken_queued hroom fun _ => ?_⟩
      rw [htaken, vote_of_not_assents hassents' hmode]
      exact Roomy.claim_queued (k := 0) _ (offered_roomy a b hroom)

/-- Settles O29, by the count of the votes. -/
theorem assentTaken : Obligations.AssentTaken := by
  refine ⟨fun a b s hvalid htakes hlegal hreplace => ?_, fun a b s hvalid htakes hreplace hclear => ?_⟩
  · have hnot := heardState_offer_not_party (a := a) hlegal.hasCurrent hreplace
    have htaken : (Body.assent b).owner a s (heardState a s) = offer b (heardState a s) :=
      takeAssent_of_not_pledged (Bool.eq_false_iff.2 fun hp => hnot (isPledged_party hp))
    refine ⟨_, exec_frameTaken hvalid htakes, frameTaken_leftFor ?_ ?_ ?_⟩ <;> rw [htaken]
    · exact (offer_yields b _).mono (Nat.zero_le 1)
    · exact heardState_offer_highest a hreplace
    · exact hnot
  · have hstays := heardState_stays a hclear.2
    have hreplace' := (wouldReplace_congr (heardState_ballot_highest a s) b).trans hreplace
    have hmember : ∀ m, (heardState a s).isMember m = s.isMember m := isMember_congr (by rw [heardState_startup_eq])
    refine ⟨_, exec_frameTaken hvalid htakes, fun hpledged => ?_, fun hpledged => ?_⟩
    · obtain ⟨hmode, hrole, hcurrent⟩ := (isPledged_iff _ _).1 hpledged
      have htaken : (Body.assent b).owner a s (heardState a s) = voteCounted a b (heardState a s) :=
        takeAssent_of_pledged hreplace' ((hstays.isPledged _ _).trans hpledged)
      obtain ⟨hroster, hstartup⟩ := voteCounted_frame a b (heardState a s)
      have hjudged : BallotStays (voteCounted a b (heardState a s)) (frameTaken a (.assent b) s) := by
        have hclear' := (clearView_congr hroster hstartup).2 hclear
        unfold frameTaken
        rw [htaken]
        exact (judgeView_stays hclear'.not_viewRaises).trans (endEvent_stays s _)
      have hballot := voteCounted_ballot a b (heardState a s)
      have hvotes : (frameTaken a (.assent b) s).ballot.votes = (addVote a (heardState a s)).ballot.votes := by
        rw [hjudged.votes, hballot]
      have hcomplete : (frameTaken a (.assent b) s).votesComplete = (addVote a (heardState a s)).votesComplete := by
        refine votesComplete_congr hvotes ?_
        have hadded : (addVote a (heardState a s)).startup = (heardState a s).startup := by
          unfold addVote
          split <;> rfl
        rw [hadded, ← hstartup]
        unfold frameTaken
        rw [htaken]
        simp
      have hclaimed : (frameTaken a (.assent b) s).ballot.commitClaimed =
          (s.ballot.commitClaimed || (frameTaken a (.assent b) s).votesComplete) := by
        rw [hjudged.commitClaimed, hballot, hcomplete]
        dsimp only
        rw [hstays.commitClaimed]
      refine ⟨?_, ?_, ?_, ?_, fun hm m => ?_, fun hm => ?_, ?_, fun hc => ?_, fun hc hno hroom => ?_⟩
      · rw [hjudged.mode, hballot]
        exact hstays.mode.trans hmode
      · rw [hjudged.role, hballot]
        exact hstays.role.trans hrole
      · rw [hjudged.current, hballot]
        exact hstays.current.trans hcurrent
      · rw [hjudged.proposal, hballot]
        exact hstays.proposal
      · rw [hvotes, addVote_votes_of_member ((hmember a).trans hm), hmember, hstays.votes]
      · rw [hvotes, addVote_votes_of_other ((hmember a).trans hm), hstays.votes]
      · have hcfg : (frameTaken a (.assent b) s).cfg = s.cfg := by
          have hsame : (frameTaken a (.assent b) s).startup = s.startup := by
            unfold frameTaken
            rw [htaken, endEvent_startup, judgeView_startup, hstartup, heardState_startup_eq]
          unfold State.cfg
          rw [hsame]
        rw [votesComplete_iff, hcfg]
      · rw [hclaimed, hc, Bool.or_true]
      · refine frameTaken_queued hroom fun hroomy => ?_
        rw [htaken]
        exact voteCounted_queued (by rw [← hcomplete, hc]) (hstays.commitClaimed.trans hno) hroomy
    · have htaken : (Body.assent b).owner a s (heardState a s) = heardState a s := by
        have hoffer := offer_of_not_replacing b _ hreplace'
        exact (takeAssent_of_not_pledged (by rw [hoffer, hstays.isPledged, hpledged])).trans hoffer
      have hjudged : BallotStays s (frameTaken a (.assent b) s) := by
        unfold frameTaken
        rw [htaken]
        exact (hstays.trans (judgeView_stays hclear.not_viewRaises)).trans (endEvent_stays s _)
      exact ⟨hjudged.votes, hjudged.commitClaimed, hjudged.mode⟩

/-- Settles O30, by the closing of a voter. -/
theorem commitTaken : Obligations.CommitTaken := by
  intro a b s hvalid htakes hlegal
  refine ⟨_, exec_frameTaken hvalid htakes, fun hreplace => ?_, fun hpledged hreplace hfollows hclear hown hremote => ?_,
    fun hpledged hmode hfollows => ?_⟩
  · have hnot := heardState_offer_not_party (a := a) hlegal.hasCurrent hreplace
    have htaken : (Body.commit b).owner a s (heardState a s) = offer b (heardState a s) :=
      takeCommit_of_not_pledged (Bool.eq_false_iff.2 fun hp => hnot (isPledged_party hp))
    refine frameTaken_leftFor ?_ ?_ ?_ <;> rw [htaken]
    · exact (offer_yields b _).mono (Nat.zero_le 1)
    · exact heardState_offer_highest a hreplace
    · exact hnot
  · obtain ⟨hmode, hrole, hcurrent⟩ := (isPledged_iff _ _).1 hpledged
    have hstays := heardState_stays a hclear.2
    have hmode' := hstays.mode.trans hmode
    have hreplace' := (wouldReplace_congr (heardState_ballot_highest a s) b).trans hreplace
    have htaken : (Body.commit b).owner a s (heardState a s) = enterClosed (heardState a s) :=
      takeCommit_of_pledged hreplace' ((hstays.isPledged _ _).trans hpledged)
    have hballot := enterClosed_ballot hmode' hown hremote
    have hclear' := enterClosed_clearView (by rw [hmode']; decide) hclear
    have hjudged : BallotStays (enterClosed (heardState a s)) (frameTaken a (.commit b) s) := by
      unfold frameTaken
      rw [htaken]
      exact (judgeView_stays hclear'.not_viewRaises).trans (endEvent_stays s _)
    have hcfg : (heardState a s).cfg = s.cfg := by unfold State.cfg; rw [heardState_startup_eq]
    have hopened : (closingState (heardState a s)).switch.command = .opened := by
      show (heardState a s).switch.command = .opened
      rw [hstays.switch]
      exact command_opened_of_not_closed hfollows (by rw [hmode]; decide)
    have hnotClosed : (closingState (heardState a s)).ballot.mode ≠ .closed := by
      show (heardState a s).ballot.mode ≠ .closed
      rw [hmode']
      decide
    have hswitch := setMode_closed_switch hnotClosed hopened
    rw [← enterClosed_of_no_hold hown hremote, ← hjudged.switch] at hswitch
    refine ⟨?_, ?_, ?_, ?_, ?_, fun e he hmember => ?_, hswitch⟩
    · rw [hjudged.mode, hballot]
    · rw [hjudged.current, hballot]
      exact hstays.current.trans hcurrent
    · rw [hjudged.role, hballot]
    · rw [hjudged.pledge, hballot]
    · rw [hjudged.confirm, hballot, hcfg]
    · rw [frameTaken_roster, htaken, enterClosed_of_no_hold hown hremote, setMode_roster] at he
      obtain ⟨x, -, hx⟩ := List.mem_map.1 he
      have hm : ∀ m, (heardState a s).isMember m = s.isMember m := isMember_congr (by rw [heardState_startup_eq])
      split at hx
      · rw [← hx]
      · next hno =>
        rw [hx, hm] at hno
        exact absurd hmember hno
  · have htaken : (Body.commit b).owner a s (heardState a s) = offer b (heardState a s) :=
      takeCommit_of_not_pledged (offered_not_voter a hlegal hpledged)
    have hafter := frameTaken_yields a (.commit b) s
    rw [htaken] at hafter
    have hwhole : Yields 1 s (frameTaken a (.commit b) s) := ((heardState_yields a s).then_none (offer_yields b _)).then_none hafter
    have hnot : (frameTaken a (.commit b) s).ballot.mode ≠ .closed := fun hc => hmode (hwhole.mode_of_closed hc)
    exact ⟨hnot, command_opened_of_not_closed (hwhole.switchFollowsMode hfollows) hnot⟩

end Sys2Proof.Machine

/-! The highest ballot seen and the settle timer through an event: the one changes only to a superseding ballot (R51), the other only by
readiness under AUTO (R54). -/

namespace Sys2Proof.Machine

theorem supersedes_trans {x y z : Ballot} (h : supersedes x y = true) (h' : supersedes y z = true) : supersedes x z = true := by
  rw [supersedes_iff] at h h' ⊢
  omega

theorem wouldReplace_iff (s : State) (b : Ballot) : s.wouldReplace b = true ↔
    1 ≤ b.epoch ∧ (1 ≤ b.proposer ∧ b.proposer ≤ 24) ∧ supersedes b s.ballot.highest = true := by
  simp [State.wouldReplace, realBallot, and_assoc]

/-- What no part of an event does but the store read: from s to t the highest ballot seen stayed or was superseded; the settle timer
stayed, stopped, or runs under AUTO past START; the configuration is the same; and START is not entered. -/
structure Course (s t : State) : Prop where
  highest : t.ballot.highest = s.ballot.highest ∨ supersedes t.ballot.highest s.ballot.highest = true
  settle : t.ballot.settle = .stopped ∨ t.ballot.settle = s.ballot.settle ∨
    t.cfg.shared.policy = .auto ∧ t.ballot.mode ≠ .start
  config : t.startup.config = s.startup.config
  start : s.ballot.mode ≠ .start → t.ballot.mode ≠ .start

section
variable {c : Instr} {s t u : State}

theorem cfg_congr (h : t.startup.config = s.startup.config) : t.cfg = s.cfg := by
  unfold State.cfg
  rw [h]

theorem Course.refl (s : State) : Course s s := ⟨.inl rfl, .inr (.inl rfl), rfl, id⟩

theorem Course.trans (h : Course s t) (h' : Course t u) : Course s u where
  highest := by
    obtain hsame | hsuper := h'.highest
    · rw [hsame]
      exact h.highest
    · obtain hsame' | hsuper' := h.highest
      · exact .inr (by rwa [hsame'] at hsuper)
      · exact .inr (supersedes_trans hsuper hsuper')
  settle := by
    obtain hstopped | hsame | hauto := h'.settle
    · exact .inl hstopped
    · rw [hsame, cfg_congr h'.config]
      exact h.settle.imp_right (Or.imp_right fun ⟨hp, hm⟩ => ⟨hp, h'.start hm⟩)
    · exact .inr (.inr hauto)
  config := h'.config.trans h.config
  start := fun hs => h'.start (h.start hs)

/-- A part that leaves ballot record and start sequence. -/
theorem Course.of_ballot (hballot : t.ballot = s.ballot) (hstartup : t.startup = s.startup) : Course s t :=
  ⟨.inl (by rw [hballot]), .inr (.inl (by rw [hballot])), by rw [hstartup], by rw [hballot]; exact id⟩

theorem Course.of_kept (hhighest : t.ballot.highest = s.ballot.highest) (hsettle : t.ballot.settle = s.ballot.settle)
    (hstartup : t.startup = s.startup) (hstart : s.ballot.mode ≠ .start → t.ballot.mode ≠ .start) : Course s t :=
  ⟨.inl hhighest, .inr (.inl hsettle), by rw [hstartup], hstart⟩

/-- Only a station that is ready has its settle timer started, and it is then past START (R53, R54). -/
theorem settleReadiness_course (before s : State) : Course s (settleReadiness before s) := by
  refine ⟨.inl (by simp), ?_, by simp, by simp⟩
  unfold settleReadiness
  split
  · next hready =>
    have hmode : s.ballot.mode ≠ .start := by rw [ready_mode hready]; decide
    split
    · next hstarts =>
      obtain ⟨-, hauto⟩ := Bool.and_eq_true_iff.1 hstarts
      exact .inr (.inr ⟨of_decide_eq_true hauto, hmode⟩)
    · exact .inr (.inl rfl)
  · exact .inl rfl

theorem changeHolds_course (x : HoldUnit) (s : State) : Course s (s.changeHolds x) :=
  Course.trans (t := s.setHolds x) (.of_ballot rfl rfl) (settleReadiness_course s _)

theorem setMode_course {m : Mode} (hm : m ≠ .start) (s : State) : Course s (setMode m s) := by
  unfold setMode
  split
  · exact .refl s
  · have hset : Course s (s.setBallot { s.ballot with mode := m }) := .of_kept rfl rfl rfl fun _ => hm
    have hchanged : Course s (s.changeBallot { s.ballot with mode := m }) := hset.trans (settleReadiness_course s _)
    exact hchanged.trans (.of_ballot (by simp) (by simp))

theorem claim_course (x : Claim) (s : State) : Course s (claim x s) := .of_ballot (claim_ballot x s) (claim_startup x s)

theorem appendNotice_course (k : NoticeKind) (n : Byte) (r : Bool) (s : State) : Course s (appendNotice k n r s) :=
  .of_ballot (appendNotice_ballot ..) (appendNotice_startup ..)

theorem leave_course (s : State) : Course s (leave s) := by
  by_cases hp : s.isParty
  · have hmode : s.ballot.mode ≠ .start := by rcases hp with h | h <;> rw [h] <;> decide
    have hrecord : (leftRecord s.ballot).mode = s.ballot.mode := by unfold leftRecord; split <;> rfl
    have hwithdrawn : Course s ((withdrawClaim s).setBallot (leftRecord s.ballot)) :=
      .of_kept (leftRecord_highest _) (leftRecord_settle _) (withdrawClaim_startup s) fun _ => by
        rw [State.setBallot_ballot, hrecord]
        exact hmode
    rw [leave_of_party hp]
    exact hwithdrawn.trans (setMode_course (by decide) _)
  · rw [leave_of_not_party hp]
    exact .refl s

theorem raiseHold_course (cause : Cause) (i : Option Nat) (d : Option Detail) (s : State) : Course s (raiseHold cause i d s) := by
  obtain ⟨-, h⟩ | ⟨y, -, -, h⟩ | ⟨y, -, -, h | h⟩ := raiseHold_cases cause i d s <;> rw [h]
  · exact ((changeHolds_course _ s).trans (appendNotice_course _ _ _ _)).trans (leave_course _)
  · exact .refl s
  · exact .of_ballot rfl rfl
  · exact Course.trans (t := changeDetail cause i d s) (.of_ballot rfl rfl) (appendNotice_course _ _ _ _)

theorem liftHold_course (cause : Cause) (i : Option Nat) (s : State) : Course s (liftHold cause i s) := by
  unfold liftHold
  split
  · exact .refl s
  · exact (changeHolds_course _ s).trans (.of_ballot (liftNotices_ballot _ _) (liftNotices_startup _ _))

theorem offer_course (b : Ballot) (s : State) : Course s (offer b s) := by
  unfold offer
  split
  · next hreplace =>
    obtain ⟨-, -, hsuper⟩ := (wouldReplace_iff s b).1 hreplace
    have hset : Course s (s.setBallot { s.ballot with highest := b }) := ⟨.inr hsuper, .inr (.inl rfl), rfl, id⟩
    have hchanged : Course s (s.changeBallot { s.ballot with highest := b }) := hset.trans (settleReadiness_course s _)
    dsimp only
    split
    · exact hchanged.trans (leave_course _)
    · exact hchanged
  · exact .refl s

theorem propose_course (s : State) : Course s (propose s) := by
  have hproposer : Course (offer s.nextBallot s) (proposerState s) := .of_kept rfl rfl rfl id
  have hpledged : Course s (pledgedProposer s) :=
    (((offer_course _ s).trans hproposer).trans (claim_course _ _)).trans (setMode_course (by decide) _)
  rw [propose_eq]
  exact hpledged.trans (.of_kept rfl rfl rfl id)

theorem assent_course (b : Ballot) (s : State) : Course s (assent b s) := by
  have hvoter : Course s (voterState b s) := .of_kept rfl rfl rfl id
  have hpledged : Course s (pledgedVoter b s) := (hvoter.trans (claim_course _ _)).trans (setMode_course (by decide) _)
  rw [assent_eq]
  exact hpledged.trans (.of_kept rfl rfl rfl id)

theorem enterClosed_course (s : State) : Course s (enterClosed s) := by
  by_cases hholds : s.holds.own = [] ∧ s.holds.remote = []
  · have hclosing : Course s (closingState s) := .of_kept rfl rfl rfl id
    rw [enterClosed_of_no_hold hholds.1 hholds.2]
    exact hclosing.trans (setMode_course (by decide) _)
  · rw [enterClosed_of_hold (by tauto)]
    exact leave_course s

/-- What the lockout unit's operations are made of. -/
theorem course_lockoutKept (s : State) : LockoutKept (Course s) where
  raise cause i d v hv := hv.trans (raiseHold_course cause i d v)
  lift cause i v hv := hv.trans (liftHold_course cause i v)
  claim x v hv := hv.trans (claim_course x v)
  blocks _ _ _ _ _ hv := hv.trans (.of_ballot rfl rfl)

/-- Every part of an event but the store read. -/
theorem Move.course (h : Move c s t) (hread : s.ballot.mode ≠ .start ∨ s.startup.readComplete = true ∨
    t ≠ finishRead (settleLockout (settleConfig (copySlots s)))) : Course s t := by
  have hkept := course_lockoutKept s
  have hs := Course.refl s
  cases h with
  | read hstart hunread =>
    rcases hread with h | h | h
    · exact absurd hstart h
    · cases hunread.symm.trans h
    · exact absurd rfl h
  | timers hsettle =>
    refine ⟨.inl rfl, hsettle.imp_right (Or.imp_right fun ⟨hauto, hmode⟩ => ⟨hauto, ?_⟩), rfl, id⟩
    show s.ballot.mode ≠ .start
    rw [hmode]
    decide
  | firstSweep => exact ⟨.inl rfl, .inr (.inl rfl), rfl, id⟩
  | highest hreplace =>
    obtain ⟨-, -, hsuper⟩ := (wouldReplace_iff _ _).1 hreplace
    exact ⟨.inr hsuper, .inr (.inl rfl), rfl, id⟩
  | votes => exact .of_kept rfl rfl rfl id
  | outside | notices | remote | evaluated | lineCleared | sendAborted | countItem | countNone | mutePending | switchInputs
    | frameStart | clearAnnounce | removeQueued | suspendBleeding | resumePlan => exact .of_ballot rfl rfl
  | settleWait | forgetCounted | claim | lineQuiet | setLastSender | setAnnounce | putMonitor | appendNotice | sweepPlanPoint
    | tallyPlanPoint | enterMute => exact .of_ballot (by simp) (by simp)
  | pausePlan => exact .of_ballot (by unfold Machine.pausePlan; split <;> rfl) (by unfold Machine.pausePlan; split <;> rfl)
  | expireAccessWait =>
    obtain ⟨l, hl⟩ := expireAccessWait_eq_setLink s
    rw [hl]
    exact .of_ballot rfl rfl
  | addRemote => exact (changeHolds_course _ s).trans (leave_course _)
  | raiseHold => exact raiseHold_course _ _ _ s
  | liftHold => exact liftHold_course _ _ s
  | leave => exact leave_course s
  | propose => exact propose_course s
  | assent b => exact assent_course b s
  | enterClosed => exact enterClosed_course s
  | enterJoin => exact setMode_course (by decide) s
  | endJoin => exact setMode_course (by decide) s
  | escalate e => exact hkept.escalate e hs
  | completeActive o => exact hkept.completeActive o hs
  | completeRelease o => exact hkept.completeRelease o hs
  | completeConfig o => exact hkept.completeConfig o hs
  | startRelease => exact hkept.startRelease hs
  | startConfig => exact hkept.startWrite _ hs

/-! ### Through the whole event -/

/-- The settle timer is stopped, or the station is past START under AUTO. -/
def SettlesUnderAuto (s : State) : Prop := s.ballot.settle = .stopped ∨ s.cfg.shared.policy = .auto ∧ s.ballot.mode ≠ .start

/-- What an event keeps of the highest ballot seen at its beginning. -/
def Onward (b : Ballot) (s : State) : Prop := s.ballot.highest = b ∨ supersedes s.ballot.highest b = true

theorem Course.onward {b : Ballot} (h : Course s t) (hs : Onward b s) : Onward b t := by
  obtain hsame | hsuper := h.highest
  · exact hs.imp (hsame.trans ·) fun hb => by rwa [hsame]
  · refine .inr ?_
    obtain hsame | hb := hs
    · rwa [hsame] at hsuper
    · exact supersedes_trans hsuper hb

theorem Course.settlesUnderAuto (h : Course s t) (hs : SettlesUnderAuto s) : SettlesUnderAuto t := by
  obtain hstopped | hsame | hauto := h.settle
  · exact .inl hstopped
  · unfold SettlesUnderAuto
    rw [hsame, cfg_congr h.config]
    exact hs.imp_right fun ⟨hp, hm⟩ => ⟨hp, h.start hm⟩
  · exact .inr hauto

/-- In START, with the settle timer stopped: kept by what the store read is made of. -/
theorem start_stopped_lockoutClosed (b : Ballot) :
    LockoutClosed fun v => v.ballot.mode = .start ∧ v.ballot.settle = .stopped ∧ v.ballot.highest = b where
  raise cause i d v hv := by
    obtain ⟨hmode, hsettle, hhighest⟩ := hv
    have hstart := (raiseHold_mode_eq_start cause i d v).2 hmode
    refine ⟨hstart, ?_, by simpa using hhighest⟩
    obtain hstopped | hsame | ⟨-, hm⟩ := (raiseHold_course cause i d v).settle
    · exact hstopped
    · exact hsame.trans hsettle
    · exact absurd hstart hm
  lift cause i v hv := by
    obtain ⟨hmode, hsettle, hhighest⟩ := hv
    have hstart : (liftHold cause i v).ballot.mode = .start := by simpa using hmode
    refine ⟨hstart, ?_, by simpa using hhighest⟩
    obtain hstopped | hsame | ⟨-, hm⟩ := (liftHold_course cause i v).settle
    · exact hstopped
    · exact hsame.trans hsettle
    · exact absurd hstart hm
  claim x v hv := by simpa using hv
  blocks _ _ _ _ _ hv := hv
  settled _ _ _ hv := hv

theorem highest_lockoutClosed (b : Ballot) : LockoutClosed fun v => v.ballot.highest = b where
  raise _ _ _ _ hv := by simpa using hv
  lift _ _ _ hv := by simpa using hv
  claim _ _ hv := by simpa using hv
  blocks _ _ _ _ _ hv := hv
  settled _ _ _ hv := hv

theorem Move.keeps_onward {b : Ballot} (h : Move c s t) (hs : Onward b s) : Onward b t := by
  by_cases hread : t = finishRead (settleLockout (settleConfig (copySlots s)))
  · have hsame : t.ballot.highest = s.ballot.highest := by
      rw [hread]
      exact (highest_lockoutClosed s.ballot.highest).settledRead (s := s) rfl
    exact hs.imp (hsame.trans ·) fun hb => by rwa [hsame]
  · exact (h.course (.inr (.inr hread))).onward hs

theorem Move.keeps_settlesUnderAuto (h : Move c s t) (hs : SettlesUnderAuto s) : SettlesUnderAuto t := by
  by_cases hread : s.ballot.mode ≠ .start ∨ s.startup.readComplete = true ∨ t ≠ finishRead (settleLockout (settleConfig (copySlots s)))
  · exact (h.course hread).settlesUnderAuto hs
  · obtain ⟨hstart, -, hread⟩ : s.ballot.mode = .start ∧ ¬ s.startup.readComplete = true ∧
        t = finishRead (settleLockout (settleConfig (copySlots s))) := by tauto
    have hstopped : s.ballot.settle = .stopped := hs.resolve_right fun ⟨_, hm⟩ => hm hstart
    have hsettled := (start_stopped_lockoutClosed s.ballot.highest).settledRead ⟨hstart, hstopped, rfl⟩
    obtain ⟨-, hsettle, -⟩ := hsettled
    rw [hread]
    exact .inl hsettle

end

end Sys2Proof.Machine

/-! Readiness, the settle timer and its expiry (R53 to R57). -/

namespace Sys2Proof

open Machine in
/-- Settles O24, by the parts of the event. -/
theorem highestBallotNeverFallsBack : Obligations.HighestBallotNeverFallsBack := by
  refine ⟨fun c s t h => ?_, fun s b => wouldReplace_iff s b⟩
  obtain ⟨straps, feedback, medium, rfl⟩ | hmoves := exec_started_or_moves h
  · exact .inr (.inr rfl)
  · have honward : Onward s.ballot.highest t := hmoves.keeps (fun _ _ hmove => hmove.keeps_onward) (.inl rfl)
    exact honward.imp_right .inl

namespace Machine

section
variable {s t u : State}

/-! ### The ten conditions -/

/-- What readiness asks of an entry (R53 conditions 5 to 9). -/
def State.entryReady (s : State) (e : RosterEntry) : Prop :=
  ((1 ≤ e.address ∧ e.address ≤ s.cfg.shared.size) ∨ e.address = 0 ∧ s.cfg.shared.gatewayRequired = true → e.state = .present) ∧
    (e.state = .present → ∀ x, e.summary = some x → x.holdCount = 0 ∧ x.lockoutSerial = 0) ∧
    (e.state = .present → (∀ x, e.summary = some x → x.digest = s.startup.digest) ∧
      (e.summary = none → ∀ x, e.announced = some x → x.digest = s.startup.digest)) ∧
    ((1 ≤ e.address ∧ e.address ≤ s.cfg.shared.size) → e.address ≠ s.own → ∃ x, e.summary = some x ∧ x.mode = .opened) ∧
    (s.cfg.shared.size < e.address → e.state = .vacant ∨ e.state = .lost)

theorem allPresent_iff : s.allPresent = true ↔ ∀ e ∈ s.roster.entries,
    (1 ≤ e.address ∧ e.address ≤ s.cfg.shared.size) ∨ e.address = 0 ∧ s.cfg.shared.gatewayRequired = true → e.state = .present := by
  rw [show s.cfg.shared.size = s.size from rfl]
  unfold State.allPresent State.isExpected State.isMember
  rw [List.all_eq_true]
  refine forall₂_congr fun e _ => ?_
  rw [Bool.or_eq_true, Bool.not_eq_true', Bool.or_eq_false_iff, Bool.and_eq_false_iff, decide_eq_false_iff_not, decide_eq_false_iff_not,
    decide_eq_true_eq, Bool.eq_false_iff]
  tauto

theorem countsClear_iff : s.countsClear = true ↔ (s.entry s.own).summary ≠ none ∧ ∀ e ∈ s.roster.entries,
    e.state = .present → ∀ x, e.summary = some x → x.holdCount = 0 ∧ x.lockoutSerial = 0 := by
  unfold State.countsClear
  rw [Bool.and_eq_true, List.all_eq_true, Option.isSome_iff_ne_none]
  refine and_congr Iff.rfl (forall₂_congr fun e _ => ?_)
  rw [Bool.or_eq_true, Bool.not_eq_true', decide_eq_false_iff_not, ← imp_iff_not_or]
  cases e.summary <;> simp

theorem digestsAgree_iff : s.digestsAgree = true ↔ ∀ e ∈ s.roster.entries, e.state = .present →
    (∀ x, e.summary = some x → x.digest = s.startup.digest) ∧
      (e.summary = none → ∀ x, e.announced = some x → x.digest = s.startup.digest) := by
  unfold State.digestsAgree
  rw [List.all_eq_true]
  refine forall₂_congr fun e _ => ?_
  rw [Bool.or_eq_true, Bool.not_eq_true', Bool.not_eq_true', decide_eq_false_iff_not, ← imp_iff_not_or, Bool.eq_false_iff, Ne,
    disagrees_iff]
  refine imp_congr_right fun _ => ?_
  push Not
  exact Iff.rfl

theorem membersOpen_iff : s.membersOpen = true ↔ ∀ e ∈ s.roster.entries, (1 ≤ e.address ∧ e.address ≤ s.cfg.shared.size) →
    e.address ≠ s.own → ∃ x, e.summary = some x ∧ x.mode = .opened := by
  rw [show s.cfg.shared.size = s.size from rfl]
  unfold State.membersOpen State.isMember
  rw [List.all_eq_true]
  refine forall₂_congr fun e _ => ?_
  rw [Bool.or_eq_true, Bool.not_eq_true', ← Bool.not_eq_true, ← imp_iff_not_or, Bool.and_eq_true, decide_eq_true_eq, decide_eq_true_eq,
    and_imp]
  cases e.summary <;> simp

theorem noStranger_iff : s.noStranger = true ↔ ∀ e ∈ s.roster.entries, s.cfg.shared.size < e.address →
    e.state = .vacant ∨ e.state = .lost := by
  unfold State.noStranger State.isStranger RosterEntry.heard State.size
  rw [List.all_eq_true]
  refine forall₂_congr fun e _ => ?_
  cases e.state <;> simp

/-- A station is ready under the ten conditions of R53. -/
theorem ready_iff : s.ready = true ↔ s.ballot.mode = .opened ∧ s.holds.own = [] ∧ s.holds.remote = [] ∧ s.missing = [] ∧
    s.allPresent = true ∧ s.countsClear = true ∧ s.digestsAgree = true ∧ s.membersOpen = true ∧ s.noStranger = true ∧
    s.ballot.highest.epoch < 4294967295 := by
  rw [show (4294967295 : Nat) = lastEpoch from rfl]
  simp [State.ready, and_assoc]

/-- The conditions on entries taken together; that none is missing follows. -/
theorem ready_iff_entries : s.ready = true ↔ s.ballot.mode = .opened ∧ s.holds.own = [] ∧ s.holds.remote = [] ∧
    (s.entry s.own).summary ≠ none ∧ (∀ e ∈ s.roster.entries, s.entryReady e) ∧ s.ballot.highest.epoch < 4294967295 := by
  rw [ready_iff, allPresent_iff, countsClear_iff, digestsAgree_iff, membersOpen_iff, noStranger_iff]
  constructor
  · rintro ⟨hmode, hown, hremote, -, hpresent, ⟨hsummary, hcounts⟩, hdigests, hopen, hstranger, hepoch⟩
    exact ⟨hmode, hown, hremote, hsummary, fun e he => ⟨hpresent e he, hcounts e he, hdigests e he, hopen e he, hstranger e he⟩, hepoch⟩
  · rintro ⟨hmode, hown, hremote, hsummary, hall, hepoch⟩
    refine ⟨hmode, hown, hremote, ?_, fun e he => (hall e he).1, ⟨hsummary, fun e he => (hall e he).2.1⟩, fun e he => (hall e he).2.2.1,
      fun e he => (hall e he).2.2.2.1, fun e he => (hall e he).2.2.2.2, hepoch⟩
    refine List.eq_nil_iff_forall_not_mem.2 fun m hm => ?_
    obtain ⟨e, he, rfl, hexpected, hstate⟩ := mem_missing.1 hm
    have hpresent := (hall e he).1 hexpected
    rw [hpresent] at hstate
    simp at hstate

theorem ready_congr (hmode : t.ballot.mode = s.ballot.mode) (hhighest : t.ballot.highest = s.ballot.highest)
    (hown : t.holds.own = s.holds.own) (hremote : t.holds.remote = s.holds.remote) (hroster : t.roster = s.roster)
    (hstartup : t.startup = s.startup) : t.ready = s.ready := by
  have hentry : (t.entry t.own).summary = (s.entry s.own).summary := by
    have haddress : t.own = s.own := congrArg StartSequence.address hstartup
    have hself : t.entry s.own = s.entry s.own := entry_congr (by rw [hroster]) _
    rw [haddress, hself]
  have hconditions : ∀ e, t.entryReady e ↔ s.entryReady e := fun e => by
    unfold State.entryReady State.cfg State.own
    rw [hstartup]
  rw [Bool.eq_iff_iff, ready_iff_entries, ready_iff_entries, hmode, hhighest, hown, hremote, hroster, hentry]
  simp only [hconditions]

/-! ### The settle timer at the end of an event -/

/-- Every command ends as an event ends (log 13). -/
theorem exec_ends (c : Instr) (s : State) : ∃ v, exec c s = .next (endEvent s v) := by
  cases c <;> exact ⟨_, rfl⟩

theorem endEvent_settle (before s : State) : (endEvent before s).ballot.settle = (settleReadiness before s).ballot.settle := by
  unfold endEvent
  rw [settleWait_ballot, forgetCounted_ballot]

theorem endEvent_ready (before s : State) : (endEvent before s).ready = s.ready :=
  ready_congr (by simp) (by simp) (by simp) (by simp) (by simp) (by simp)

theorem settleReadiness_settle_of_not_ready (before : State) (h : s.ready = false) : (settleReadiness before s).ballot.settle = .stopped := by
  unfold settleReadiness
  rw [if_neg (by simp [h])]
  rfl

theorem settleReadiness_of_still_ready {before : State} (hbefore : before.ready = true) (h : s.ready = true) :
    settleReadiness before s = s := by
  unfold settleReadiness
  rw [if_pos h, if_neg (by simp [hbefore])]

theorem settleReadiness_settle_of_auto {before : State} (hbefore : before.ready = false) (h : s.ready = true)
    (hauto : s.cfg.shared.policy = .auto) : (settleReadiness before s).ballot.settle = Timer.startMs s.cfg.shared.settleTime := by
  unfold settleReadiness
  rw [if_pos h, if_pos (by simp [hbefore, hauto])]
  rfl

/-- An event after which the station is as ready as before keeps its settle timer. -/
theorem endEvent_settle_of_still_ready {before : State} (hbefore : before.ready = true) (h : s.ready = true) :
    (endEvent before s).ready = true ∧ (endEvent before s).ballot.settle = s.ballot.settle := by
  rw [endEvent_ready, endEvent_settle, settleReadiness_of_still_ready hbefore h]
  exact ⟨h, rfl⟩

/-- From s to t no block changed that readiness reads. -/
def SameInputs (s t : State) : Prop := t.ballot = s.ballot ∧ t.holds = s.holds ∧ t.roster = s.roster ∧ t.startup = s.startup

theorem expireSweepTimer_sameInputs (s : State) : SameInputs s (expireSweepTimer s) := by
  unfold SameInputs expireSweepTimer
  dsimp only
  repeat' split
  all_goals simp

theorem changeFeedback_sameInputs (l : SwitchPos) (s : State) : SameInputs s (changeFeedback l s) := by
  unfold SameInputs changeFeedback
  dsimp only
  repeat' split
  all_goals simp

theorem expireAccessWait_sameInputs (s : State) : SameInputs s (expireAccessWait s) := by
  obtain ⟨l, hl⟩ := expireAccessWait_eq_setLink s
  rw [hl]
  exact ⟨rfl, rfl, rfl, rfl⟩

/-- An event that changes no input of readiness keeps the settle timer of a ready station. -/
theorem event_keeps_settle {f : State → State} (hs : s.ready = true) (hinputs : SameInputs s (f s)) :
    ∃ t, event f s = .next t ∧ t.ready = true ∧ t.ballot.settle = s.ballot.settle := by
  obtain ⟨hballot, hholds, hroster, hstartup⟩ := hinputs
  have hready : (f s).ready = true := by
    rw [ready_congr (by rw [hballot]) (by rw [hballot]) (by rw [hholds]) (by rw [hholds]) hroster hstartup, hs]
  obtain ⟨h, hsettle⟩ := endEvent_settle_of_still_ready hs hready
  exact ⟨_, event_eq_next f s, h, by rw [hsettle, hballot]⟩

/-! ### A TALLY that agrees with a ready station -/

/-- The entry of an address is the only one (R1). -/
theorem RosterShaped.eq_entry (h : RosterShaped s) {a : Nat} (ha : a ≤ 24) {e : RosterEntry} (he : e ∈ s.roster.entries)
    (haddress : e.address = a) : e = s.entry a := by
  obtain ⟨hmem, hself⟩ := h.mem_entries ha
  have hnodup : (s.roster.entries.map fun e => e.address).Nodup := by
    rw [h]
    decide
  exact List.inj_on_of_nodup_map hnodup he hmem (haddress.trans hself.symm)

/-- A ready station stays ready, and its settle timer as it is, when an entry changes to one that readiness allows. -/
theorem updateEntry_ready (hs : s.ready = true) {a : Nat} {f : RosterEntry → RosterEntry}
    (haddress : ∀ e : RosterEntry, (f e).address = e.address)
    (hsummary : ∀ e : RosterEntry, e.summary ≠ none → (f e).summary ≠ none)
    (hf : ∀ e ∈ s.roster.entries, e.address = a → s.entryReady e → s.entryReady (f e)) :
    (s.updateEntry a f).ready = true ∧ (s.updateEntry a f).ballot.settle = s.ballot.settle := by
  obtain ⟨w, hw⟩ : ∃ w, w = s.setRoster { s.roster with
      entries := s.roster.entries.map fun e => if e.address = a then f e else e } := ⟨_, rfl⟩
  have hupdated : s.updateEntry a f = settleReadiness s w := by rw [hw]; rfl
  have hready : w.ready = true := by
    obtain ⟨hmode, hown, hremote, hself, hall, hepoch⟩ := ready_iff_entries.1 hs
    rw [ready_iff_entries, hw]
    refine ⟨hmode, hown, hremote, ?_, fun e he => ?_, hepoch⟩
    · have hentry := updateEntry_entry s haddress (a := a) s.own
      have hsame : (s.updateEntry a f).entry s.own = w.entry s.own := entry_congr (by rw [hupdated, settleReadiness_roster]) _
      rw [← hw]
      have hown' : w.own = s.own := by rw [hw]; rfl
      rw [hown', ← hsame, hentry]
      unfold State.entry at hself
      cases hfind : s.roster.entries.find? (fun e => decide (e.address = s.own)) with
      | none => rw [hfind] at hself; exact absurd rfl hself
      | some e =>
        rw [hfind] at hself
        rw [Option.map_some, Option.getD_some]
        split
        · exact hsummary e hself
        · exact hself
    · obtain ⟨x, hx, rfl⟩ := List.mem_map.1 he
      have hxready : s.entryReady x := hall x hx
      show s.entryReady _
      split
      · next hxa => exact hf x hx hxa hxready
      · exact hxready
  rw [hupdated, settleReadiness_of_still_ready hs hready]
  exact ⟨hready, by rw [hw]; rfl⟩

theorem liftHold_of_no_own (c : Cause) (i : Option Nat) (h : s.holds.own = []) : liftHold c i s = s := by
  refine liftHold_of_absent ?_
  unfold State.ownHold
  rw [h]
  rfl

theorem judgeDiscord_of_calm (hown : s.holds.own = []) (hdiscord : s.discord = false) : judgeDiscord s = s := by
  unfold judgeDiscord
  rw [hdiscord, if_neg Bool.false_ne_true, liftHold_of_no_own _ _ hown, ite_self]

theorem judgeView_of_calm (hown : s.holds.own = []) (hclear : ClearView s) : judgeView s = s := by
  obtain ⟨hmissing, hdiscord⟩ := hclear
  have hlink : judgeLink s = s := by
    unfold judgeLink
    rw [hmissing, List.isEmpty_nil, if_pos rfl, liftHold_of_no_own _ _ hown, ite_self]
  unfold judgeView
  rw [hlink, judgeDiscord_of_calm hown hdiscord]

theorem presentState_told (hshaped : RosterShaped s) {a : Nat} (ha : a ≤ 24) (hpresent : (s.entry a).state = .present) :
    (presentState a s).roster.entries.map RosterEntry.told = s.roster.entries.map RosterEntry.told := by
  unfold presentState
  rw [updateEntry_entries, List.map_map]
  refine List.map_congr_left fun e he => ?_
  show RosterEntry.told (if e.address = a then _ else e) = e.told
  split
  · next haddress =>
    have hstate : e.state = .present := by rw [hshaped.eq_entry ha he haddress, hpresent]
    unfold RosterEntry.told
    rw [hstate]
  · rfl

theorem presentState_ready (hs : s.ready = true) (hshaped : RosterShaped s) {a : Nat} (ha : a ≤ 24)
    (hpresent : (s.entry a).state = .present) :
    (presentState a s).ready = true ∧ (presentState a s).ballot.settle = s.ballot.settle := by
  refine updateEntry_ready hs (f := fun e => { e with state := .present, age := 0 }) (fun _ => rfl) (fun _ h => h)
    fun e he haddress hready => ?_
  have hstate : e.state = .present := by rw [hshaped.eq_entry ha he haddress, hpresent]
  unfold State.entryReady at hready ⊢
  rwa [hstate] at hready

theorem summaryTaken_ready (hs : s.ready = true) {a : Nat} {x : Summary} (was : Bool) (hmode : x.mode = .opened)
    (hcount : x.holdCount = 0) (hserial : x.lockoutSerial = 0) (hdigest : x.digest = s.startup.digest) :
    (summaryTaken a x was s).ready = true ∧ (summaryTaken a x was s).ballot.settle = s.ballot.settle := by
  refine updateEntry_ready hs (f := fun e => { e with summary := some x, recallPending := if was then false else e.recallPending })
    (fun _ => rfl) (fun _ _ => by simp) fun e _ _ hready => ?_
  obtain ⟨hpresent, -, -, -, hstranger⟩ := hready
  refine ⟨hpresent, fun _ y hy => ?_, fun _ => ⟨fun y hy => ?_, nofun⟩, fun _ _ => ⟨x, rfl, hmode⟩, hstranger⟩
  · cases hy
    exact ⟨hcount, hserial⟩
  · cases hy
    exact hdigest

/-- A TALLY that shows no hold, from where none is recorded, and no superseding ballot changes only its sender's summary. -/
theorem takeTally_of_agreeing {a : Nat} {x : Summary} (was : Bool) (hmode : s.ballot.mode = .opened) (hremote : s.holds.remote = [])
    (hcount : x.holdCount = 0) (hreplace : s.wouldReplace x.ballot = false) : takeTally a x was s = summaryTaken a x was s := by
  have hreconciled : tallyReconciled a x was s = summaryTaken a x was s := by
    refine reconcile_of_equal _ ?_
    rw [summaryTaken_holds, hremote, hcount]
    rfl
  have hhighest : (summaryTaken a x was s).ballot.highest = s.ballot.highest := by simp [summaryTaken]
  have hopen : (summaryTaken a x was s).ballot.mode ≠ .closed := by simp [summaryTaken, hmode]
  rw [takeTally_eq, hreconciled, offer_of_not_replacing _ _ ((wouldReplace_congr hhighest _).trans hreplace),
    confirmOffer_of_not_closed hopen, ite_self]

/-- The state in which an agreeing TALLY of a PRESENT sender leaves a ready station, before the end of the event. -/
theorem agreeing_tally (hshaped : RosterShaped s) {a : Nat} {x : Summary} (ha : a ≤ 24) (hs : s.ready = true) (hdiscord : s.discord = false)
    (hpresent : (s.entry a).state = .present) (hmode : x.mode = .opened) (hcount : x.holdCount = 0) (hserial : x.lockoutSerial = 0)
    (hdigest : x.digest = s.startup.digest) (hreplace : s.wouldReplace x.ballot = false) :
    (judgeView (takeTally a x (s.entry a).recallPending (heardState a s))).ready = true ∧
      (judgeView (takeTally a x (s.entry a).recallPending (heardState a s))).ballot.settle = s.ballot.settle := by
  obtain ⟨hroster, hholds, hstartup, hballot, -⟩ := lineHeard_frame a s
  have hline : (lineHeard a s).ready = true := by
    rw [ready_congr (by rw [hballot]) (by rw [hballot]) (by rw [hholds]) (by rw [hholds]) hroster hstartup, hs]
  have hlineShaped : RosterShaped (lineHeard a s) := by unfold RosterShaped; rw [hroster]; exact hshaped
  have hlinePresent : ((lineHeard a s).entry a).state = .present :=
    (congrArg RosterEntry.state (entry_congr (by rw [hroster]) a)).trans hpresent
  obtain ⟨hready, hsettle⟩ := presentState_ready hline hlineShaped ha hlinePresent
  obtain ⟨v, hv⟩ : ∃ v, v = presentState a (lineHeard a s) := ⟨_, rfl⟩
  rw [← hv] at hready hsettle
  obtain ⟨hvmode, hvown, hvremote, -⟩ := ready_iff.1 hready
  have hvstartup : v.startup = s.startup := by rw [hv, presentState, State.updateEntry_startup, hstartup]
  have hvdiscord : v.discord = false := by
    have htold := presentState_told hlineShaped ha hlinePresent
    have hpresented : (presentState a (lineHeard a s)).startup = (lineHeard a s).startup := State.updateEntry_startup _ _ _
    rw [hv, discord_of_told hpresented htold, discord_congr (by rw [hroster]) hstartup, hdiscord]
  have hheard : heardState a s = v := by
    have hstranger : ((lineHeard a s).entry a).state ≠ .vacant ∧ ((lineHeard a s).entry a).state ≠ .lost ∨ a = 0 := by
      rw [hlinePresent]
      exact .inl (by decide)
    rw [heardState_eq, hear_of_stranger hstranger, ← hv, judgeDiscord_of_calm hvown hvdiscord]
  have hvhighest : v.ballot.highest = s.ballot.highest := by rw [← hheard]; exact heardState_ballot_highest a s
  rw [hheard, takeTally_of_agreeing _ hvmode hvremote hcount ((wouldReplace_congr hvhighest _).trans hreplace)]
  obtain ⟨htaken, hkept⟩ := summaryTaken_ready (a := a) hready (s.entry a).recallPending hmode hcount hserial (by rw [hvstartup, hdigest])
  have htakenDiscord := summaryTaken_discord (a := a) (s.entry a).recallPending hvdiscord (c := x) (by rw [hvstartup, hdigest])
  obtain ⟨-, htakenOwn, -, htakenMissing, -⟩ := ready_iff.1 htaken
  rw [judgeView_of_calm htakenOwn ⟨htakenMissing, htakenDiscord⟩]
  exact ⟨htaken, by rw [hkept, hsettle, hballot]⟩

end

end Machine

open Machine in
/-- Settles O25, by the judgement of readiness that ends every event. -/
theorem settleTimerFollowsReadiness : Obligations.SettleTimerFollowsReadiness := by
  refine ⟨fun s => ?_, fun s l o hs c hc => ?_, fun a x s hvalid htakes hshaped hs hdiscord hpresent _ hmode hcount hserial hdigest hreplace => ?_,
    fun c s t h => ?_⟩
  · intro member
    rw [ready_iff, allPresent_iff, countsClear_iff, digestsAgree_iff, membersOpen_iff, noStranger_iff]
  · simp only [List.mem_cons, List.not_mem_nil, or_false] at hc
    rcases hc with rfl | rfl | rfl | rfl | rfl | rfl | rfl
    · exact event_keeps_settle (f := hearFrameStart) hs ⟨rfl, rfl, rfl, rfl⟩
    · exact event_keeps_settle (f := lineQuiet) hs ⟨lineQuiet_ballot s, lineQuiet_holds s, lineQuiet_roster s, lineQuiet_startup s⟩
    · exact event_keeps_settle (f := expireSweepTimer) hs (expireSweepTimer_sameInputs s)
    · exact event_keeps_settle (f := changeFeedback l) hs (changeFeedback_sameInputs l s)
    · exact event_keeps_settle (f := expireAccessWait) hs (expireAccessWait_sameInputs s)
    · exact event_keeps_settle (f := completeActive o) hs
        ⟨completeActive_ballot o s, completeActive_holds o s, completeActive_roster o s, completeActive_startup o s⟩
    · exact event_keeps_settle (f := completeConfig o) hs
        ⟨completeConfig_ballot o s, completeConfig_holds o s, completeConfig_roster o s, completeConfig_startup o s⟩
  · obtain ⟨hready, hsettle⟩ := agreeing_tally hshaped (sender_le_of_frameValid hvalid) hs hdiscord hpresent hmode hcount hserial hdigest hreplace
    obtain ⟨h, hkept⟩ := endEvent_settle_of_still_ready hs hready
    exact ⟨_, exec_frameTaken hvalid htakes, h, hkept.trans hsettle⟩
  · obtain ⟨v, hv⟩ := exec_ends c s
    have hends : t = endEvent s v := by
      rw [hv] at h
      exact (Host.Outcome.next.inj h).symm
    refine ⟨fun hnot => ?_, fun hbefore hready hauto => ?_, fun _ _ hordered hstopped => ?_⟩
    · rw [hends, endEvent_ready] at hnot
      rw [hends, endEvent_settle, settleReadiness_settle_of_not_ready s hnot]
    · have hcfg : t.cfg = v.cfg := cfg_congr (by rw [hends, endEvent_startup])
      rw [hcfg] at hauto
      rw [hends, endEvent_ready] at hready
      rw [hcfg, hends, endEvent_settle, settleReadiness_settle_of_auto hbefore hready hauto]
    · obtain ⟨straps, feedback, medium, rfl⟩ | hmoves := exec_started_or_moves h
      · rfl
      · have hunder : SettlesUnderAuto t := hmoves.keeps (fun _ _ hmove => hmove.keeps_settlesUnderAuto) (.inl hstopped)
        exact hunder.resolve_right fun ⟨hauto, _⟩ => by cases hordered.symm.trans hauto

end Sys2Proof

/-! The settle timer's expiry (R55 to R57). -/

namespace Sys2Proof.Machine

section
variable {s t : State}

theorem not_party_of_open (h : s.ballot.mode = .opened) : ¬ s.isParty := by
  unfold State.isParty
  rw [h]
  decide

/-- What proposing makes of the record of an OPEN station (R57). -/
theorem propose_ballot_of_open (hmode : s.ballot.mode = .opened) :
    (propose s).ballot =
      { s.ballot with
        mode := .pledged, current := some s.nextBallot, role := .proposer, votes := [s.own], commitClaimed := false,
        highest := (offer s.nextBallot s).ballot.highest, settle := .stopped,
        proposal := Timer.startMs s.cfg.shared.proposalTime } := by
  have hoffered : BallotStays s (offer s.nextBallot s) := (offer_yields _ s).stays (not_party_of_open hmode)
  have hproposer : (proposerState s).ballot.mode = .opened := hoffered.mode.trans hmode
  rw [propose_eq, State.setBallot_ballot, pledgedProposer, setMode_pledged_claim_ballot _ hproposer, proposerState,
    State.setBallot_ballot, hoffered.record]

/-- The next epoch under an address of a station supersedes the highest ballot seen (R50, R51). -/
theorem wouldReplace_nextBallot (h : s.addressed = true) : s.wouldReplace s.nextBallot = true := by
  have haddress : 1 ≤ s.own ∧ s.own ≤ 24 := of_decide_eq_true h
  refine (wouldReplace_iff _ _).2 ⟨Nat.le_add_left _ _, haddress, ?_⟩
  rw [supersedes_iff]
  exact .inl (Nat.lt_succ_self _)

theorem propose_queued (hmode : s.ballot.mode = .opened) (hroom : Roomy 1 s) :
    Queued (propose s) (.propose s.nextBallot s.size s.startup.digest) := by
  have hoffered : BallotStays s (offer s.nextBallot s) := (offer_yields _ s).stays (not_party_of_open hmode)
  have hroomy : Roomy 1 (offer s.nextBallot s) := (offer_fills _ s).roomy hroom
  have howed : (proposerState s).owed = 0 := owed_of_mode (by
    show (offer s.nextBallot s).ballot.mode ≠ .pledged
    rw [hoffered.mode, hmode]
    decide)
  have hfills : Fills 0 (offer s.nextBallot s) (proposerState s) := .of_same rfl rfl (by rw [howed]; exact Nat.zero_le _)
  have hproposer : Roomy (0 + 1) (proposerState s) := hfills.roomy hroomy
  have hclaimed := hproposer.claim_queued (.propose s.nextBallot s.size s.startup.digest)
  refine hclaimed.of_link ?_
  rw [propose_eq]
  show (pledgedProposer s).link.queue = _
  unfold pledgedProposer
  rw [setMode_link]

/-- The settle timer stopped by its expiry (R55). -/
def settleStopped (s : State) : State := s.setBallot { s.ballot with settle := .stopped }

/-- The station is to propose at the expiry (R55, R56). -/
def State.proposes (s : State) : Prop := s.cfg.shared.policy = .auto ∧ s.ready = true ∧ s.ballot.highest.epoch % s.size + 1 = s.own

theorem settleStopped_ready (s : State) : (settleStopped s).ready = s.ready := ready_congr rfl rfl rfl rfl rfl rfl

theorem expireSettleTimer_of_proposes (hrunning : s.ballot.settle.isRunning = true) (h : s.proposes) :
    expireSettleTimer s = propose (settleStopped s) := by
  obtain ⟨hauto, hready, hduty⟩ := h
  unfold expireSettleTimer
  rw [if_pos hrunning]
  exact if_pos ⟨hauto, (settleStopped_ready s).trans hready, hduty⟩

theorem expireSettleTimer_of_not_proposes (hrunning : s.ballot.settle.isRunning = true) (h : ¬ s.proposes) :
    expireSettleTimer s = settleStopped s := by
  unfold expireSettleTimer
  rw [if_pos hrunning]
  exact if_neg fun ⟨hauto, hready, hduty⟩ => h ⟨hauto, (settleStopped_ready s).symm.trans hready, hduty⟩

theorem endEvent_settle_of_not_open (before : State) (h : s.ballot.mode ≠ .opened) : (endEvent before s).ballot.settle = .stopped := by
  rw [endEvent_settle, settleReadiness_settle_of_not_ready before (ready_eq_false_of_mode h)]

/-- An expiry without a proposal leaves the timer stopped. -/
theorem endEvent_settleStopped (s : State) : (endEvent s (settleStopped s)).ballot.settle = .stopped := by
  cases hready : s.ready with
  | false => rw [endEvent_settle, settleReadiness_settle_of_not_ready s ((settleStopped_ready s).trans hready)]
  | true =>
    obtain ⟨-, hsettle⟩ := endEvent_settle_of_still_ready hready ((settleStopped_ready s).trans hready)
    rw [hsettle]
    rfl

end

/-- Settles O26, by whether the station is to propose. -/
theorem settleExpiryProposesOnDuty : Obligations.SettleExpiryProposesOnDuty := by
  intro s hrunning
  refine ⟨_, event_eq_next expireSettleTimer s, ?_⟩
  by_cases hproposes : s.proposes
  · have hopen : (settleStopped s).ballot.mode = .opened := ready_mode hproposes.2.1
    have hballot := propose_ballot_of_open hopen
    have hpledged : (propose (settleStopped s)).ballot.mode = .pledged := by rw [hballot]
    rw [expireSettleTimer_of_proposes hrunning hproposes]
    refine ⟨endEvent_settle_of_not_open s (by rw [hpledged]; decide), fun _ _ haddressed _ => ?_, fun hnot => ?_, ?_, ?_, ?_⟩
    · have hreplace : (settleStopped s).wouldReplace (settleStopped s).nextBallot = true := wouldReplace_nextBallot haddressed
      have hhighest : (propose (settleStopped s)).ballot.highest = (settleStopped s).nextBallot := by
        rw [hballot]
        dsimp only
        rw [offer_highest, if_pos hreplace]
      refine ⟨by simp [hballot], ?_, by simp [hballot], ?_, by simp [hballot], ?_, ?_, fun hroom => ?_⟩
      · rw [endEvent_ballot_current, hballot]
        rfl
      · rw [endEvent_ballot_votes, hballot]
        rfl
      · rw [endEvent_ballot_highest, hhighest]
        rfl
      · rw [endEvent_ballot_proposal, hballot]
        rfl
      · have howed : (settleStopped s).owed = 0 := owed_of_mode (by rw [hopen]; decide)
        have hroomy : Roomy 1 (settleStopped s) := by
          obtain ⟨hmute, hlength⟩ := hroom.roomy.mono (show 1 ≤ 2 by decide)
          refine ⟨hmute, ?_⟩
          rw [howed]
          exact le_trans (Nat.add_le_add_right (Nat.add_le_add_left (Nat.zero_le _) _) _) hlength
        exact (propose_queued hopen hroomy).of_link (endEvent_link_queue ..)
    · obtain ⟨hauto, hready, hduty⟩ := hproposes
      rcases hnot with hno | hno | hno
      · cases hno.symm.trans hready
      · cases hno.symm.trans hauto
      · exact absurd hduty hno
    · simp [settleStopped]
    · simp [settleStopped]
    · simp [settleStopped]
  · rw [expireSettleTimer_of_not_proposes hrunning hproposes]
    refine ⟨endEvent_settleStopped s, fun hauto hready _ hduty => absurd ⟨hauto, hready, hduty⟩ hproposes, fun _ => ?_, ?_, ?_, ?_⟩
    · simp [settleStopped]
    · simp [settleStopped]
    · simp [settleStopped]
    · simp [settleStopped]

end Sys2Proof.Machine

/-! The tally timer's expiry (R13 to R15). -/

namespace Sys2Proof.Machine

section
variable {s t : State}

/-! ### The age tick -/

/-- Ageing an entry, with its three outcomes written out (R14). -/
theorem RosterEntry.aged_eq (lostAge : Nat) (e : RosterEntry) :
    e.aged lostAge =
      if e.state = .vacant ∨ e.state = .lost then e
      else if lostAge ≤ e.age + 1 then
        { e with state := .lost, age := lostAge, summary := none, recallPending := false, confirmed := false }
      else if e.age + 1 < 2 then { e with state := .present, age := e.age + 1 }
      else { e with state := .stale, age := e.age + 1 } := by
  have hheard : e.heard = true ↔ ¬(e.state = .vacant ∨ e.state = .lost) := by
    unfold RosterEntry.heard
    cases e.state <;> decide
  unfold RosterEntry.aged
  by_cases h : e.heard = true
  · rw [if_pos h, if_neg (hheard.1 h)]
    split
    · rfl
    · split <;> rfl
  · rw [if_neg h, if_pos (not_not.1 (mt hheard.2 h))]

theorem RosterEntry.aged_address (lostAge : Nat) (e : RosterEntry) : (e.aged lostAge).address = e.address := by
  unfold RosterEntry.aged
  split
  · split <;> rfl
  · rfl

/-- An entry that was heard is LOST after the tick at the LOST age only. -/
theorem RosterEntry.lostAge_le_of_aged_lost {lostAge : Nat} {e : RosterEntry} (hheard : e.heard = true)
    (h : (e.aged lostAge).state = .lost) : lostAge ≤ e.age + 1 := by
  by_contra hyoung
  unfold RosterEntry.aged at h
  rw [if_pos hheard, if_neg hyoung] at h
  dsimp only at h
  split at h <;> cases h

theorem ageTick_roster (s : State) :
    (ageTick s).roster =
      { s.roster with entries := s.roster.entries.map fun e => if e.address = s.own then e else e.aged s.cfg.shared.lostAge } := by
  unfold ageTick
  rw [State.changeHolds_roster, State.changeRoster_roster]

theorem ageTick_remote (s : State) :
    (ageTick s).holds.remote = s.holds.remote.filter fun h => !s.losing.contains h.origin := by
  unfold ageTick
  rw [State.changeHolds_holds, State.changeRoster_holds]

/-- The address of an entry that the tick makes LOST is purged. -/
theorem mem_losing {e : RosterEntry} (he : e ∈ s.roster.entries) (hother : e.address ≠ s.own) (hheard : e.heard = true)
    (hlost : (e.aged s.cfg.shared.lostAge).state = .lost) : e.address ∈ s.losing := by
  unfold State.losing
  refine List.mem_map.2 ⟨e, List.mem_filter.2 ⟨he, ?_⟩, rfl⟩
  rw [decide_eq_true hother, hheard, decide_eq_true (RosterEntry.lostAge_le_of_aged_lost hheard hlost)]
  rfl

theorem ageTick_purged {e : RosterEntry} (he : e ∈ (ageTick s).roster.entries) (hother : e.address ≠ s.own) (hlost : e.state = .lost)
    (hheard : ∀ d ∈ s.roster.entries, d.address = e.address → d.state = .present ∨ d.state = .stale) :
    ∀ r ∈ (ageTick s).holds.remote, r.origin ≠ e.address := by
  rw [ageTick_roster] at he
  obtain ⟨d, hd, rfl⟩ := List.mem_map.1 he
  have haddress : (if d.address = s.own then d else d.aged s.cfg.shared.lostAge).address = d.address := by
    split
    · rfl
    · exact d.aged_address _
  rw [haddress] at hother hheard ⊢
  rw [if_neg hother] at hlost
  have hd' : d.heard = true := by
    unfold RosterEntry.heard
    rcases hheard d hd rfl with h | h <;> simp [h]
  intro r hr horigin
  rw [ageTick_remote] at hr
  have hkept := (List.mem_filter.1 hr).2
  rw [horigin, List.contains_iff_mem.2 (mem_losing hd hother hd' hlost)] at hkept
  cases hkept

theorem ageTick_fills (s : State) : Fills 0 s (ageTick s) :=
  .of_blocks (by simp) (by simp) (by simp) (by simp)

/-! ### The expiries counted -/

theorem countExpiry_of_third (h : s.roster.expiries = 2) :
    countExpiry s = deliverJoinComplete (s.changeRoster { s.roster with expiries := 3, joinComplete := true }) := if_pos h

theorem countExpiry_of_other (h : s.roster.expiries ≠ 2) :
    countExpiry s = s.setRoster { s.roster with expiries := min 3 (s.roster.expiries + 1) } := if_neg h

theorem deliverJoinComplete_roster (s : State) : (deliverJoinComplete s).roster = s.roster := by
  unfold deliverJoinComplete
  split
  · exact setMode_roster ..
  · rfl

theorem deliverJoinComplete_mode (s : State) :
    (deliverJoinComplete s).ballot.mode = if s.ballot.mode = .join then .opened else s.ballot.mode := by
  unfold deliverJoinComplete
  split
  · exact setMode_mode ..
  · rfl

theorem countExpiry_roster (s : State) :
    (countExpiry s).roster =
      { s.roster with
        expiries := min 3 (s.roster.expiries + 1), joinComplete := s.roster.joinComplete || decide (s.roster.expiries = 2) } := by
  by_cases h : s.roster.expiries = 2
  · rw [countExpiry_of_third h, deliverJoinComplete_roster, State.changeRoster_roster, h]
    simp
  · rw [countExpiry_of_other h, State.setRoster_roster, decide_eq_false h, Bool.or_false]

/-- What no join complete touches. -/
theorem countExpiry_kept (s : State) :
    (countExpiry s).holds = s.holds ∧ (countExpiry s).plan = s.plan ∧ (countExpiry s).sweep = s.sweep ∧
      (countExpiry s).lockout = s.lockout ∧ (countExpiry s).orders = s.orders ∧ (countExpiry s).startup = s.startup := by
  unfold countExpiry deliverJoinComplete
  split
  · split <;> simp
  · simp

theorem countExpiry_fills (s : State) : Fills 0 s (countExpiry s) := by
  by_cases h : s.roster.expiries = 2
  · have hcomplete : Fills 0 s (s.changeRoster { s.roster with expiries := 3, joinComplete := true }) :=
      .of_blocks (by simp) (by simp) (by simp) (by simp)
    rw [countExpiry_of_third h]
    unfold deliverJoinComplete
    split
    · exact hcomplete.then_none (setMode_fills (by decide) _)
    · exact hcomplete
  · rw [countExpiry_of_other h]
    exact .of_blocks rfl rfl rfl rfl

theorem countExpiry_opens (hexpiries : s.roster.expiries = 2) (hmode : s.ballot.mode = .join) :
    (countExpiry s).ballot.mode = .opened := by
  rw [countExpiry_of_third hexpiries, deliverJoinComplete_mode, if_pos (by rw [State.changeRoster_ballot_mode]; exact hmode)]

/-! ### The expiry -/

theorem judgeLink_stands_link (h : s.roster.joinComplete = true) : (judgeLink s).stands .link = true ↔ s.missing ≠ [] := by
  unfold judgeLink
  rw [if_pos h]
  split
  · next hempty => exact iff_of_false (by rw [liftHold_stands_self]; decide) (by simpa using hempty)
  · next hempty => exact iff_of_true (raiseHold_stands_self _ _ _) (by simpa using hempty)

/-- The expiries are counted on the aged entries, after DISCORD has been judged on them (log 12). -/
def tallyCounted (s : State) : State := countExpiry (judgeDiscord (ageTick (startTally s)))

theorem expireTallyTimer_of_running (h : s.roster.tallyTimer.isRunning = true) :
    expireTallyTimer s = claim .tally (judgeLink (tallyCounted s)) := if_pos h

theorem startTally_aged_roster (s : State) :
    (ageTick (startTally s)).roster =
      { s.roster with
        tallyTimer := Timer.startMs s.cfg.shared.tallyPeriod
        entries := s.roster.entries.map fun e => if e.address = s.own then e else e.aged s.cfg.shared.lostAge } :=
  ageTick_roster (startTally s)

theorem tallyCounted_roster (s : State) :
    (tallyCounted s).roster =
      { s.roster with
        tallyTimer := Timer.startMs s.cfg.shared.tallyPeriod
        entries := s.roster.entries.map fun e => if e.address = s.own then e else e.aged s.cfg.shared.lostAge
        expiries := min 3 (s.roster.expiries + 1)
        joinComplete := s.roster.joinComplete || decide (s.roster.expiries = 2) } := by
  unfold tallyCounted
  rw [countExpiry_roster, judgeDiscord_roster, startTally_aged_roster]

theorem tallyCounted_remote (s : State) : (tallyCounted s).holds.remote = (ageTick (startTally s)).holds.remote := by
  obtain ⟨hholds, -⟩ := countExpiry_kept (judgeDiscord (ageTick (startTally s)))
  unfold tallyCounted
  rw [hholds, judgeDiscord_holds_remote]

theorem tallyCounted_kept (s : State) :
    (tallyCounted s).plan = s.plan ∧ (tallyCounted s).sweep = s.sweep ∧ (tallyCounted s).lockout = s.lockout ∧
      (tallyCounted s).orders = s.orders := by
  obtain ⟨-, hplan, hsweep, hlockout, horders, -⟩ := countExpiry_kept (judgeDiscord (ageTick (startTally s)))
  unfold tallyCounted
  rw [hplan, hsweep, hlockout, horders]
  simp

theorem tallyCounted_fills (s : State) : Fills 0 s (tallyCounted s) := by
  have hstarted : Fills 0 s (startTally s) := .of_blocks rfl rfl rfl rfl
  exact ((hstarted.then_none (ageTick_fills _)).then_none (judgeDiscord_fills _)).then_none (countExpiry_fills _)

theorem judgeLink_mode_of_open (h : s.ballot.mode = .opened) : (judgeLink s).ballot.mode = .opened :=
  ((judgeLink_yields s).stays (not_party_of_open h)).mode.trans h

theorem tallyCounted_opens (hexpiries : s.roster.expiries = 2) (hmode : s.ballot.mode = .join) :
    (tallyCounted s).ballot.mode = .opened := by
  have hexpiries' : (judgeDiscord (ageTick (startTally s))).roster.expiries = 2 := by
    rw [judgeDiscord_roster, startTally_aged_roster]
    exact hexpiries
  have hmode' : (ageTick (startTally s)).ballot.mode = .join := by
    rw [ageTick_ballot_mode, startTally_ballot]
    exact hmode
  refine countExpiry_opens hexpiries' ?_
  rw [judgeDiscord_mode_of_idle (by rw [hmode']; decide) (by rw [hmode']; decide)]
  exact hmode'

theorem endEvent_missing (before s : State) : (endEvent before s).missing = s.missing :=
  missing_congr (by simp) (by simp) (by simp)

end

/-- Settles O14: the roster's record is the tick's, and only the judgements of its two holds can open the station. -/
theorem tallyTimerExpiryAgesRoster : Obligations.TallyTimerExpiryAgesRoster := by
  intro s hrunning
  have hroster : (claim .tally (judgeLink (tallyCounted s))).roster = (tallyCounted s).roster := by
    rw [claim_roster, judgeLink_roster]
  have hremote : (claim .tally (judgeLink (tallyCounted s))).holds.remote = (ageTick (startTally s)).holds.remote := by
    rw [claim_holds, judgeLink_holds_remote, tallyCounted_remote]
  obtain ⟨hplan, hsweep, hlockout, horders⟩ := tallyCounted_kept s
  have hcounted := tallyCounted_roster s
  refine ⟨_, event_eq_next expireTallyTimer s, ?_⟩
  rw [expireTallyTimer_of_running hrunning]
  refine ⟨?_, ?_, fun e he hother hlost hheard => ?_, ?_, ?_, fun hexpiries hmode => ?_, fun hjoined => ?_, fun hmute hroom => ?_, ?_, ?_,
    ?_, ?_⟩
  · rw [endEvent_roster, hroster, hcounted]
  · rw [endEvent_roster, hroster, hcounted]
    refine List.map_congr_left fun e _ => ?_
    rw [e.aged_eq]
    by_cases hown : e.address = s.own
    · rw [if_pos hown, if_pos (.inl hown)]
    · simp only [hown, false_or, if_false]
  · rw [endEvent_roster, hroster, hcounted] at he
    rw [endEvent_holds, hremote]
    exact ageTick_purged (s := startTally s) (by rw [startTally_aged_roster]; exact he) hother hlost hheard
  · rw [endEvent_roster, hroster, hcounted]
  · rw [endEvent_roster, hroster, hcounted]
  · rw [endEvent_ballot_mode, claim_ballot]
    exact judgeLink_mode_of_open (tallyCounted_opens hexpiries hmode)
  · rw [endEvent_roster, hroster] at hjoined
    have hmissing : (claim .tally (judgeLink (tallyCounted s))).missing = (tallyCounted s).missing :=
      missing_congr (by rw [hroster]) (by rw [hroster]) (by simp)
    rw [endEvent_missing, hmissing, ← judgeLink_stands_link hjoined]
    unfold State.stands State.ownHold
    rw [endEvent_holds, claim_holds]
  · have hroomy : Roomy (0 + 1) s := by
      have := owed_le_one s
      have hcapacity : s.link.queue.length + 2 ≤ 8 := hroom
      exact ⟨hmute, by omega⟩
    have hjudged := ((tallyCounted_fills s).then_none (judgeLink_fills _)).roomy hroomy
    exact (hjudged.claim_queued .tally).of_link (endEvent_link_queue ..)
  · simp [hplan]
  · simp [hsweep]
  · simp [hlockout]
  · simp [horders]

end Sys2Proof.Machine

/-! The taking of an order (R198 to R205): how its command runs, and what settling its answer leaves. -/

namespace Sys2Proof.Machine

section
variable {s t u v : State} {number : Byte} {target extra : Nat} {kind : OrderKind} {r : OrderResult}
  {run : State → State × OrderResult} {broadcast : State → State}

/-! ### The command -/

/-- What the order handler makes of the state in which the gateway has been heard, with the roster's holds judged after it. -/
def orderTaken (take : State → State) (s : State) : State := endEvent s (judgeView (take (heardState 0 s)))

theorem event_order {fits : Bool} (hvalid : orderFrameValid target extra = true) (htakes : TakesFrom s 0) :
    event (orderArrives number target extra kind fits run broadcast) s =
      .next (orderTaken (takeOrder number target kind fits run broadcast) s) := by
  rw [event_eq_next]
  unfold orderArrives orderTaken
  rw [hvalid, arrive_taken 0 _ s htakes.2 htakes.1]

theorem orderFrameValid_of_le (htarget : target ≤ 31) (hextra : extra ≤ 29) : orderFrameValid target extra = true := by
  unfold orderFrameValid
  rw [decide_eq_true htarget, decide_eq_true (by omega : 3 + extra ≤ 32)]
  rfl

/-- The order is new to the state in which the gateway has been heard. -/
theorem TakesNewOrder.heard (h : TakesNewOrder s number target) :
    target = (heardState 0 s).own ∧ ∀ m, (heardState 0 s).orders.memory = some m → m.number ≠ number := by
  obtain ⟨-, htarget, -, hmemory⟩ := h
  rw [heardState_own_eq, heardState_orders]
  exact ⟨htarget, hmemory⟩

theorem takeOrder_heard_new (h : TakesNewOrder s number target) :
    takeOrder number target kind true run broadcast (heardState 0 s) =
      settleOrder number kind (run (heardState 0 s)).2 (run (heardState 0 s)).1 := by
  obtain ⟨htarget, hmemory⟩ := h.heard
  rw [htarget, takeOrder_new number kind run broadcast _ hmemory]

theorem takeOrder_heard_unfit (h : TakesNewOrder s number target) :
    takeOrder number target kind false run broadcast (heardState 0 s) = settleOrder number kind .bad (heardState 0 s) := by
  obtain ⟨htarget, hmemory⟩ := h.heard
  rw [htarget, takeOrder_unfit number kind run broadcast _ hmemory]

theorem takeOrder_heard_broadcast (h : s.own ≠ 31) (fits : Bool) :
    takeOrder number 31 kind fits run broadcast (heardState 0 s) =
      if fits = true then broadcast (heardState 0 s) else heardState 0 s :=
  takeOrder_broadcast number kind fits run broadcast _ (by rwa [heardState_own_eq])

/-! ### What answering leaves -/

/-- From s to t only the order handler, the transmit queue with its wait, and the counter of free values have changed. -/
structure Answers (s t : State) : Prop where
  clock : t.clock = s.clock
  startup : t.startup = s.startup
  sweep : t.sweep = s.sweep
  monitors : t.monitors = s.monitors
  holds : t.holds = s.holds
  roster : t.roster = s.roster
  ballot : t.ballot = s.ballot
  plan : t.plan = s.plan
  switch : t.switch = s.switch
  lockout : t.lockout = s.lockout
  store : t.store = s.store
  sending : t.link.sending = s.link.sending
  mute : t.link.mute = s.link.mute

theorem Answers.refl (s : State) : Answers s s := ⟨rfl, rfl, rfl, rfl, rfl, rfl, rfl, rfl, rfl, rfl, rfl, rfl, rfl⟩

theorem Answers.trans (h : Answers s t) (h' : Answers t u) : Answers s u where
  clock := h'.clock.trans h.clock
  startup := h'.startup.trans h.startup
  sweep := h'.sweep.trans h.sweep
  monitors := h'.monitors.trans h.monitors
  holds := h'.holds.trans h.holds
  roster := h'.roster.trans h.roster
  ballot := h'.ballot.trans h.ballot
  plan := h'.plan.trans h.plan
  switch := h'.switch.trans h.switch
  lockout := h'.lockout.trans h.lockout
  store := h'.store.trans h.store
  sending := h'.sending.trans h.sending
  mute := h'.mute.trans h.mute

theorem setOrders_answers (x : OrderHandler) (s : State) : Answers s (s.setOrders x) :=
  ⟨rfl, rfl, rfl, rfl, rfl, rfl, rfl, rfl, rfl, rfl, rfl, rfl, rfl⟩

theorem setFree_answers (n : Nat) (s : State) : Answers s (s.setFree n) :=
  ⟨rfl, rfl, rfl, rfl, rfl, rfl, rfl, rfl, rfl, rfl, rfl, rfl, rfl⟩

theorem claim_answers (x : Claim) (s : State) : Answers s (claim x s) where
  clock := claim_clock x s
  startup := claim_startup x s
  sweep := claim_sweep x s
  monitors := claim_monitors x s
  holds := claim_holds x s
  roster := claim_roster x s
  ballot := claim_ballot x s
  plan := claim_plan x s
  switch := claim_switch x s
  lockout := claim_lockout x s
  store := claim_store x s
  sending := claim_link_sending x s
  mute := claim_link_mute x s

/-- The order memory with this order answered. -/
def remembered (number : Byte) (kind : OrderKind) (r : OrderResult) (s : State) : State :=
  s.setOrders { s.orders with memory := some ⟨number, kind, .done, some (answerPayload number r)⟩ }

theorem settleOrder_of_not_started (hr : r ≠ .started) : settleOrder number kind r s = settleAnswer number kind r s := by
  unfold settleOrder
  split
  · exact absurd rfl hr
  · rfl

/-- An answer is remembered and claimed, unless it starts the station. -/
theorem settleAnswer_of_answering (h : ¬(kind = .restart ∧ r = .done [] ∧ s.link.mute = true)) :
    settleAnswer number kind r s =
      claim (.answer (answerPayload number r) (decide (kind = .restart) && decide (r = .done []))) (remembered number kind r s) := by
  refine if_neg fun hrestarts => h ?_
  rw [Bool.and_eq_true, Bool.and_eq_true] at hrestarts
  obtain ⟨⟨hkind, hdone⟩, hmute⟩ := hrestarts
  exact ⟨of_decide_eq_true hkind, of_decide_eq_true hdone, hmute⟩

theorem settleOrder_of_not_restart (hr : r ≠ .started) (hkind : kind ≠ .restart) :
    settleOrder number kind r s = claim (.answer (answerPayload number r) false) (remembered number kind r s) := by
  rw [settleOrder_of_not_started hr, settleAnswer_of_answering fun h => hkind h.1, decide_eq_false hkind, Bool.false_and]

theorem settleOrder_bad : settleOrder number kind .bad s = claim (.answer [number, 0x40#8] false) (remembered number kind .bad s) := by
  rw [settleOrder_of_not_started (by decide), settleAnswer_of_answering fun h => by cases h.2.1]
  rw [decide_eq_false (by decide : OrderResult.bad ≠ .done []), Bool.and_false]
  rfl

/-- An order answered: remembered, and its ANSWER claimed. -/
def answered (number : Byte) (kind : OrderKind) (r : OrderResult) (s : State) : State :=
  claim (.answer (answerPayload number r) false) (remembered number kind r s)

theorem answered_answers (number : Byte) (kind : OrderKind) (r : OrderResult) (s : State) : Answers s (answered number kind r s) :=
  (setOrders_answers _ s).trans (claim_answers _ _)

theorem answered_orders (number : Byte) (kind : OrderKind) (r : OrderResult) (s : State) :
    (answered number kind r s).orders =
      { s.orders with memory := some ⟨number, kind, .done, some (answerPayload number r)⟩ } := claim_orders _ _

theorem answered_queued (number : Byte) (kind : OrderKind) (r : OrderResult) (hroom : Roomy 1 s) :
    Queued (answered number kind r s) (.answer (answerPayload number r) false) := by
  have hremembered : Fills 0 s (remembered number kind r s) := .of_same rfl rfl le_rfl
  exact Roomy.claim_queued (k := 0) _ (hremembered.roomy hroom)

theorem answered_fills (number : Byte) (kind : OrderKind) (r : OrderResult) (s : State) : Fills 1 s (answered number kind r s) := by
  have hremembered : Fills 0 s (remembered number kind r s) := .of_same rfl rfl le_rfl
  exact hremembered.after_none (claim_fills _ _)

/-! ### After the order -/

theorem queued_taken {x : Claim} (hroom : Roomy 0 v) (h : Queued v x) : Queued (endEvent s (judgeView v)) x :=
  ((judgeView_fills v).queued hroom h).of_link (endEvent_link_queue ..)

/-- An order that is answered in the event that takes it is remembered, and its ANSWER queued when there is room. -/
theorem answeredBy_of_roomy (hroomy : HasRoom s → Roomy 1 u) (r : OrderResult) :
    AnsweredBy s (endEvent s (judgeView (answered number kind r u))) number kind (answerPayload number r) := by
  refine ⟨?_, fun hroom => ?_⟩
  · unfold AnsweredWith
    rw [endEvent_orders, judgeView_orders, answered_orders]
  · exact queued_taken ((answered_fills ..).roomy (hroomy hroom)) (answered_queued _ _ _ (hroomy hroom))

theorem Fills.answeredBy (h : Fills 1 s u) (number : Byte) (kind : OrderKind) (r : OrderResult) :
    AnsweredBy s (endEvent s (judgeView (answered number kind r u))) number kind (answerPayload number r) :=
  answeredBy_of_roomy (fun hroom => h.roomy hroom.roomy) r

theorem judgeView_ownHold_of_ne {c : Cause} (hlink : c ≠ .link) (hdiscord : c ≠ .discord) (i : Option Nat) (s : State) :
    (judgeView s).ownHold c i = s.ownHold c i := by
  unfold judgeView
  rw [judgeDiscord_ownHold_of_ne hdiscord]
  unfold judgeLink
  split
  · split
    · exact liftHold_ownHold_of_ne s fun hk => hlink (congrArg Prod.fst hk)
    · exact raiseHold_ownHold_of_ne none s fun hk => hlink (congrArg Prod.fst hk)
  · rfl

theorem heardState_ownHold_of_ne {c : Cause} (a : Nat) (hc : c ≠ .discord) (i : Option Nat) (s : State) :
    (heardState a s).ownHold c i = s.ownHold c i := by
  rw [heardState_eq, judgeDiscord_ownHold_of_ne hc]
  exact ownHold_congr (by simp [lineHeard]) _ _

theorem heardState_stands_of_ne {c : Cause} (a : Nat) (hc : c ≠ .discord) (s : State) : (heardState a s).stands c = s.stands c :=
  congrArg Option.isSome (heardState_ownHold_of_ne a hc none s)

/-- The own hold of another cause than the roster's two, after an order. -/
theorem taken_ownHold {c : Cause} (hlink : c ≠ .link) (hdiscord : c ≠ .discord) (i : Option Nat) (s v : State) :
    (endEvent s (judgeView v)).ownHold c i = v.ownHold c i := by
  rw [ownHold_congr (s := judgeView v) (by rw [endEvent_holds]), judgeView_ownHold_of_ne hlink hdiscord]

theorem taken_stands {c : Cause} (hlink : c ≠ .link) (hdiscord : c ≠ .discord) (s v : State) :
    (endEvent s (judgeView v)).stands c = v.stands c := congrArg Option.isSome (taken_ownHold hlink hdiscord none s v)

theorem judgeView_current_congr (hballot : t.ballot = s.ballot) (hraises : t.viewRaises ↔ s.viewRaises) :
    (judgeView t).ballot.current = (judgeView s).ballot.current := by
  have hparty : t.isParty ↔ s.isParty := by
    unfold State.isParty
    rw [hballot]
  by_cases hr : s.viewRaises
  · by_cases hp : s.isParty
    · rw [((judgeView_yields t).left (hparty.2 hp) (judgeView_not_party (hraises.2 hr))).current,
        ((judgeView_yields s).left hp (judgeView_not_party hr)).current]
    · rw [((judgeView_yields t).stays (mt hparty.1 hp)).current, ((judgeView_yields s).stays hp).current, hballot]
  · rw [(judgeView_stays (mt hraises.1 hr)).current, (judgeView_stays hr).current, hballot]

/-- What an event leaves in which an order frame is heard and does no more than be answered. -/
structure HeardOnly (s t : State) : Prop where
  own : t.holds.own = (judgeView (heardState 0 s)).holds.own
  remote : t.holds.remote = s.holds.remote
  roster : t.roster = (heardState 0 s).roster
  mode : t.ballot.mode = (judgeView (heardState 0 s)).ballot.mode
  current : t.ballot.current = (judgeView (heardState 0 s)).ballot.current
  highest : t.ballot.highest = s.ballot.highest
  plan : t.plan = s.plan
  lockout : t.lockout = s.lockout
  store : t.store = s.store
  startup : t.startup = s.startup
  sweep : t.sweep = s.sweep
  monitors : t.monitors = s.monitors

/-- The gateway's hearing purges nothing. -/
theorem heardState_gateway_remote (s : State) : (heardState 0 s).holds.remote = s.holds.remote := by
  rw [heardState_eq, judgeDiscord_holds_remote, hear_gateway, State.updateEntry_holds, (lineHeard_frame 0 s).2.1]

theorem Answers.heardOnly (h : Answers (heardState 0 s) v) : HeardOnly s (endEvent s (judgeView v)) := by
  have hmode : v.ballot.mode = (heardState 0 s).ballot.mode := by rw [h.ballot]
  have hraises : v.viewRaises ↔ (heardState 0 s).viewRaises :=
    viewRaises_congr h.roster h.startup hmode (congrArg HoldUnit.own h.holds)
  have halike : HoldsAlike (heardState 0 s) v :=
    ⟨congrArg HoldUnit.own h.holds, congrArg HoldUnit.nextSerial h.holds, congrArg HoldUnit.notices h.holds⟩
  refine ⟨?_, ?_, ?_, ?_, ?_, ?_, ?_, ?_, ?_, ?_, ?_, ?_⟩
  · rw [endEvent_holds]
    exact judgeView_own_congr halike ⟨h.sending, h.mute, hmode⟩ h.clock h.roster h.startup
  · rw [endEvent_holds, judgeView_holds_remote, h.holds, heardState_gateway_remote]
  · rw [endEvent_roster, judgeView_roster, h.roster]
  · rw [endEvent_ballot_mode]
    exact judgeView_mode_congr hmode hraises
  · rw [endEvent_ballot_current]
    exact judgeView_current_congr h.ballot hraises
  · rw [endEvent_ballot_highest, judgeView_ballot_highest, h.ballot, heardState_ballot_highest]
  · rw [endEvent_plan, judgeView_plan, h.plan, heardState_plan]
  · rw [endEvent_lockout, judgeView_lockout, h.lockout, heardState_lockout]
  · rw [endEvent_store, judgeView_store, h.store, heardState_store]
  · rw [endEvent_startup, judgeView_startup, h.startup, heardState_startup]
  · rw [endEvent_sweep, judgeView_sweep, h.sweep, heardState_sweep]
  · rw [endEvent_monitors, judgeView_monitors, h.monitors, heardState_monitors]

end

end Sys2Proof.Machine

/-! The orders that act without an argument: OPEN, FREE, PAUSE-BLEED and RESUME-BLEED (R126, R127, R204), RECLOSE (R58) and CLEAR-SWITCH
(R138). -/

namespace Sys2Proof.Machine

section
variable {s t u v : State} {number : Byte} {target : Nat} {kind : OrderKind}

/-! ### An order that does its work wherever it is taken -/

/-- The four orders that do the same targeted and sent to all (R201). -/
theorem event_doneAfter {f : State → State} (hkind : kind ≠ .restart) (htakes : TakesFrom s 0)
    (hfills : ∀ v, Fills 0 v (f v)) (horders : ∀ v, (f v).orders = v.orders)
    (htarget : target = 31 ∧ s.own ≠ 31 ∨ TakesNewOrder s number target) :
    ∃ v, event (orderArrives number target 0 kind true (doneAfter f) f) s = .next (endEvent s (judgeView v)) ∧
      Answers (f (heardState 0 s)) v ∧ (target ≠ s.own → (endEvent s (judgeView v)).orders = s.orders) ∧
      (target = s.own → AnsweredBy s (endEvent s (judgeView v)) number kind [number, 0x10#8]) := by
  have hvalid : orderFrameValid target 0 = true := by
    refine orderFrameValid_of_le ?_ (Nat.zero_le _)
    rcases htarget with ⟨rfl, -⟩ | ⟨-, -, hle, -⟩
    · exact le_rfl
    · exact hle
  by_cases hown : target = s.own
  · have hnew : TakesNewOrder s number target := htarget.resolve_left fun ⟨h31, hne⟩ => hne (hown.symm.trans h31)
    refine ⟨answered number kind (.done []) (f (heardState 0 s)), ?_, answered_answers .., fun hne => absurd hown hne, fun _ => ?_⟩
    · rw [event_order hvalid htakes, orderTaken, takeOrder_heard_new hnew]
      show Host.Outcome.next (endEvent s (judgeView (settleOrder number kind (.done []) (f (heardState 0 s))))) = _
      rw [settleOrder_of_not_restart (by decide) hkind]
      rfl
    · exact (((heardState_gateway_fills s).then_none (hfills _)).mono (Nat.zero_le 1)).answeredBy number kind (.done [])
  · obtain ⟨rfl, hne⟩ : target = 31 ∧ s.own ≠ 31 := htarget.resolve_right fun h => hown h.2.1
    refine ⟨f (heardState 0 s), ?_, .refl _, fun _ => ?_, fun h => absurd h hown⟩
    · rw [event_order hvalid htakes, orderTaken, takeOrder_heard_broadcast hne, if_pos rfl]
    · rw [endEvent_orders, judgeView_orders, horders, heardState_orders]

theorem pausePlan_fills (s : State) : Fills 0 s (pausePlan s) := by
  unfold pausePlan
  split
  · exact .refl s
  · exact .of_blocks rfl rfl rfl rfl

theorem pausePlan_orders (s : State) : (pausePlan s).orders = s.orders := by
  unfold pausePlan
  split <;> rfl

theorem pausePlan_ownHold (s : State) (c : Cause) (i : Option Nat) : (pausePlan s).ownHold c i = s.ownHold c i := by
  unfold pausePlan
  split <;> rfl

theorem resumePlan_fills (s : State) : Fills 0 s (resumePlan s) := .of_blocks rfl rfl rfl rfl

theorem pausePlan_plan_of_paused (h : s.plan.paused = true) : (pausePlan s).plan = s.plan := by
  unfold pausePlan
  rw [if_pos h]

theorem pausePlan_plan_of_not_paused (h : s.plan.paused = false) :
    (pausePlan s).plan =
      { s.plan with allowed := false, reason := some .paused, selection := [], demand := 0, grant := 0, bleedSet := [], paused := true } := by
  unfold pausePlan
  rw [if_neg (by rw [h]; decide)]
  rfl

theorem taken_plan (s v : State) : (endEvent s (judgeView v)).plan = v.plan := by rw [endEvent_plan, judgeView_plan]

/-- A raise of a hold that did not stand leaves no party to a ballot, and no judgement makes it one. -/
theorem taken_mode_of_not_party (h : ¬ v.isParty) :
    (endEvent s (judgeView v)).ballot.mode ≠ .pledged ∧ (endEvent s (judgeView v)).ballot.mode ≠ .closed := by
  have hparty := (judgeView_yields v).not_party h
  rw [endEvent_ballot_mode]
  exact ⟨fun hp => hparty (.inl hp), fun hc => hparty (.inr hc)⟩

theorem Answers.ownHold (h : Answers u v) (c : Cause) (i : Option Nat) : v.ownHold c i = u.ownHold c i :=
  ownHold_congr (congrArg HoldUnit.own h.holds) c i

theorem Answers.stands (h : Answers u v) (c : Cause) : v.stands c = u.stands c := stands_congr (congrArg HoldUnit.own h.holds)

theorem Answers.not_party (h : Answers u v) (hu : ¬ u.isParty) : ¬ v.isParty := by
  unfold State.isParty
  rw [h.ballot]
  exact hu

end

/-- Settles O45, each order by what it does to the state in which the gateway has been heard. -/
theorem ordersWithoutArgument : Obligations.OrdersWithoutArgument := by
  intro s number target htakes htarget
  refine ⟨?_, ?_, ?_, ?_⟩
  · obtain ⟨v, hexec, hv, hall, hown⟩ := event_doneAfter (kind := .openOrder) (f := raiseGateway) (by decide) htakes
      (fun v => raiseHold_fills .gateway none none v) (fun v => raiseHold_orders ..) htarget
    refine ⟨_, hexec, ⟨hall, hown⟩, fun c i hgateway hlink hdiscord => ?_, ?_, fun hnew => taken_mode_of_not_party (hv.not_party ?_)⟩
    · rw [taken_ownHold hlink hdiscord, hv.ownHold, raiseGateway,
        raiseHold_ownHold_of_ne _ _ fun hk => hgateway (congrArg Prod.fst hk), heardState_ownHold_of_ne 0 hdiscord]
    · rw [taken_stands (by decide) (by decide), hv.stands, raiseGateway, raiseHold_stands_self]
    · rw [← heardState_stands_of_ne 0 (by decide), stands_eq_false_iff] at hnew
      obtain ⟨hp, hc⟩ := raiseHold_new_open none hnew
      exact fun hparty => hparty.elim hp hc
  · obtain ⟨v, hexec, hv, hall, hown⟩ := event_doneAfter (kind := .free) (f := liftGateway) (by decide) htakes
      (fun v => liftHold_fills .gateway none v) (fun v => liftHold_orders ..) htarget
    refine ⟨_, hexec, ⟨hall, hown⟩, fun c i hgateway hlink hdiscord => ?_, ?_⟩
    · rw [taken_ownHold hlink hdiscord, hv.ownHold, liftGateway,
        liftHold_ownHold_of_ne _ fun hk => hgateway (congrArg Prod.fst hk), heardState_ownHold_of_ne 0 hdiscord]
    · rw [taken_stands (by decide) (by decide), hv.stands, liftGateway, liftHold_stands_self]
  · obtain ⟨v, hexec, hv, hall, hown⟩ := event_doneAfter (kind := .pauseBleed) (f := pausePlan) (by decide) htakes
      pausePlan_fills pausePlan_orders htarget
    refine ⟨_, hexec, ⟨hall, hown⟩, fun c i _ hlink hdiscord => ?_, fun hpaused => ?_, fun hrunning => ⟨?_, fun c => ?_⟩⟩
    · rw [taken_ownHold hlink hdiscord, hv.ownHold, pausePlan_ownHold, heardState_ownHold_of_ne 0 hdiscord]
    · rw [taken_plan, hv.plan, pausePlan_plan_of_paused (by rw [heardState_plan]; exact hpaused), heardState_plan]
    · rw [taken_plan, hv.plan, pausePlan_plan_of_not_paused (by rw [heardState_plan]; exact hrunning), heardState_plan]
    · unfold State.bleedOutput
      rw [taken_plan, hv.plan, pausePlan_plan_of_not_paused (by rw [heardState_plan]; exact hrunning)]
      rfl
  · obtain ⟨v, hexec, hv, hall, hown⟩ := event_doneAfter (kind := .resumeBleed) (f := resumePlan) (by decide) htakes
      resumePlan_fills (fun _ => rfl) htarget
    refine ⟨_, hexec, ⟨hall, hown⟩, fun c i _ hlink hdiscord => ?_, ?_⟩
    · rw [taken_ownHold hlink hdiscord, hv.ownHold]
      exact heardState_ownHold_of_ne 0 hdiscord i s
    · rw [taken_plan, hv.plan]
      show { (heardState 0 s).plan with paused := false } = _
      rw [heardState_plan]

end Sys2Proof.Machine

/-! CLEAR-SWITCH (R138) and RECLOSE (R58). -/

namespace Sys2Proof.Machine

section
variable {s t u v : State} {number : Byte} {target : Nat}

/-! ### CLEAR-SWITCH -/

theorem runClearSwitch_of_no_hold (h : u.stands .switch = false) : runClearSwitch u = (u, .done []) := by
  unfold runClearSwitch
  rw [h]
  rfl

theorem runClearSwitch_of_closed (h : u.stands .switch = true) (hclosed : u.switch.command = .closed ∨ u.switch.feedback = .closed) :
    runClearSwitch u = (u, .refused .condition) := by
  unfold runClearSwitch
  rw [h]
  exact if_pos hclosed

theorem runClearSwitch_of_open (h : u.stands .switch = true) (hcommand : u.switch.command = .opened)
    (hfeedback : u.switch.feedback = .opened) : runClearSwitch u = (liftHold .switch none u, .done []) := by
  unfold runClearSwitch
  rw [h, hcommand, hfeedback]
  rfl

/-- CLEAR-SWITCH targeted at the station. -/
theorem event_clearSwitch (h : TakesNewOrder s number target) {r : OrderResult} (hrun : runClearSwitch (heardState 0 s) = (u, r))
    (hr : r ≠ .started) :
    exec (.clearSwitch number target []) s = .next (endEvent s (judgeView (answered number .clearSwitch r u))) := by
  have hvalid : orderFrameValid target 0 = true := orderFrameValid_of_le h.2.2.1 (Nat.zero_le _)
  have hevent := event_order (number := number) (kind := .clearSwitch) (run := runClearSwitch) (broadcast := noBroadcast) (fits := true)
    hvalid h.1
  rw [orderTaken, takeOrder_heard_new h, hrun, settleOrder_of_not_restart hr (by decide)] at hevent
  exact hevent

theorem setMode_feedback (m : Mode) (s : State) : (setMode m s).switch.feedback = s.switch.feedback := by
  unfold setMode
  split
  · rfl
  · rw [deliverToPlanner_switch]
    unfold deliverToDriver
    split
    · rw [State.changeBallot_switch]
    · unfold startCommandCheck
      rw [State.setSwitch_switch, State.setSwitch_switch, State.changeBallot_switch]

theorem leave_feedback (s : State) : (leave s).switch.feedback = s.switch.feedback := by
  by_cases h : s.isParty
  · rw [leave_of_party h, setMode_feedback, State.setBallot_switch, withdrawClaim_switch]
  · rw [leave_of_not_party h]

theorem raiseHold_feedback (c : Cause) (i : Option Nat) (d : Option Detail) (s : State) :
    (raiseHold c i d s).switch.feedback = s.switch.feedback := by
  obtain ⟨-, h⟩ | ⟨x, -, -, h⟩ | ⟨x, -, -, h | h⟩ := raiseHold_cases c i d s <;> rw [h]
  · rw [leave_feedback, appendNotice_switch]
    simp [addOwn]
  · rfl
  · rw [appendNotice_switch]
    rfl

theorem judgeLink_feedback (s : State) : (judgeLink s).switch.feedback = s.switch.feedback := by
  unfold judgeLink
  split
  · split
    · rw [liftHold_switch]
    · exact raiseHold_feedback ..
  · rfl

theorem judgeDiscord_feedback (s : State) : (judgeDiscord s).switch.feedback = s.switch.feedback := by
  unfold judgeDiscord
  split
  · rfl
  · split
    · exact raiseHold_feedback ..
    · rw [liftHold_switch]

theorem judgeView_feedback (s : State) : (judgeView s).switch.feedback = s.switch.feedback :=
  (judgeDiscord_feedback _).trans (judgeLink_feedback s)

/-- The lockout record and the feedback after CLEAR-SWITCH. -/
theorem taken_lockout_feedback (hlockout : v.lockout = s.lockout) (hfeedback : v.switch.feedback = s.switch.feedback) :
    (endEvent s (judgeView v)).lockout = s.lockout ∧ (endEvent s (judgeView v)).switch.feedback = s.switch.feedback := by
  rw [endEvent_lockout, judgeView_lockout, endEvent_switch, judgeView_feedback]
  exact ⟨hlockout, hfeedback⟩

theorem heardState_feedback (a : Nat) (s : State) : (heardState a s).switch.feedback = s.switch.feedback := by
  rw [heardState_eq, judgeDiscord_feedback, (hear_stays a _).switch, (lineHeard_stays a s).switch]

end

/-- Settles O32, by the three outcomes of the order. -/
theorem clearSwitchLiftsSwitchHold : Obligations.ClearSwitchLiftsSwitchHold := by
  intro s number target hnew
  have hfills : Fills 1 s (heardState 0 s) := (heardState_gateway_fills s).mono (Nat.zero_le 1)
  have hfeedback : (heardState 0 s).switch.feedback = s.switch.feedback := heardState_feedback 0 s
  refine ⟨?_, fun hown => ?_⟩
  · cases hstands : (heardState 0 s).stands .switch with
    | false =>
      have hanswers := answered_answers number .clearSwitch (.done []) (heardState 0 s)
      obtain ⟨hlockout, hfed⟩ := taken_lockout_feedback (s := s) (by rw [hanswers.lockout, heardState_lockout])
        (by rw [hanswers.switch, hfeedback])
      refine ⟨_, event_clearSwitch hnew (runClearSwitch_of_no_hold hstands) (by decide), hlockout, hfed, fun _ => ?_,
        (fun h => nomatch h.symm.trans hstands), (fun h => nomatch h.symm.trans hstands)⟩
      exact ⟨hanswers.heardOnly.own, hfills.answeredBy number .clearSwitch (.done [])⟩
    | true =>
      by_cases hclosed : (heardState 0 s).switch.command = .closed ∨ (heardState 0 s).switch.feedback = .closed
      · have hanswers := answered_answers number .clearSwitch (.refused .condition) (heardState 0 s)
        obtain ⟨hlockout, hfed⟩ := taken_lockout_feedback (s := s) (by rw [hanswers.lockout, heardState_lockout])
          (by rw [hanswers.switch, hfeedback])
        refine ⟨_, event_clearSwitch hnew (runClearSwitch_of_closed hstands hclosed) (by decide), hlockout, hfed, (fun h => nomatch h.symm.trans hstands), fun _ _ => ?_,
          fun _ hc hf => ?_⟩
        · refine ⟨?_, hfills.answeredBy number .clearSwitch (.refused .condition)⟩
          rw [taken_stands (by decide) (by decide), hanswers.stands, hstands]
        · rw [hc, hf] at hclosed
          exact absurd hclosed (by decide)
      · have hcommand : (heardState 0 s).switch.command = .opened := by
          cases h : (heardState 0 s).switch.command with
          | opened => rfl
          | closed => exact absurd (.inl h) hclosed
        have hopen : (heardState 0 s).switch.feedback = .opened := by
          cases h : (heardState 0 s).switch.feedback with
          | opened => rfl
          | closed => exact absurd (.inr h) hclosed
        have hanswers := answered_answers number .clearSwitch (.done []) (liftHold .switch none (heardState 0 s))
        obtain ⟨hlockout, hfed⟩ := taken_lockout_feedback (s := s)
          (by rw [hanswers.lockout, liftHold_lockout, heardState_lockout]) (by rw [hanswers.switch, liftHold_switch, hfeedback])
        refine ⟨_, event_clearSwitch hnew (runClearSwitch_of_open hstands hcommand hopen) (by decide), hlockout, hfed, (fun h => nomatch h.symm.trans hstands),
          fun _ hc => absurd hc hclosed, fun _ _ _ => ⟨?_, ?_⟩⟩
        · rw [taken_stands (by decide) (by decide), hanswers.stands, liftHold_stands_self]
        · exact (hfills.then_none (liftHold_fills ..)).answeredBy number .clearSwitch (.done [])
  · refine ⟨orderTaken (takeOrder number 31 .clearSwitch true runClearSwitch noBroadcast) s, event_order (by decide) hnew.1, ?_⟩
    rw [orderTaken, takeOrder_heard_broadcast hown, if_pos rfl]
    refine ⟨endEvent_holds .., ?_⟩
    rw [endEvent_orders, judgeView_orders]
    exact heardState_orders 0 s

section
variable {s t u v : State} {number : Byte} {target : Nat}

/-! ### RECLOSE -/

theorem runReclose_of_ready (h : u.ready = true) : runReclose u = (propose u, .done []) := if_pos h

theorem runReclose_of_not_ready (h : u.ready = false) : runReclose u = (u, .refused .notReady) := if_neg (by rw [h]; decide)

theorem broadcastReclose_of_duty (h : u.ready = true) (hduty : u.duty = u.own) : broadcastReclose u = propose u := by
  unfold broadcastReclose
  rw [h, hduty, decide_eq_true rfl]
  rfl

theorem broadcastReclose_of_other (h : u.ready = false ∨ u.duty ≠ u.own) : broadcastReclose u = u := by
  unfold broadcastReclose
  rcases h with h | h
  · rw [h]
    rfl
  · rw [decide_eq_false h, Bool.and_false]
    rfl

/-- A station that is ready once the gateway has been heard has nothing for the roster to raise: a DISCORD hold would stand. -/
theorem heardState_clearView_of_ready (a : Nat) (hmode : s.ballot.mode ≠ .start) (h : (heardState a s).ready = true) :
    (heardState a s).holds.own = [] ∧ ClearView (heardState a s) := by
  obtain ⟨-, hown, -, hmissing, -⟩ := ready_iff.1 h
  exact ⟨hown, hmissing, heardState_discord_of_no_hold a hmode hown⟩

/-- The judgement after a proposal of a calm station leaves the proposal. -/
theorem judgeView_of_proposed (hown : u.holds.own = []) (hclear : ClearView u) (hv : Answers (propose u) v) : judgeView v = v := by
  have hroster : v.roster = u.roster := hv.roster.trans (propose_roster u)
  have hstartup : v.startup = u.startup := hv.startup.trans (propose_startup u)
  refine judgeView_of_calm ?_ ((clearView_congr hroster hstartup).2 hclear)
  rw [hv.holds, propose_holds, hown]

/-- What a proposal that stays makes of the station. -/
structure Proposed (s t : State) : Prop where
  mode : t.ballot.mode = .pledged
  role : t.ballot.role = .proposer
  current : t.ballot.current = some s.nextBallot
  highest : t.ballot.highest = s.nextBallot
  votes : t.ballot.votes = [s.own]
  proposal : t.ballot.proposal = Timer.startMs s.cfg.shared.proposalTime

theorem propose_proposed (haddressed : s.addressed = true) (hmode : s.ballot.mode = .opened) : Proposed s (propose s) := by
  have hballot := propose_ballot_of_open hmode
  refine ⟨by rw [hballot], by rw [hballot], by rw [hballot], ?_, by rw [hballot], by rw [hballot]⟩
  rw [hballot]
  dsimp only
  rw [offer_highest, if_pos (wouldReplace_nextBallot haddressed)]

theorem Proposed.endEvent (h : Proposed u v) (s : State) : Proposed u (endEvent s v) where
  mode := by rw [endEvent_ballot_mode, h.mode]
  role := by rw [endEvent_ballot_role, h.role]
  current := by rw [endEvent_ballot_current, h.current]
  highest := by rw [endEvent_ballot_highest, h.highest]
  votes := by rw [endEvent_ballot_votes, h.votes]
  proposal := by rw [endEvent_ballot_proposal, h.proposal]

theorem Proposed.answers (h : Proposed u t) (ht : Answers t v) : Proposed u v where
  mode := by rw [ht.ballot, h.mode]
  role := by rw [ht.ballot, h.role]
  current := by rw [ht.ballot, h.current]
  highest := by rw [ht.ballot, h.highest]
  votes := by rw [ht.ballot, h.votes]
  proposal := by rw [ht.ballot, h.proposal]

/-- The proposal claims one frame and owes a second. -/
theorem propose_fills_of_open (hmode : s.ballot.mode = .opened) : Fills 2 s (propose s) := by
  have hoffered : BallotStays s (offer s.nextBallot s) := (offer_yields _ s).stays (not_party_of_open hmode)
  have howed : (proposerState s).owed = 0 := owed_of_mode (by
    show (offer s.nextBallot s).ballot.mode ≠ .pledged
    rw [hoffered.mode, hmode]
    decide)
  have hproposer : Fills 0 (offer s.nextBallot s) (proposerState s) := .of_same rfl rfl (by rw [howed]; exact Nat.zero_le _)
  have hclaimed : Fills 1 s (claim (.propose s.nextBallot s.size s.startup.digest) (proposerState s)) :=
    ((offer_fills _ s).then_none hproposer).after_none (claim_fills _ _)
  have hlink : (propose s).link = (claim (.propose s.nextBallot s.size s.startup.digest) (proposerState s)).link := by
    rw [propose_eq]
    show (pledgedProposer s).link = _
    rw [pledgedProposer, setMode_link]
  refine hclaimed.trans (l := 1) ⟨fun n hn => ⟨⟨by rw [hlink]; exact hn.1, ?_⟩, fun q hq => by rwa [hlink]⟩⟩
  have hroom := hn.2
  have hone := owed_le_one (propose s)
  rw [hlink]
  omega

theorem heardState_nextBallot (s : State) : (heardState 0 s).nextBallot = ⟨s.ballot.highest.epoch + 1, s.own⟩ := by
  unfold State.nextBallot
  rw [heardState_ballot_highest, heardState_own_eq]

theorem heardState_cfg (s : State) : (heardState 0 s).cfg = s.cfg :=
  cfg_congr (congrArg StartSequence.config (heardState_startup_eq 0 s))

theorem heardState_duty (s : State) : (heardState 0 s).duty = s.ballot.highest.epoch % s.cfg.shared.size + 1 := by
  unfold State.duty State.size
  rw [heardState_ballot_highest, heardState_cfg]

theorem heardState_addressed_eq (s : State) (h : s.addressed = true) : (heardState 0 s).addressed = true := by
  have hsame : (heardState 0 s).addressed = s.addressed := congrArg validAddress (heardState_own_eq 0 s)
  rw [hsame, h]

/-- A station that is ready once it has heard the gateway was OPEN before, so that nothing is owed. -/
theorem roomy_of_heard_ready (htakes : TakesFrom s 0) (hready : (heardState 0 s).ready = true) (hroom : HasRoom s) :
    Roomy 3 (heardState 0 s) := by
  obtain ⟨-, -, hdiscord⟩ := heardState_clearView_of_ready 0 htakes.1 hready
  have hopen : s.ballot.mode = .opened := (heardState_stays 0 hdiscord).mode.symm.trans (ready_mode hready)
  have hroomy : Roomy (3 + 0) s := ⟨hroom.1, by
    have hcapacity : s.link.queue.length + 3 ≤ 8 := hroom.2
    rw [owed_of_mode (by rw [hopen]; decide)]
    omega⟩
  exact (heardState_gateway_fills s).roomy hroomy

theorem event_reclose (hnew : TakesNewOrder s number target) {r : OrderResult} (hrun : runReclose (heardState 0 s) = (u, r))
    (hr : r ≠ .started) :
    exec (.reclose number target []) s = .next (endEvent s (judgeView (answered number .reclose r u))) := by
  have hvalid : orderFrameValid target 0 = true := orderFrameValid_of_le hnew.2.2.1 (Nat.zero_le _)
  have hevent := event_order (number := number) (kind := .reclose) (run := runReclose) (broadcast := broadcastReclose) (fits := true)
    hvalid hnew.1
  rw [orderTaken, takeOrder_heard_new hnew, hrun, settleOrder_of_not_restart hr (by decide)] at hevent
  exact hevent

theorem event_broadcastReclose (htakes : TakesFrom s 0) (hown : s.own ≠ 31) (number : Byte) :
    exec (.reclose number 31 []) s = .next (endEvent s (judgeView (broadcastReclose (heardState 0 s)))) := by
  have hevent := event_order (number := number) (target := 31) (extra := 0) (kind := .reclose) (run := runReclose)
    (broadcast := broadcastReclose) (fits := true) (by decide) htakes
  rw [orderTaken, takeOrder_heard_broadcast hown, if_pos rfl] at hevent
  exact hevent

theorem broadcastReclose_orders (s : State) : (broadcastReclose s).orders = s.orders := by
  unfold broadcastReclose
  split
  · exact propose_orders s
  · rfl

end

/-- Settles O46, by whether the station is ready once it has heard the gateway. -/
theorem recloseMakesReadyStationPropose : Obligations.RecloseMakesReadyStationPropose := by
  intro s number target htakes haddressed
  have haddressed' : (heardState 0 s).addressed = true := heardState_addressed_eq s haddressed
  have hown31 : s.own ≠ 31 := by
    have hle : 1 ≤ s.own ∧ s.own ≤ 24 := of_decide_eq_true haddressed
    omega
  refine ⟨fun hnew => ?_, fun _ => ?_⟩
  · cases hready : (heardState 0 s).ready with
    | true =>
      obtain ⟨hown, hclear⟩ := heardState_clearView_of_ready 0 htakes.1 hready
      have hanswers := answered_answers number .reclose (.done []) (propose (heardState 0 s))
      have hcalm := judgeView_of_proposed hown hclear hanswers
      have hproposed := ((propose_proposed haddressed' (ready_mode hready)).answers hanswers).endEvent s
      have hroomy : HasRoom s → Roomy 1 (propose (heardState 0 s)) := fun hroom =>
        (propose_fills_of_open (ready_mode hready)).roomy (roomy_of_heard_ready htakes hready hroom)
      refine ⟨_, event_reclose hnew (runReclose_of_ready hready) (by decide), fun _ => ?_, (fun h => nomatch h)⟩
      refine ⟨?_, ?_, ?_, ?_, ?_, ?_, fun hroom => ?_, answeredBy_of_roomy hroomy (.done [])⟩
      · rw [hcalm, hproposed.mode]
      · rw [hcalm, hproposed.role]
      · rw [hcalm, hproposed.current, heardState_nextBallot]
      · rw [hcalm, hproposed.highest, heardState_nextBallot]
      · rw [hcalm, hproposed.votes, heardState_own_eq]
      · rw [hcalm, hproposed.proposal, heardState_cfg]
      · have hqueued := propose_queued (ready_mode hready) ((roomy_of_heard_ready htakes hready hroom).mono (by decide))
        rw [heardState_nextBallot, heardState_startup, State.size, heardState_cfg] at hqueued
        have hkept := (answered_fills number .reclose (.done []) _).queued (hroomy hroom) hqueued
        exact queued_taken ((answered_fills ..).roomy (hroomy hroom)) hkept
    | false =>
      have honly := (answered_answers number .reclose (.refused .notReady) (heardState 0 s)).heardOnly
      refine ⟨_, event_reclose hnew (runReclose_of_not_ready hready) (by decide), (fun h => nomatch h), fun _ => ?_⟩
      exact ⟨honly.mode, honly.current, honly.highest,
        ((heardState_gateway_fills s).mono (Nat.zero_le 1)).answeredBy number .reclose (.refused .notReady)⟩
  · refine ⟨_, event_broadcastReclose htakes hown31 number, ?_, heardState_duty s, fun hready hduty => ?_, fun hnot => ?_⟩
    · rw [endEvent_orders, judgeView_orders, broadcastReclose_orders, heardState_orders]
    · obtain ⟨hown, hclear⟩ := heardState_clearView_of_ready 0 htakes.1 hready
      have hproposed := (propose_proposed haddressed' (ready_mode hready)).endEvent s
      rw [broadcastReclose_of_duty hready (hduty.trans (heardState_own_eq 0 s).symm),
        judgeView_of_proposed hown hclear (.refl _), hproposed.mode, hproposed.current, heardState_nextBallot]
      exact ⟨rfl, rfl⟩
    · rw [broadcastReclose_of_other (hnot.imp_right fun h => by rwa [heardState_own_eq])]
      exact ⟨(Answers.refl _).heardOnly.mode, (Answers.refl _).heardOnly.highest⟩

end Sys2Proof.Machine

/-! RELEASE (R150, R151). -/

namespace Sys2Proof.Machine

section
variable {s t u v : State} {number : Byte} {target : Nat}

theorem fieldNat_pair (x y : Byte) : fieldNat [x, y] 0 2 = x.toNat * 256 + y.toNat := by
  simp [fieldNat, beNat]

theorem monitorsClear_eq_false_iff : s.monitorsClear = false ↔ ∃ m ∈ s.monitors.records, m.state ≠ .clear := by
  unfold State.monitorsClear
  rw [List.all_eq_false]
  simp

theorem isWriting_iff (l : LockoutUnit) : l.isWriting = true ↔ l.inFlight.isSome = true ∨ l.pendingWrite = true := by
  unfold LockoutUnit.isWriting
  rw [Bool.or_eq_true]

/-- The condition that refuses a RELEASE (R150). -/
def State.releaseBlocked (s : State) : Prop := (∃ m ∈ s.monitors.records, m.state ≠ .clear) ∨ s.stands .switch = true

theorem releaseBlocked_iff : (!s.monitorsClear || s.stands .switch) = true ↔ s.releaseBlocked := by
  unfold State.releaseBlocked
  rw [Bool.or_eq_true, Bool.not_eq_true', monitorsClear_eq_false_iff]

/-- The answer of a RELEASE that its checks stop, in their order (R150). -/
theorem runRelease_of_none (n : Nat) (h : u.lockout.record.state = .none) : runRelease n u = (u, .refused .noLockout) := if_pos h

section
variable (h : u.lockout.record.state = .active)
include h

theorem runRelease_of_active (n : Nat) :
    runRelease n u =
      if n ≠ u.lockout.record.serial then (u, .refused .wrongSerial)
      else if u.lockout.isWriting then (u, .busy)
      else if !u.monitorsClear || u.stands .switch then (u, .refused .condition)
      else (startRelease u, .started) := if_neg (by rw [h]; decide)

theorem runRelease_of_wrong_serial {n : Nat} (hserial : n ≠ u.lockout.record.serial) :
    runRelease n u = (u, .refused .wrongSerial) := by
  rw [runRelease_of_active h, if_pos hserial]

theorem runRelease_of_writing {n : Nat} (hserial : n = u.lockout.record.serial) (hwriting : u.lockout.isWriting = true) :
    runRelease n u = (u, .busy) := by
  rw [runRelease_of_active h, if_neg (not_not.2 hserial), if_pos hwriting]

theorem runRelease_of_blocked {n : Nat} (hserial : n = u.lockout.record.serial) (hidle : u.lockout.isWriting = false)
    (hblocked : u.releaseBlocked) : runRelease n u = (u, .refused .condition) := by
  rw [runRelease_of_active h, if_neg (not_not.2 hserial), if_neg (by rw [hidle]; decide), if_pos (releaseBlocked_iff.2 hblocked)]

theorem runRelease_of_free {n : Nat} (hserial : n = u.lockout.record.serial) (hidle : u.lockout.isWriting = false)
    (hfree : ¬ u.releaseBlocked) : runRelease n u = (startRelease u, .started) := by
  rw [runRelease_of_active h, if_neg (not_not.2 hserial), if_neg (by rw [hidle]; decide), if_neg (mt releaseBlocked_iff.1 hfree)]

end

/-- A RELEASE either is answered with the state unchanged, or starts the release write. -/
theorem runRelease_cases (n : Nat) (u : State) :
    (runRelease n u).1 = u ∧ (runRelease n u).2 ≠ .started ∨ runRelease n u = (startRelease u, .started) := by
  unfold runRelease
  split
  · exact .inl ⟨rfl, nofun⟩
  · split
    · exact .inl ⟨rfl, nofun⟩
    · split
      · exact .inl ⟨rfl, nofun⟩
      · split
        · exact .inl ⟨rfl, nofun⟩
        · exact .inr rfl

theorem startRelease_record (s : State) : (startRelease s).lockout.record = s.lockout.record := by
  unfold startRelease
  split
  · exact (startWrite_effect _ s).2.2.1
  · rfl

/-- The release write of a record with a cause (R151). -/
theorem startRelease_of_cause {c : LockoutCause} (h : s.lockout.record.cause = some c) :
    startRelease s =
      startWrite (.release s.lockout.copies.lockoutTarget ⟨s.lockout.record.serial, .released, c, s.lockout.record.index⟩) s := by
  unfold startRelease LockoutRecord.slot
  rw [h]
  rfl

theorem exec_release_eq (number : Byte) (target : Nat) (args : List Byte) (s : State) :
    exec (.release number target args) s =
      event (orderArrives number target args.length .release (decide (args.length = 2)) (runRelease (fieldNat args 0 2))
        noBroadcast) s := rfl

theorem exec_release (hnew : TakesNewOrder s number target) (x y : Byte) :
    exec (.release number target [x, y]) s =
      .next (endEvent s (judgeView (settleOrder number .release (runRelease (x.toNat * 256 + y.toNat) (heardState 0 s)).2
        (runRelease (x.toNat * 256 + y.toNat) (heardState 0 s)).1))) := by
  have hvalid : orderFrameValid target [x, y].length = true := orderFrameValid_of_le hnew.2.2.1 (by decide : 2 ≤ 29)
  have hfits : decide ([x, y].length = 2) = true := rfl
  rw [exec_release_eq, event_order hvalid hnew.1, hfits, orderTaken, takeOrder_heard_new hnew, fieldNat_pair]

/-- The blocks of the lockout after an order, from those of the state that the order made. -/
theorem taken_lockout (s v : State) : (endEvent s (judgeView v)).lockout = v.lockout := by rw [endEvent_lockout, judgeView_lockout]
theorem taken_store (s v : State) : (endEvent s (judgeView v)).store = v.store := by rw [endEvent_store, judgeView_store]
theorem taken_monitors (s v : State) : (endEvent s (judgeView v)).monitors = v.monitors := by
  rw [endEvent_monitors, judgeView_monitors]
theorem taken_orders (s v : State) : (endEvent s (judgeView v)).orders = v.orders := by rw [endEvent_orders, judgeView_orders]
theorem taken_startup (s v : State) : (endEvent s (judgeView v)).startup = v.startup := by rw [endEvent_startup, judgeView_startup]

/-- No frame is claimed by the hearing of the gateway and the judgements but a WITHDRAW. -/
theorem heardState_gateway_onlyWithdraws (s : State) : OnlyWithdraws s (heardState 0 s) := by
  rw [heardState_eq, hear_gateway]
  refine .trans (.of_queue ?_) (judgeDiscord_onlyWithdraws _)
  simp [lineHeard]

theorem taken_onlyWithdraws (h : v.link.queue = (heardState 0 s).link.queue) : OnlyWithdraws s (endEvent s (judgeView v)) :=
  (((heardState_gateway_onlyWithdraws s).trans (.of_queue h)).trans (judgeView_onlyWithdraws v)).trans
    (.of_queue (endEvent_link_queue ..))

/-- The state of an order that is answered with nothing of the lockout unit changed. -/
theorem answered_lockout (number : Byte) (kind : OrderKind) (r : OrderResult) (s : State) :
    (endEvent s (judgeView (answered number kind r (heardState 0 s)))).lockout = s.lockout ∧
      (endEvent s (judgeView (answered number kind r (heardState 0 s)))).store = s.store ∧
      AnsweredBy s (endEvent s (judgeView (answered number kind r (heardState 0 s)))) number kind (answerPayload number r) := by
  have honly := (answered_answers number kind r (heardState 0 s)).heardOnly
  exact ⟨honly.lockout, honly.store, ((heardState_gateway_fills s).mono (Nat.zero_le 1)).answeredBy number kind r⟩

theorem settleOrder_lockout_record (kind : OrderKind) (hkind : kind ≠ .restart) (r : OrderResult) (v : State) :
    (settleOrder number kind r v).lockout = v.lockout ∧ (settleOrder number kind r v).monitors = v.monitors := by
  by_cases hr : r = .started
  · subst hr
    exact ⟨rfl, rfl⟩
  · have hanswers := answered_answers number kind r v
    rw [settleOrder_of_not_restart hr hkind]
    exact ⟨hanswers.lockout, hanswers.monitors⟩

end

/-- Settles O47, by the checks in their order. -/
theorem releaseChecksAndStartsWrite : Obligations.ReleaseChecksAndStartsWrite := by
  intro s number target x y hnew
  have hsame : (heardState 0 s).lockout = s.lockout := heardState_lockout 0 s
  have hswitch : (heardState 0 s).stands .switch = s.stands .switch := heardState_stands_of_ne 0 (by decide) s
  have hblocked : (heardState 0 s).releaseBlocked ↔ s.releaseBlocked := by
    unfold State.releaseBlocked
    rw [heardState_monitors, hswitch]
  have hanswer : ∀ r, r ≠ .started → runRelease (x.toNat * 256 + y.toNat) (heardState 0 s) = (heardState 0 s, r) →
      (endEvent s (judgeView (settleOrder number .release (runRelease (x.toNat * 256 + y.toNat) (heardState 0 s)).2
        (runRelease (x.toNat * 256 + y.toNat) (heardState 0 s)).1))) =
        endEvent s (judgeView (answered number .release r (heardState 0 s))) := fun r hr hrun => by
    rw [hrun, settleOrder_of_not_restart hr (by decide)]
    rfl
  refine ⟨_, exec_release hnew x y, ?_, ?_, fun hnone => ?_, fun hactive hserial => ?_, fun hactive hserial hwriting => ?_,
    fun hactive hserial hidle hstopped => ?_, fun hactive hserial hidle hfree c hcause => ?_⟩
  · rw [taken_lockout, (settleOrder_lockout_record .release (by decide) _ _).1, ← hsame]
    obtain ⟨hu, -⟩ | hrun := runRelease_cases (x.toNat * 256 + y.toNat) (heardState 0 s)
    · rw [hu]
    · rw [hrun, startRelease_record]
  · rw [taken_monitors, (settleOrder_lockout_record .release (by decide) _ _).2, ← heardState_monitors 0 s]
    obtain ⟨hu, -⟩ | hrun := runRelease_cases (x.toNat * 256 + y.toNat) (heardState 0 s)
    · rw [hu]
    · rw [hrun, startRelease_monitors]
  · rw [hanswer _ (by decide) (runRelease_of_none _ (by rw [hsame]; exact hnone))]
    exact answered_lockout number .release (.refused .noLockout) s
  · rw [← hsame] at hactive hserial
    rw [hanswer _ (by decide) (runRelease_of_wrong_serial hactive hserial)]
    exact answered_lockout number .release (.refused .wrongSerial) s
  · rw [← hsame] at hactive hserial hwriting
    rw [hanswer _ (by decide) (runRelease_of_writing hactive hserial ((isWriting_iff _).2 hwriting))]
    exact answered_lockout number .release .busy s
  · rw [← hsame] at hactive hserial hidle
    rw [hanswer _ (by decide) (runRelease_of_blocked hactive hserial (Bool.eq_false_of_not_eq_true (mt (isWriting_iff _).1 hidle))
      (hblocked.2 hstopped))]
    exact answered_lockout number .release (.refused .condition) s
  · rw [← hsame] at hactive hserial hidle hcause
    rw [runRelease_of_free hactive hserial (Bool.eq_false_of_not_eq_true (mt (isWriting_iff _).1 hidle)) (mt hblocked.1 hfree),
      startRelease_of_cause hcause]
    obtain ⟨hflight, -, -, -, -, hstore⟩ := startWrite_effect (.release (heardState 0 s).lockout.copies.lockoutTarget
      ⟨(heardState 0 s).lockout.record.serial, .released, c, (heardState 0 s).lockout.record.index⟩) (heardState 0 s)
    rw [hsame] at hflight hstore ⊢
    refine ⟨?_, ?_, ?_, ?_, fun ha => ?_, fun hb => ?_, taken_onlyWithdraws ?_⟩
    · rw [taken_orders]
      rfl
    · rw [taken_orders]
      rfl
    · rw [taken_lockout]
      exact hflight
    · rw [taken_stands (by decide) (by decide)]
      refine (stands_congr ?_).trans (heardState_stands_of_ne 0 (by decide) s)
      simp only [settleOrder, settleStarted, State.setOrders_holds, startWrite_holds]
    · rw [taken_store]
      show (startWrite _ (heardState 0 s)).store.lockoutA = _ ∧ (startWrite _ (heardState 0 s)).store.lockoutB = _
      rw [hstore, ha, heardState_store]
      exact ⟨rfl, rfl⟩
    · rw [taken_store]
      show (startWrite _ (heardState 0 s)).store.lockoutB = _ ∧ (startWrite _ (heardState 0 s)).store.lockoutA = _
      rw [hstore, hb, heardState_store]
      exact ⟨rfl, rfl⟩
    · simp only [settleOrder, settleStarted, State.setOrders_link, startWrite_link]

end Sys2Proof.Machine

/-! RESTART (R205), and the orders that are not executed: repeated ones and those to another station (R198, R200). -/

namespace Sys2Proof.Machine

section
variable {s t u v : State} {number : Byte} {target extra : Nat} {kind : OrderKind} {i : Instr}

/-! ### A start delivered by an order -/

theorem judgeView_startRun (straps : Straps) (feedback : SwitchPos) (medium : Medium) (s : State) :
    judgeView (startRun straps feedback medium s) = startRun straps feedback medium s := by
  simp [judgeView, judgeLink, judgeDiscord, startRun, Roster.atStart, BallotUnit.atStart]

/-- Nothing that ends an arrival touches a station that has just been started. -/
theorem taken_startRun (before : State) (straps : Straps) (feedback : SwitchPos) (medium : Medium) (s : State) :
    endEvent before (judgeView (startRun straps feedback medium s)) = startRun straps feedback medium s := by
  rw [judgeView_startRun, endEvent_startRun]

/-- The state in which an order's RESTART leaves the station (R160, R161). -/
structure Restarted (s t : State) : Prop where
  mode : t.ballot.mode = .start
  orders : t.orders = ⟨none, none, none, none, none⟩
  readComplete : t.startup.readComplete = false
  store : t.store = s.store
  mute : t.link.mute = false
  feedback : t.switch.feedback = s.pins.feedback
  pins : t.pins = ⟨strapsAtRestart s.pins.straps, s.pins.feedback⟩
  address : t.startup.address = (strapsAtRestart s.pins.straps).level.toNat

theorem restartRun_restarted (hpins : u.pins = s.pins) (hstore : u.store = s.store) :
    Restarted s (endEvent s (judgeView (restartRun u))) := by
  unfold restartRun
  rw [taken_startRun, hpins]
  exact ⟨rfl, rfl, rfl, hstore, rfl, rfl, rfl, rfl⟩

theorem heardState_restarted (s : State) : Restarted s (endEvent s (judgeView (restartRun (heardState 0 s)))) :=
  restartRun_restarted (heardState_pins 0 s) (heardState_store 0 s)

/-! ### RESTART targeted at the station -/

theorem exec_restart_eq (number : Byte) (target : Nat) (args : List Byte) (s : State) :
    exec (.restart number target args) s =
      event (orderArrives number target args.length .restart args.isEmpty (doneAfter fun t => t) noBroadcast) s := rfl

theorem exec_restart (hnew : TakesNewOrder s number target) :
    exec (.restart number target []) s =
      .next (endEvent s (judgeView (settleAnswer number .restart (.done []) (heardState 0 s)))) := by
  have hvalid : orderFrameValid target ([] : List Byte).length = true := orderFrameValid_of_le hnew.2.2.1 (Nat.zero_le _)
  have hfits : ([] : List Byte).isEmpty = true := rfl
  rw [exec_restart_eq, event_order hvalid hnew.1, hfits, orderTaken, takeOrder_heard_new hnew]
  rfl

/-- A RESTART answered on a station that can send: its ANSWER bears the restart mark (R205). -/
theorem settleAnswer_restart_of_sending (h : u.link.mute = false) :
    settleAnswer number .restart (.done []) u =
      claim (.answer [number, 0x10#8] true) (remembered number .restart (.done []) u) := by
  rw [settleAnswer_of_answering fun hr => by cases h.symm.trans hr.2.2]
  rfl

theorem settleAnswer_restart_of_mute (h : u.link.mute = true) :
    settleAnswer number .restart (.done []) u = restartRun (remembered number .restart (.done []) u) := if_pos h

theorem confirmOffer_medium (a : Nat) (m : Mode) (b : Ballot) (s : State) : (confirmOffer a m b s).link.medium = s.link.medium := by
  unfold confirmOffer
  (repeat' split) <;> simp

theorem enterClosed_medium (s : State) : (enterClosed s).link.medium = s.link.medium := by
  unfold enterClosed
  split <;> simp

theorem itemSent_medium (x : Sending) (s : State) : (itemSent x s).link.medium = s.link.medium := by
  unfold itemSent frameSent noticeSent keepForReplay ownTallySent ownCommitSent removeQueued clearAnnounce
  dsimp only
  (repeat' split) <;> simp [confirmOffer_medium, enterClosed_medium]

theorem muteAfter_medium (x : Sending) (s : State) : (muteAfter x s).link.medium = s.link.medium := by
  unfold muteAfter
  split <;> rfl

/-- The medium is quiet after a send (R188). -/
theorem sendSettled_medium (x : Sending) (s : State) : (sendSettled x s).link.medium = .idle := by
  rw [sendSettled, muteAfter_medium, liftHold_link_medium, itemSent_medium]
  rfl

theorem completeSend_of_marked {x : Sending} {n : Nat} {q : QueueEntry} {p : List Byte} (hsending : s.link.sending = some x)
    (hitem : x.item = .queued n) (hqueued : s.queuedOf n = some q) (hclaim : q.claim = .answer p true) :
    completeSend s = restartRun (sendSettled x s) := by
  have hmarked : s.sendsRestart x = true := by
    obtain ⟨item, claim⟩ := q
    unfold State.sendsRestart
    rw [hitem]
    dsimp only
    rw [hqueued, show claim = .answer p true from hclaim]
  rw [completeSend_of_sending hsending, if_pos hmarked]

end

/-- Settles O52. -/
theorem restartStartsStation : Obligations.RestartStartsStation := by
  refine ⟨strapsAtRestart_unmoved, strapsAtRestart_moved, fun s number target => ⟨fun hnew => ?_, ?_⟩⟩
  · refine ⟨_, exec_restart hnew, fun hsends => ?_, fun hmute => ?_⟩
    · have hanswers := (setOrders_answers { (heardState 0 s).orders with
        memory := some ⟨number, .restart, .done, some [number, 0x10#8]⟩ } (heardState 0 s)).trans (claim_answers (.answer [number, 0x10#8] true) _)
      rw [settleAnswer_restart_of_sending (by rw [heardState_link_mute]; exact hsends)]
      refine ⟨?_, hanswers.heardOnly.startup, fun hroom => ?_⟩
      · unfold AnsweredWith
        rw [taken_orders, claim_orders]
        rfl
      · have hheard : Roomy 2 (heardState 0 s) := (heardState_gateway_fills s).roomy hroom.roomy
        have hremembered : Fills 0 (heardState 0 s) (remembered number .restart (.done []) (heardState 0 s)) := .of_same rfl rfl le_rfl
        have hroomy : Roomy 2 (remembered number .restart (.done []) (heardState 0 s)) := hremembered.roomy hheard
        exact queued_taken ((claim_fills _ _).roomy (hroomy.mono (by decide))) (hroomy.claim_queued _)
    · have hstarted := restartRun_restarted (s := s) (u := remembered number .restart (.done []) (heardState 0 s)) (heardState_pins 0 s)
        (heardState_store 0 s)
      rw [settleAnswer_restart_of_mute (by rw [heardState_link_mute]; exact hmute)]
      exact ⟨hstarted.mode, by rw [hstarted.orders], hstarted.readComplete, hstarted.store, hstarted.mute, hstarted.feedback, hstarted.pins,
        hstarted.address⟩
  · intro x hsending n hitem q hqueued p hclaim
    have hrun : completeSend s = startRun (strapsAtRestart s.pins.straps) s.pins.feedback .idle s := by
      rw [completeSend_of_marked hsending hitem hqueued hclaim, restartRun_sendSettled, sendSettled_medium]
    have hevent : exec .sendCompletion s = .next (endEvent s (completeSend s)) := event_eq_next completeSend s
    rw [hevent, hrun, endEvent_startRun]

end Sys2Proof.Machine

/-! The orders that are not executed: repeated ones and those to another station (R198, R200). -/

namespace Sys2Proof.Machine

section
variable {s t u v : State} {number : Byte} {target extra : Nat} {kind : OrderKind} {i : Instr}

/-! ### The command of an order's payload -/

/-- The command is the arrival of an ORDER frame with this number and this target. -/
def IsOrder (i : Instr) (number : Byte) (target : Nat) : Prop :=
  ∃ extra kind fits run broadcast,
    (∀ s, exec i s = event (orderArrives number target extra kind fits run broadcast) s) ∧ orderFrameValid target extra = true

/-- The number and the target that an order's payload begins with. -/
theorem IsOrder.of_payload {n : Byte} {a code : Nat} {args tail : List Byte} {byte : Byte} {fits : Bool}
    {run : State → State × OrderResult} {broadcast : State → State} (hvalid : orderFrameValid a extra = true)
    (hexec : ∀ s, exec i s = event (orderArrives n a extra kind fits run broadcast) s)
    (hbytes : some (orderPayload n a code args) = some (number :: byte :: tail)) : IsOrder i number byte.toNat := by
  obtain ⟨rfl, hbyte⟩ : n = number ∧ BitVec.ofNat 8 a = byte := by
    unfold orderPayload at hbytes
    simp only [Option.some.injEq, List.cons.injEq] at hbytes
    exact ⟨hbytes.1, hbytes.2.1⟩
  have hle : a ≤ 31 := by
    unfold orderFrameValid at hvalid
    exact of_decide_eq_true (Bool.and_eq_true_iff.1 hvalid).1
  have htarget : byte.toNat = a := by
    rw [← hbyte, BitVec.toNat_ofNat]
    omega
  rw [htarget]
  exact ⟨extra, kind, fits, run, broadcast, hexec, hvalid⟩

/-- A well-formed command with an order's payload is the arrival of that order. -/
theorem isOrder_of_payload {byte : Byte} {tail : List Byte} (h : payloadOfOrder i = some (number :: byte :: tail))
    (hwell : i.wellFormed = true) : IsOrder i number byte.toNat := by
  cases i with
  | orderOpen n t a => exact .of_payload hwell (fun _ => rfl) h
  | orderFree n t a => exact .of_payload hwell (fun _ => rfl) h
  | reclose n t a => exact .of_payload hwell (fun _ => rfl) h
  | release n t a => exact .of_payload hwell (fun _ => rfl) h
  | clearSwitch n t a => exact .of_payload hwell (fun _ => rfl) h
  | store n t a => exact .of_payload (Bool.and_eq_true_iff.1 hwell).1 (fun _ => rfl) h
  | storeCommit n t page data =>
    have hvalid : orderFrameValid t (2 + data.length) = true := by
      rw [Nat.add_comm]
      exact hwell
    exact .of_payload hvalid (fun _ => rfl) h
  | pauseBleed n t a => exact .of_payload hwell (fun _ => rfl) h
  | resumeBleed n t a => exact .of_payload hwell (fun _ => rfl) h
  | restart n t a => exact .of_payload hwell (fun _ => rfl) h
  | readIdentity n t a => exact .of_payload hwell (fun _ => rfl) h
  | readSamples n t a => exact .of_payload hwell (fun _ => rfl) h
  | readMonitor n t a => exact .of_payload hwell (fun _ => rfl) h
  | readOwnHolds n t a => exact .of_payload hwell (fun _ => rfl) h
  | readRemoteHolds n t a => exact .of_payload hwell (fun _ => rfl) h
  | readRoster n t a => exact .of_payload hwell (fun _ => rfl) h
  | readBleed n t a => exact .of_payload hwell (fun _ => rfl) h
  | readBallot n t a => exact .of_payload hwell (fun _ => rfl) h
  | readLockout n t a => exact .of_payload hwell (fun _ => rfl) h
  | readConfig n t a => exact .of_payload hwell (fun _ => rfl) h
  | orderOfUnknownKind n t k a => exact .of_payload (Bool.and_eq_true_iff.1 hwell).1 (fun _ => rfl) h
  | readOfUnknownRecord n t a => exact .of_payload (Bool.and_eq_true_iff.1 hwell).1 (fun _ => rfl) h
  | _ => cases h

/-- An order to another station makes nothing of the state in which the gateway has been heard. -/
theorem IsOrder.exec_foreign (h : IsOrder i number target) (htakes : TakesFrom s 0) (hown : target ≠ s.own) (h31 : target ≠ 31) :
    exec i s = .next (endEvent s (judgeView (heardState 0 s))) := by
  obtain ⟨extra, kind, fits, run, broadcast, hexec, hvalid⟩ := h
  rw [hexec, event_order hvalid htakes, orderTaken, takeOrder_foreign _ _ _ _ _ _ _ (by rwa [heardState_own_eq]) h31]

/-- An order under the number in the memory is answered from the memory when it is done, else not at all (R200). -/
theorem IsOrder.exec_repeated {m : OrderMemory} (h : IsOrder i number target) (htakes : TakesFrom s 0) (hown : target = s.own)
    (hmemory : s.orders.memory = some m) (hnumber : m.number = number) :
    exec i s =
      .next (endEvent s (judgeView (if m.status = .done then repeatAnswer m (heardState 0 s) else heardState 0 s))) := by
  obtain ⟨extra, kind, fits, run, broadcast, hexec, hvalid⟩ := h
  have htarget : target = (heardState 0 s).own := hown.trans (heardState_own_eq 0 s).symm
  rw [hexec, event_order hvalid htakes, orderTaken, htarget,
    takeOrder_repeated number _ _ _ _ _ m (by rw [heardState_orders]; exact hmemory) hnumber]

/-! ### The answer given again -/

theorem repeatAnswer_of_answer {m : OrderMemory} {p : List Byte} (hmute : u.link.mute = false) (hanswer : m.answer = some p) :
    repeatAnswer m u = claim (.answer p (decide (m.kind = .restart))) u := by
  unfold repeatAnswer
  rw [if_neg fun h => Bool.false_ne_true (hmute.symm.trans h.2), hanswer]

/-- Nothing is claimed on a MUTE station. -/
theorem repeatAnswer_of_mute {m : OrderMemory} (hmute : u.link.mute = true) (hkind : m.kind ≠ .restart) : repeatAnswer m u = u := by
  unfold repeatAnswer
  rw [if_neg fun h => hkind h.1]
  split
  · exact claim_of_mute hmute
  · rfl

theorem repeatAnswer_restarts {m : OrderMemory} (hmute : u.link.mute = true) (hkind : m.kind = .restart) :
    repeatAnswer m u = restartRun u := if_pos ⟨hkind, hmute⟩

/-! ### The queue of a MUTE station -/

/-- From s to t a MUTE station claims nothing. -/
structure MuteStill (s t : State) : Prop where
  mute : t.link.mute = s.link.mute
  queue : s.link.mute = true → t.link.queue = s.link.queue

theorem MuteStill.trans (h : MuteStill s t) (h' : MuteStill t u) : MuteStill s u :=
  ⟨h'.mute.trans h.mute, fun hmute => (h'.queue (h.mute.trans hmute)).trans (h.queue hmute)⟩

theorem MuteStill.of_link (hmute : t.link.mute = s.link.mute) (hqueue : t.link.queue = s.link.queue) : MuteStill s t :=
  ⟨hmute, fun _ => hqueue⟩

theorem leave_muteStill (s : State) : MuteStill s (leave s) := by
  refine ⟨leave_link_mute s, fun hmute => ?_⟩
  by_cases hp : s.isParty
  · rw [leave_of_party hp, setMode_link]
    show (withdrawClaim s).link.queue = _
    unfold withdrawClaim
    split
    · rw [claim_of_mute hmute]
    · rfl
  · rw [leave_of_not_party hp]

theorem raiseHold_muteStill (c : Cause) (i : Option Nat) (d : Option Detail) (s : State) : MuteStill s (raiseHold c i d s) := by
  obtain ⟨-, h⟩ | ⟨x, -, -, h⟩ | ⟨x, -, -, h | h⟩ := raiseHold_cases c i d s <;> rw [h]
  · exact .trans (.of_link (by simp) (by simp)) (leave_muteStill _)
  · exact .of_link rfl rfl
  · exact .of_link rfl rfl
  · exact .of_link (by rw [appendNotice_link_mute]; rfl) (by rw [appendNotice_link_queue]; rfl)

theorem judgeDiscord_muteStill (s : State) : MuteStill s (judgeDiscord s) := by
  unfold judgeDiscord
  split
  · exact .of_link rfl rfl
  · split
    · exact raiseHold_muteStill ..
    · exact .of_link (by simp) (by simp)

theorem judgeLink_muteStill (s : State) : MuteStill s (judgeLink s) := by
  unfold judgeLink
  split
  · split
    · exact .of_link (by simp) (by simp)
    · exact raiseHold_muteStill ..
  · exact .of_link rfl rfl

/-- An arrival from the gateway that claims nothing itself leaves the queue of a MUTE station. -/
theorem heard_muteStill (s : State) : MuteStill s (endEvent s (judgeView (heardState 0 s))) := by
  have hheard : MuteStill s (hear 0 (lineHeard 0 s)) := by
    rw [hear_gateway]
    exact .of_link (by simp [lineHeard]) (by simp [lineHeard])
  have hjudged := ((hheard.trans (judgeDiscord_muteStill _)).trans (judgeLink_muteStill _)).trans (judgeDiscord_muteStill _)
  exact hjudged.trans (.of_link (endEvent_link_mute ..) (endEvent_link_queue ..))

/-! ### An order that changes nothing of the order handler -/

/-- An order is heard, and the order handler and the counter of free values stay. -/
structure NotExecuted (s t : State) : Prop extends HeardOnly s t where
  orders : t.orders = s.orders
  free : t.free = s.free

theorem Answers.notExecuted (h : Answers (heardState 0 s) v) (horders : v.orders = (heardState 0 s).orders)
    (hfree : v.free = (heardState 0 s).free) : NotExecuted s (endEvent s (judgeView v)) where
  toHeardOnly := h.heardOnly
  orders := by rw [taken_orders, horders, heardState_orders]
  free := by rw [endEvent_free, judgeView_free, hfree, heardState_free]

theorem heard_notExecuted (s : State) : NotExecuted s (endEvent s (judgeView (heardState 0 s))) :=
  (Answers.refl _).notExecuted rfl rfl

/-- What the obligation asks of a state that an order has not been executed in. -/
theorem NotExecuted.same (h : NotExecuted s t) :
    t.orders = s.orders ∧ t.holds.own = (judgeView (heardState 0 s)).holds.own ∧ t.roster = (judgeView (heardState 0 s)).roster ∧
      t.ballot.mode = (judgeView (heardState 0 s)).ballot.mode ∧ t.plan = s.plan ∧ t.lockout = s.lockout ∧ t.store = s.store ∧
      t.free = s.free :=
  ⟨h.orders, h.own, h.roster.trans (judgeView_roster _).symm, h.mode, h.plan, h.lockout, h.store, h.free⟩

end

/-- Settles O54, by the status of the memory and by whether the station is MUTE. -/
theorem repeatedAndForeignOrders : Obligations.RepeatedAndForeignOrders := by
  intro i s number target kind args hpayload hwell htakes
  have horder : IsOrder i number target.toNat := isOrder_of_payload hpayload hwell
  refine ⟨fun hown h31 => ⟨_, horder.exec_foreign htakes hown h31, (heard_notExecuted s).same⟩, fun m hown hmemory hnumber => ?_⟩
  have hexec := horder.exec_repeated htakes hown hmemory hnumber
  refine ⟨fun hprogress => ?_, fun p hdone hanswer hmute => ?_, fun hdone hmute => ⟨fun hkind => ?_, fun hkind => ?_⟩⟩
  · rw [if_neg (by rw [hprogress]; decide)] at hexec
    exact ⟨_, hexec, (heard_notExecuted s).same, taken_onlyWithdraws rfl⟩
  · rw [if_pos hdone, repeatAnswer_of_answer (by rw [heardState_link_mute]; exact hmute) hanswer] at hexec
    refine ⟨_, hexec, ((claim_answers _ _).notExecuted (claim_orders _ _) (claim_free _ _)).same, fun hroom => ?_⟩
    have hheard : Roomy 2 (heardState 0 s) := (heardState_gateway_fills s).roomy hroom.roomy
    exact queued_taken ((claim_fills _ _).roomy (hheard.mono (by decide))) (hheard.claim_queued _)
  · rw [if_pos hdone, repeatAnswer_of_mute (by rw [heardState_link_mute]; exact hmute) hkind] at hexec
    refine ⟨_, hexec, (heard_notExecuted s).same, fun q hq => ?_⟩
    rwa [(heard_muteStill s).queue hmute] at hq
  · rw [if_pos hdone, repeatAnswer_restarts (by rw [heardState_link_mute]; exact hmute) hkind] at hexec
    have hstarted := heardState_restarted s
    exact ⟨_, hexec, hstarted.mode, hstarted.orders, hstarted.readComplete, hstarted.store, hstarted.mute, hstarted.feedback,
      hstarted.pins, hstarted.address⟩

end Sys2Proof.Machine

/-! READ orders (R208), and the orders that do not fit their kind (R198). -/

namespace Sys2Proof.Machine

section
variable {s t u v : State} {number : Byte} {target extra : Nat} {kind : OrderKind} {i : Instr} {c : Instr}

/-! ### READ -/

/-- A READ of the machine with this builder of its record. -/
def IsRead (c : Instr) (number : Byte) (target : Nat) (args : List Byte) (read : Nat → Nat → State → OrderResult) : Prop :=
  ∀ s, exec c s = event (readArrives number target args read) s

theorem fieldNat_single (x : Byte) (l : List Byte) : fieldNat (x :: l) 0 1 = x.toNat := by simp [fieldNat, beNat]

theorem fieldNat_second (x y : Byte) (l : List Byte) : fieldNat (x :: y :: l) 1 1 = y.toNat := by simp [fieldNat, beNat]

/-- A READ answered with what its builder makes of the state in which the gateway has been heard. -/
theorem IsRead.exec_new {index page : Byte} {read : Nat → Nat → State → OrderResult} (h : IsRead c number target [index, page] read)
    (hnew : TakesNewOrder s number target) {r : OrderResult} (hr : r ≠ .started)
    (hread : read index.toNat page.toNat (heardState 0 s) = r) :
    exec c s = .next (endEvent s (judgeView (answered number .read r
      ((heardState 0 s).setFree ((heardState 0 s).free + 3))))) := by
  have hvalid : orderFrameValid target (1 + [index, page].length) = true := orderFrameValid_of_le hnew.2.2.1 (by decide : 3 ≤ 29)
  have hfits : decide ([index, page].length = 2) = true := rfl
  rw [h s]
  unfold readArrives
  rw [event_order hvalid hnew.1, hfits, orderTaken, takeOrder_heard_new hnew]
  dsimp only
  rw [fieldNat_single, fieldNat_second, hread, settleOrder_of_not_restart hr (by decide)]
  rfl

/-- A READ answered with this payload, and what the event leaves beside it (R208). -/
def ReadAnswered (s : State) (c : Instr) (number : Byte) (payload : List Byte) : Prop :=
  ∃ t, exec c s = .next t ∧ AnsweredWith t number .read payload ∧ (HasRoom s → Queued t (.answer payload false)) ∧
    t.holds.own = (judgeView (heardState 0 s)).holds.own ∧ t.holds.remote = s.holds.remote ∧ t.roster = (heardState 0 s).roster ∧
    t.ballot.mode = (judgeView (heardState 0 s)).ballot.mode ∧ t.plan = s.plan ∧ t.lockout = s.lockout ∧ t.store = s.store ∧
    t.startup = s.startup ∧ t.sweep = s.sweep ∧ t.monitors = s.monitors ∧ t.orders.awaited = s.orders.awaited ∧
    t.orders.page0 = s.orders.page0

theorem IsRead.answers {index page : Byte} {read : Nat → Nat → State → OrderResult} (h : IsRead c number target [index, page] read)
    (hnew : TakesNewOrder s number target) {r : OrderResult} (hr : r ≠ .started)
    (hread : read index.toNat page.toNat (heardState 0 s) = r) :
    ReadAnswered s c number (answerPayload number r) := by
  have hfree : Fills 0 (heardState 0 s) ((heardState 0 s).setFree ((heardState 0 s).free + 3)) := .of_same rfl rfl le_rfl
  have hfills : Fills 1 s ((heardState 0 s).setFree ((heardState 0 s).free + 3)) :=
    ((heardState_gateway_fills s).then_none hfree).mono (Nat.zero_le 1)
  have honly := ((setFree_answers _ _).trans
    (answered_answers number .read r ((heardState 0 s).setFree ((heardState 0 s).free + 3)))).heardOnly
  obtain ⟨hwith, hqueued⟩ := hfills.answeredBy number .read r
  refine ⟨_, h.exec_new hnew hr hread, hwith, hqueued, honly.own, honly.remote, honly.roster, honly.mode, honly.plan, honly.lockout,
    honly.store, honly.startup, honly.sweep, honly.monitors, ?_, ?_⟩
  · rw [taken_orders, answered_orders]
    show (heardState 0 s).orders.awaited = _
    rw [heardState_orders]
  · rw [taken_orders, answered_orders]
    show (heardState 0 s).orders.page0 = _
    rw [heardState_orders]

theorem IsRead.answers_done {index page : Byte} {read : Nat → Nat → State → OrderResult} (h : IsRead c number target [index, page] read)
    (hnew : TakesNewOrder s number target) {record : List Byte}
    (hread : read index.toNat page.toNat (heardState 0 s) = .done record) : ReadAnswered s c number (number :: 0x10#8 :: record) :=
  h.answers hnew (r := .done record) nofun hread

theorem IsRead.answers_bad {index page : Byte} {read : Nat → Nat → State → OrderResult} (h : IsRead c number target [index, page] read)
    (hnew : TakesNewOrder s number target) (hread : read index.toNat page.toNat (heardState 0 s) = .bad) :
    ReadAnswered s c number [number, 0x40#8] := h.answers hnew (r := .bad) nofun hread

theorem recordResult_some {o : Option (List Byte)} {r : List Byte} (h : o = some r) : recordResult o = .done r := by
  rw [h]
  rfl

theorem recordResult_none {o : Option (List Byte)} (h : o = none) : recordResult o = .bad := by
  rw [h]
  rfl

theorem samplesRecord_none (s : State) {n : Nat} (h : 1 < n) : s.samplesRecord n = none := by
  obtain ⟨k, rfl⟩ := Nat.exists_eq_add_of_lt h
  rw [show 1 + k + 1 = k + 2 by omega]
  cases hlatest : s.sweep.latest with
  | none =>
    unfold State.samplesRecord
    rw [hlatest]
    rfl
  | some x =>
    unfold State.samplesRecord
    rw [hlatest]
    rfl

theorem configRecord_none (s : State) {n : Nat} (h : 2 < n) : s.configRecord n = none := by
  obtain ⟨k, rfl⟩ := Nat.exists_eq_add_of_lt h
  rw [show 2 + k + 1 = k + 3 by omega]
  rfl

theorem monitor_none {records : List Monitor} {n : Nat} (h : ∀ m ∈ records, m.number ≠ n) :
    records.find? (fun m => decide (m.number = n)) = none :=
  List.find?_eq_none.2 fun m hm => by simpa using h m hm

end

/-- Settles O50, each READ by what its builder answers. -/
theorem readAnswersRecord : Obligations.ReadAnswersRecord := by
  intro s number target index page hnew
  refine ⟨?_, fun r hr => ?_, fun hpage => ?_, fun m hm => ?_, fun hnone => ?_, fun hpage => ?_, fun hpage => ?_, fun hpage => ?_,
    fun hpage => ?_, fun hindex hpage => ?_, fun hout => ?_, ?_, ?_, ?_, fun r hr => ?_, fun hpage => ?_⟩
  · exact IsRead.answers_done (read := readIdentity) (fun _ => rfl) hnew rfl
  · exact IsRead.answers_done (read := readSamples) (fun _ => rfl) hnew (recordResult_some hr)
  · exact IsRead.answers_bad (read := readSamples) (fun _ => rfl) hnew (recordResult_none (samplesRecord_none _ hpage))
  · exact IsRead.answers_done (read := readMonitor) (fun _ => rfl) hnew (recordResult_some (by rw [hm]; rfl))
  · exact IsRead.answers_bad (read := readMonitor) (fun _ => rfl) hnew (recordResult_none (by rw [monitor_none hnone]; rfl))
  · exact IsRead.answers_done (read := readOwnHolds) (fun _ => rfl) hnew (recordResult_some (if_pos hpage))
  · exact IsRead.answers_bad (read := readOwnHolds) (fun _ => rfl) hnew (recordResult_none (if_neg (Nat.not_le.2 hpage)))
  · exact IsRead.answers_done (read := readRemoteHolds) (fun _ => rfl) hnew (recordResult_some (if_pos hpage))
  · exact IsRead.answers_bad (read := readRemoteHolds) (fun _ => rfl) hnew (recordResult_none (if_neg (Nat.not_le.2 hpage)))
  · exact IsRead.answers_done (read := readRoster) (fun _ => rfl) hnew (recordResult_some (if_pos ⟨hindex, hpage⟩))
  · exact IsRead.answers_bad (read := readRoster) (fun _ => rfl) hnew (recordResult_none (if_neg fun h => by omega))
  · exact IsRead.answers_done (read := readBleed) (fun _ => rfl) hnew rfl
  · exact IsRead.answers_done (read := readBallot) (fun _ => rfl) hnew rfl
  · exact IsRead.answers_done (read := readLockout) (fun _ => rfl) hnew rfl
  · exact IsRead.answers_done (read := readConfig) (fun _ => rfl) hnew (recordResult_some hr)
  · exact IsRead.answers_bad (read := readConfig) (fun _ => rfl) hnew (recordResult_none (configRecord_none _ hpage))

end Sys2Proof.Machine

/-! The orders that do not fit their kind, and those that cannot be sent to all stations (R198, R201). -/

namespace Sys2Proof.Machine

section
variable {s t u v : State} {number : Byte} {target extra : Nat} {kind : OrderKind} {c : Instr} {args : List Byte}

/-! ### Unfit and ignored orders -/

/-- The command is an order of this kind that does not fit it. -/
def IsUnfit (c : Instr) (number : Byte) (target : Nat) (kind : OrderKind) : Prop :=
  ∃ extra fits run broadcast, (∀ s, exec c s = event (orderArrives number target extra kind fits run broadcast) s) ∧ extra ≤ 29 ∧
    fits = false

/-- The command is an order to all stations that none of them executes. -/
def IsIgnored (c : Instr) (number : Byte) : Prop :=
  ∃ extra kind fits run broadcast, (∀ s, exec c s = event (orderArrives number 31 extra kind fits run broadcast) s) ∧ extra ≤ 29 ∧
    (fits = false ∨ broadcast = noBroadcast)

/-- The blocks that an order leaves as hearing and judging have them. -/
def SameAsHeard (s t : State) : Prop :=
  t.holds.own = (judgeView (heardState 0 s)).holds.own ∧ t.holds.remote = s.holds.remote ∧ t.roster = (judgeView (heardState 0 s)).roster ∧
    t.ballot.mode = (judgeView (heardState 0 s)).ballot.mode ∧ t.plan = s.plan ∧ t.lockout = s.lockout ∧ t.store = s.store ∧
    t.startup = s.startup

theorem HeardOnly.same (h : HeardOnly s t) : SameAsHeard s t :=
  ⟨h.own, h.remote, h.roster.trans (judgeView_roster _).symm, h.mode, h.plan, h.lockout, h.store, h.startup⟩

/-- An order answered BAD with nothing else done. -/
theorem answered_bad (number : Byte) (kind : OrderKind) (s : State) :
    AnsweredBy s (endEvent s (judgeView (answered number kind .bad (heardState 0 s)))) number kind [number, 0x40#8] ∧
      SameAsHeard s (endEvent s (judgeView (answered number kind .bad (heardState 0 s)))) :=
  ⟨((heardState_gateway_fills s).mono (Nat.zero_le 1)).answeredBy number kind .bad, (answered_answers ..).heardOnly.same⟩

/-- A targeted order that does not fit its kind is answered BAD (R198). -/
theorem IsUnfit.bad (h : IsUnfit c number target kind) (hnew : TakesNewOrder s number target) :
    ∃ t, exec c s = .next t ∧ AnsweredBy s t number kind [number, 0x40#8] ∧ SameAsHeard s t := by
  obtain ⟨extra, fits, run, broadcast, hexec, hextra, rfl⟩ := h
  refine ⟨_, ?_, answered_bad number kind s⟩
  rw [hexec, event_order (orderFrameValid_of_le hnew.2.2.1 hextra) hnew.1, orderTaken, takeOrder_heard_unfit hnew, settleOrder_bad]
  rfl

/-- An ignored order is heard and does no more (R201). -/
theorem IsIgnored.ignored (h : IsIgnored c number) (htakes : TakesFrom s 0) (hown : s.own ≠ 31) :
    ∃ t, exec c s = .next t ∧ t.orders = s.orders ∧ SameAsHeard s t := by
  obtain ⟨extra, kind, fits, run, broadcast, hexec, hextra, hnone⟩ := h
  refine ⟨endEvent s (judgeView (heardState 0 s)), ?_, ?_, (Answers.refl _).heardOnly.same⟩
  · rw [hexec, event_order (orderFrameValid_of_le (by decide) hextra) htakes, orderTaken, takeOrder_heard_broadcast hown]
    rcases hnone with rfl | rfl
    · rfl
    · rw [noBroadcast, ite_self]
  · rw [taken_orders, heardState_orders]

/-! ### Which orders they are -/

theorem isEmpty_eq_false (h : args ≠ []) : args.isEmpty = false := by
  cases args with
  | nil => exact absurd rfl h
  | cons => rfl

/-- The orders that take no argument, with arguments. -/
theorem bare_unfit (target : Nat) (hlength : args.length ≤ 29) (h : args ≠ []) :
    ∀ p ∈ [(Instr.orderOpen number target args, OrderKind.openOrder), (.orderFree number target args, .free),
      (.reclose number target args, .reclose), (.pauseBleed number target args, .pauseBleed),
      (.resumeBleed number target args, .resumeBleed)], IsUnfit p.1 number target p.2 := by
  have hunfit := isEmpty_eq_false h
  simp only [List.forall_mem_cons, List.not_mem_nil, false_implies, implies_true, and_true]
  exact ⟨⟨_, _, _, _, fun _ => rfl, hlength, hunfit⟩, ⟨_, _, _, _, fun _ => rfl, hlength, hunfit⟩, ⟨_, _, _, _, fun _ => rfl, hlength, hunfit⟩,
    ⟨_, _, _, _, fun _ => rfl, hlength, hunfit⟩, ⟨_, _, _, _, fun _ => rfl, hlength, hunfit⟩⟩

theorem IsUnfit.isIgnored (h : IsUnfit c number 31 kind) : IsIgnored c number := by
  obtain ⟨extra, fits, run, broadcast, hexec, hextra, hfits⟩ := h
  exact ⟨extra, kind, fits, run, broadcast, hexec, hextra, .inl hfits⟩

/-- The ten READ orders. -/
theorem reads_isRead (number : Byte) (target : Nat) (args : List Byte) :
    ∀ c ∈ [Instr.readIdentity number target args, .readSamples number target args, .readMonitor number target args,
      .readOwnHolds number target args, .readRemoteHolds number target args, .readRoster number target args,
      .readBleed number target args, .readBallot number target args, .readLockout number target args, .readConfig number target args],
      ∃ read, IsRead c number target args read := by
  simp only [List.forall_mem_cons, List.not_mem_nil, false_implies, implies_true, and_true]
  exact ⟨⟨_, fun _ => rfl⟩, ⟨_, fun _ => rfl⟩, ⟨_, fun _ => rfl⟩, ⟨_, fun _ => rfl⟩, ⟨_, fun _ => rfl⟩, ⟨_, fun _ => rfl⟩,
    ⟨_, fun _ => rfl⟩, ⟨_, fun _ => rfl⟩, ⟨_, fun _ => rfl⟩, ⟨_, fun _ => rfl⟩⟩

theorem IsRead.unfit {read : Nat → Nat → State → OrderResult} (h : IsRead c number target args read) (hlength : args.length ≤ 28)
    (hargs : args.length ≠ 2) : IsUnfit c number target .read :=
  ⟨1 + args.length, _, _, _, h, by omega, decide_eq_false hargs⟩

theorem IsRead.isIgnored {read : Nat → Nat → State → OrderResult} (h : IsRead c number 31 args read) (hlength : args.length ≤ 28) :
    IsIgnored c number := ⟨1 + args.length, .read, _, _, noBroadcast, h, by omega, .inr rfl⟩

/-- A STORE whose commit byte is neither 0 nor 1 is answered BAD (R206). -/
theorem runStoreArgs_of_bad_commit {page commit : Byte} (h : 1 < commit.toNat) (u : State) :
    runStoreArgs (page :: commit :: args) u = (u, .bad) := if_pos h

theorem exec_store_eq (number : Byte) (target : Nat) (args : List Byte) (s : State) :
    exec (.store number target args) s =
      event (orderArrives number target args.length .store (decide (2 ≤ args.length)) (runStoreArgs args) noBroadcast) s := rfl

/-- A STORE with page and commit byte, targeted at the station. -/
theorem exec_store (hnew : TakesNewOrder s number target) {page commit : Byte} (hlength : args.length ≤ 27) :
    exec (.store number target (page :: commit :: args)) s =
      .next (endEvent s (judgeView (settleOrder number .store (runStore page commit args (heardState 0 s)).2
        (runStore page commit args (heardState 0 s)).1))) := by
  have hlengths : (page :: commit :: args).length = args.length + 2 := rfl
  have hvalid : orderFrameValid target (page :: commit :: args).length = true :=
    orderFrameValid_of_le hnew.2.2.1 (by rw [hlengths]; omega)
  have hfits : decide (2 ≤ (page :: commit :: args).length) = true := decide_eq_true (by rw [hlengths]; omega)
  rw [exec_store_eq, event_order hvalid hnew.1, hfits, orderTaken, takeOrder_heard_new hnew]
  rfl

theorem store_bad_commit (hnew : TakesNewOrder s number target) {page commit : Byte} (hlength : args.length ≤ 27) (h : 1 < commit.toNat) :
    ∃ t, exec (.store number target (page :: commit :: args)) s = .next t ∧ AnsweredBy s t number .store [number, 0x40#8] ∧
      SameAsHeard s t := by
  refine ⟨_, exec_store hnew hlength, ?_⟩
  rw [show runStore page commit args (heardState 0 s) = (heardState 0 s, .bad) from if_pos h, settleOrder_bad]
  exact answered_bad number .store s

end

/-- Settles O53. -/
theorem unfitOrdersAnsweredBad : Obligations.UnfitOrdersAnsweredBad := by
  intro s number kind target args htakes hlength
  have hlong : args.length ≤ 29 := by omega
  refine ⟨fun hnew => ⟨?_, ?_, fun hargs => ⟨fun p hp => ?_, ?_, ?_⟩, fun hargs => ⟨?_, fun c hc => ?_⟩, fun hargs => ?_,
    fun page commit hcommit => ?_⟩, fun hown => ⟨?_, ?_, fun hargs p hp => ?_, fun c hc => ?_, ?_, ?_, ?_, ?_, ?_⟩⟩
  · exact IsUnfit.bad ⟨_, _, _, _, fun _ => rfl, hlong, rfl⟩ hnew
  · exact IsUnfit.bad ⟨_, _, _, _, fun _ => rfl, hlong, rfl⟩ hnew
  · exact (bare_unfit target hlong hargs p hp).bad hnew
  · exact IsUnfit.bad ⟨_, _, _, _, fun _ => rfl, hlong, isEmpty_eq_false hargs⟩ hnew
  · exact IsUnfit.bad ⟨_, _, _, _, fun _ => rfl, hlong, isEmpty_eq_false hargs⟩ hnew
  · exact IsUnfit.bad ⟨_, _, _, _, fun _ => rfl, hlong, decide_eq_false hargs⟩ hnew
  · obtain ⟨read, hread⟩ := reads_isRead number target args c hc
    exact (hread.unfit (by omega) hargs).bad hnew
  · exact IsUnfit.bad ⟨_, _, _, _, fun _ => rfl, hlong, decide_eq_false (Nat.not_le.2 hargs)⟩ hnew
  · exact store_bad_commit hnew (by omega) hcommit
  · exact IsIgnored.ignored ⟨_, _, _, _, _, fun _ => rfl, hlong, .inl rfl⟩ htakes hown
  · exact IsIgnored.ignored ⟨_, _, _, _, _, fun _ => rfl, hlong, .inl rfl⟩ htakes hown
  · exact (bare_unfit 31 hlong hargs p hp).isIgnored.ignored htakes hown
  · obtain ⟨read, hread⟩ := reads_isRead number 31 args c hc
    exact (hread.isIgnored (by omega)).ignored htakes hown
  · exact IsIgnored.ignored ⟨_, _, _, _, _, fun _ => rfl, hlong, .inr rfl⟩ htakes hown
  · exact IsIgnored.ignored ⟨_, _, _, _, _, fun _ => rfl, hlong, .inr rfl⟩ htakes hown
  · exact IsIgnored.ignored ⟨_, _, _, _, _, fun _ => rfl, hlong, .inr rfl⟩ htakes hown
  · exact IsIgnored.ignored ⟨2 + args.length, _, _, _, _, fun _ => rfl, by omega, .inr rfl⟩ htakes hown
  · exact IsIgnored.ignored ⟨_, _, _, _, _, fun _ => rfl, hlong, .inr rfl⟩ htakes hown

end Sys2Proof.Machine

/-! STORE with commit 1 (R154, R207). -/

namespace Sys2Proof.Machine

section
variable {s t u v : State} {number : Byte} {target : Nat} {data : List Byte} {n : Nat} {o : OrderHandler}

/-! ### The assembly -/

/-- The order handler with the page of this number stored in its assembly, where the data pass (R206). -/
def pageStored (n : Nat) (data : List Byte) (o : OrderHandler) : Option OrderHandler :=
  match n with
  | 0 => (page0Of data).map fun p => { o with page0 := some p }
  | 1 => (page1Of data).map fun p => { o with page1 := some p }
  | 2 => (page2Of data).map fun p => { o with page2 := some p }
  | _ => none

theorem storePage_eq (n : Nat) (data : List Byte) (s : State) :
    storePage n data s = (pageStored n data s.orders).map s.setOrders := by
  match n with
  | 0 =>
    show (page0Of data).map _ = ((page0Of data).map _).map _
    rw [Option.map_map]
    rfl
  | 1 =>
    show (page1Of data).map _ = ((page1Of data).map _).map _
    rw [Option.map_map]
    rfl
  | 2 =>
    show (page2Of data).map _ = ((page2Of data).map _).map _
    rw [Option.map_map]
    rfl
  | _ + 3 => rfl

theorem storePage_of_large (hn : 2 < n) : storePage n data s = none := by
  obtain ⟨k, rfl⟩ := Nat.exists_eq_add_of_lt hn
  rw [show 2 + k + 1 = k + 3 by omega]
  rfl

/-- The page stored in another state with the same order handler. -/
theorem storePage_of_some (horders : u.orders = s.orders) (h : storePage n data s = some v) :
    storePage n data u = some (u.setOrders v.orders) := by
  rw [storePage_eq] at h ⊢
  obtain ⟨o, ho, rfl⟩ := Option.map_eq_some_iff.1 h
  rw [horders, ho]
  rfl

theorem storePage_of_none (horders : u.orders = s.orders) (h : storePage n data s = none) : storePage n data u = none := by
  rw [storePage_eq] at h ⊢
  rw [horders, Option.map_eq_none_iff.1 h]
  rfl

theorem assembled_of_missing (h : o.page0 = none ∨ o.page1 = none ∨ o.page2 = none) : o.assembled = none := by
  unfold OrderHandler.assembled
  split
  · next h0 h1 h2 =>
    rw [h0, h1, h2] at h
    simp at h
  · rfl

theorem assembled_of_pages {p : StringParams} {c : CellParams} {l : LimitParams} (hp : o.page0 = some p) (hc : o.page1 = some c)
    (hl : o.page2 = some l) : o.assembled = some ⟨p, c, l⟩ := by
  unfold OrderHandler.assembled
  rw [hp, hc, hl]

/-! ### The configuration write -/

theorem generation_of_config {c : ConfigInUse} (h : s.startup.config = some c) : s.generation = c.generation := by
  unfold State.generation State.ownAnnounce
  rw [h]

theorem configTarget_of_config {c : ConfigInUse} (h : s.startup.config = some c) :
    (c.source = .slotA → s.configTarget = .b) ∧ (c.source = .slotB ∨ c.source = .defaults → s.configTarget = .a) := by
  obtain ⟨generation, record, source⟩ := c
  unfold State.configTarget
  rw [h]
  cases source <;> simp

theorem configTarget_congr (h : t.startup = s.startup) : t.configTarget = s.configTarget := by
  unfold State.configTarget
  rw [h]

theorem nextGeneration_congr (h : t.startup = s.startup) :
    t.nextGeneration = if s.generation < 65535 then s.generation + 1 else 65535 := by
  unfold State.nextGeneration State.generation State.ownAnnounce
  rw [h]

/-! ### The commit -/

theorem runStore_of_none {page : Byte} (h : storePage page.toNat data u = none) : runStore page 1 data u = (u, .bad) := by
  unfold runStore
  rw [if_neg (by decide), h]

theorem runStore_commit {page : Byte} (h : storePage page.toNat data u = some v) : runStore page 1 data u = runCommit v := by
  unfold runStore
  rw [if_neg (by decide), h]
  exact if_pos rfl

theorem runCommit_of_incomplete (h : v.orders.assembled = none) : runCommit v = (v, .bad) := by
  unfold runCommit
  rw [h]

section
variable {r : ConfigRecord} (hassembled : v.orders.assembled = some r)
include hassembled

theorem runCommit_of_mode (hmode : v.ballot.mode ≠ .opened) : runCommit v = (v, .refused .mode) := by
  unfold runCommit
  rw [hassembled]
  exact if_pos hmode

theorem runCommit_of_writing (hmode : v.ballot.mode = .opened) (hwriting : v.lockout.isWriting = true) : runCommit v = (v, .busy) := by
  unfold runCommit
  rw [hassembled]
  dsimp only
  rw [if_neg (not_not.2 hmode), if_pos hwriting]

theorem runCommit_of_idle (hmode : v.ballot.mode = .opened) (hidle : v.lockout.isWriting = false) :
    runCommit v =
      (startWrite (.config v.configTarget ⟨v.nextGeneration, r⟩)
        (v.setOrders { v.orders with page0 := none, page1 := none, page2 := none }), .started) := by
  unfold runCommit
  rw [hassembled]
  dsimp only
  rw [if_neg (not_not.2 hmode), if_neg (by rw [hidle]; decide)]

end

theorem runCommit_startup (v : State) : (runCommit v).1.startup = v.startup := by
  unfold runCommit
  (repeat' split) <;> simp

theorem storePage_startup {n : Nat} (h : storePage n data u = some v) : v.startup = u.startup := by
  rw [storePage_eq] at h
  obtain ⟨o, -, rfl⟩ := Option.map_eq_some_iff.1 h
  rfl

theorem runStore_commit_startup (page : Byte) (data : List Byte) (u : State) : (runStore page 1 data u).1.startup = u.startup := by
  cases h : storePage page.toNat data u with
  | none => rw [runStore_of_none h]
  | some v => rw [runStore_commit h, runCommit_startup, storePage_startup h]

theorem settleOrder_startup {kind : OrderKind} (hkind : kind ≠ .restart) (r : OrderResult) (v : State) :
    (settleOrder number kind r v).startup = v.startup := by
  by_cases hr : r = .started
  · subst hr
    rfl
  · rw [settleOrder_of_not_restart hr hkind]
    exact (answered_answers number kind r v).startup

theorem exec_storeCommit_eq (number : Byte) (target : Nat) (page : Byte) (data : List Byte) (s : State) :
    exec (.storeCommit number target page data) s =
      event (orderArrives number target (2 + data.length) .store true (runStore page 1 data) noBroadcast) s := rfl

/-- What an order that ran to this result leaves, its answer settled and the roster's holds judged. -/
def settledTaken (number : Byte) (ran : State × OrderResult) (s : State) : State :=
  endEvent s (judgeView (settleOrder number .store ran.2 ran.1))

theorem exec_storeCommit (hnew : TakesNewOrder s number target) (page : Byte) (hlength : data.length ≤ 27) :
    exec (.storeCommit number target page data) s = .next (settledTaken number (runStore page 1 data (heardState 0 s)) s) := by
  rw [exec_storeCommit_eq, event_order (orderFrameValid_of_le hnew.2.2.1 (by omega)) hnew.1, orderTaken, takeOrder_heard_new hnew]
  rfl

/-- A STORE answered with this assembly and nothing else changed. -/
structure StoreAnswered (number : Byte) (payload : List Byte) (o : OrderHandler) (s t : State) : Prop where
  startup : t.startup = s.startup
  lockout : t.lockout = s.lockout
  store : t.store = s.store
  pages : t.orders.page0 = o.page0 ∧ t.orders.page1 = o.page1 ∧ t.orders.page2 = o.page2
  answered : AnsweredBy s t number .store payload

theorem settledTaken_answered (number : Byte) {r : OrderResult} (hr : r ≠ .started) (o : OrderHandler) (s : State) :
    StoreAnswered number (answerPayload number r) o s (settledTaken number ((heardState 0 s).setOrders o, r) s) := by
  have hanswers := (setOrders_answers o (heardState 0 s)).trans (answered_answers number .store r ((heardState 0 s).setOrders o))
  have hset : Fills 0 (heardState 0 s) ((heardState 0 s).setOrders o) := .of_same rfl rfl le_rfl
  have hfills : Fills 1 s ((heardState 0 s).setOrders o) := ((heardState_gateway_fills s).then_none hset).mono (Nat.zero_le 1)
  unfold settledTaken
  rw [settleOrder_of_not_restart hr (by decide)]
  refine ⟨hanswers.heardOnly.startup, hanswers.heardOnly.lockout, hanswers.heardOnly.store, ?_, hfills.answeredBy number .store r⟩
  rw [taken_orders, claim_orders]
  exact ⟨rfl, rfl, rfl⟩

theorem setOrders_heard (s : State) : (heardState 0 s).setOrders s.orders = heardState 0 s := by
  rw [← heardState_orders 0 s]
  rfl

theorem commit_of_bad_page {page : Byte} (number : Byte) (h : storePage page.toNat data s = none) :
    StoreAnswered number [number, 0x40#8] s.orders s (settledTaken number (runStore page 1 data (heardState 0 s)) s) := by
  have hanswered := settledTaken_answered number (r := .bad) (by decide) s.orders s
  rw [setOrders_heard] at hanswered
  rw [runStore_of_none (storePage_of_none (heardState_orders 0 s) h)]
  exact hanswered

section
variable {page : Byte} (number : Byte) (hv : storePage page.toNat data s = some v)
include hv

theorem runStore_heard : runStore page 1 data (heardState 0 s) = runCommit ((heardState 0 s).setOrders v.orders) :=
  runStore_commit (storePage_of_some (heardState_orders 0 s) hv)

theorem commit_of_missing (h : v.orders.page0 = none ∨ v.orders.page1 = none ∨ v.orders.page2 = none) :
    StoreAnswered number [number, 0x40#8] v.orders s (settledTaken number (runStore page 1 data (heardState 0 s)) s) := by
  rw [runStore_heard hv, runCommit_of_incomplete (v := (heardState 0 s).setOrders v.orders) (assembled_of_missing h)]
  exact settledTaken_answered number (r := .bad) (by decide) v.orders s

section
variable {r : ConfigRecord} (hassembled : v.orders.assembled = some r)
include hassembled

theorem commit_of_mode (hmode : (heardState 0 s).ballot.mode ≠ .opened) :
    StoreAnswered number [number, 0x26#8] v.orders s (settledTaken number (runStore page 1 data (heardState 0 s)) s) := by
  rw [runStore_heard hv, runCommit_of_mode (v := (heardState 0 s).setOrders v.orders) hassembled hmode]
  exact settledTaken_answered number (r := .refused .mode) (by decide) v.orders s

theorem commit_of_writing (hmode : (heardState 0 s).ballot.mode = .opened) (hwriting : s.lockout.isWriting = true) :
    StoreAnswered number [number, 0x30#8] v.orders s (settledTaken number (runStore page 1 data (heardState 0 s)) s) := by
  rw [← heardState_lockout 0 s] at hwriting
  rw [runStore_heard hv, runCommit_of_writing (v := (heardState 0 s).setOrders v.orders) hassembled hmode hwriting]
  exact settledTaken_answered number (r := .busy) (by decide) v.orders s

theorem runStore_of_idle (hmode : (heardState 0 s).ballot.mode = .opened) (hidle : s.lockout.isWriting = false) :
    runStore page 1 data (heardState 0 s) =
      (startWrite (.config s.configTarget ⟨if s.generation < 65535 then s.generation + 1 else 65535, r⟩)
        ((heardState 0 s).setOrders { v.orders with page0 := none, page1 := none, page2 := none }), .started) := by
  have hstartup : ((heardState 0 s).setOrders v.orders).startup = s.startup := heardState_startup 0 s
  rw [← heardState_lockout 0 s] at hidle
  rw [runStore_heard hv, runCommit_of_idle (v := (heardState 0 s).setOrders v.orders) hassembled hmode hidle, configTarget_congr hstartup,
    nextGeneration_congr hstartup]
  rfl

end

end

/-- A configuration write begins with its target torn (R158). -/
theorem config_torn_a (x : ConfigSlot) (r : RetainedStore) :
    ((Write.config .a x).stored false r).configA = .torn ∧ ((Write.config .a x).stored false r).configB = r.configB := ⟨rfl, rfl⟩

theorem config_torn_b (x : ConfigSlot) (r : RetainedStore) :
    ((Write.config .b x).stored false r).configB = .torn ∧ ((Write.config .b x).stored false r).configA = r.configA := ⟨rfl, rfl⟩

/-- A configuration write started by an order (R154, R203). -/
structure WriteStarted (number : Byte) (w : Write) (o : OrderHandler) (s t : State) : Prop where
  startup : t.startup = s.startup
  orders : t.orders = { o with memory := some ⟨number, .store, .inProgress, none⟩, awaited := some number }
  inFlight : t.lockout.inFlight = some w
  store : t.store = w.stored false s.store
  record : t.lockout.record = s.lockout.record

theorem settledTaken_started (number : Byte) (w : Write) (o : OrderHandler) (s : State) :
    WriteStarted number w o s (settledTaken number (startWrite w ((heardState 0 s).setOrders o), .started) s) := by
  obtain ⟨hflight, -, hrecord, -, -, hstore⟩ := startWrite_effect w ((heardState 0 s).setOrders o)
  have horders : (startWrite w ((heardState 0 s).setOrders o)).orders = o := startWrite_orders w _
  have hstartup : (startWrite w ((heardState 0 s).setOrders o)).startup = (heardState 0 s).startup := startWrite_startup w _
  unfold settledTaken
  refine ⟨?_, ?_, ?_, ?_, ?_⟩
  · rw [taken_startup, settleOrder_startup (by decide), hstartup, heardState_startup]
  · rw [taken_orders]
    show { (startWrite w ((heardState 0 s).setOrders o)).orders with
      memory := some ⟨number, .store, .inProgress, none⟩, awaited := some number } = _
    rw [horders]
  · rw [taken_lockout]
    exact hflight
  · rw [taken_store, ← heardState_store 0 s]
    exact hstore
  · rw [taken_lockout, ← heardState_lockout 0 s]
    exact hrecord

end

/-- Settles O49, by the page, the assembly, the mode and the lockout unit in turn. -/
theorem storeCommitStartsWrite : Obligations.StoreCommitStartsWrite := by
  refine ⟨fun s => ⟨fun _ => rfl, fun _ => rfl, fun _ => rfl, fun _ _ h => storePage_of_large h, fun c hc =>
    ⟨generation_of_config hc, configTarget_of_config hc⟩⟩, fun s number target page data hnew hlength => ?_⟩
  refine ⟨_, exec_storeCommit hnew page hlength, ?_, fun hnone => ?_, fun v hv => ⟨fun hmissing => ?_, fun p hp c hc l hl => ?_⟩⟩
  · rw [settledTaken, taken_startup, settleOrder_startup (by decide), runStore_commit_startup, heardState_startup]
  · have hanswered := commit_of_bad_page number hnone
    exact ⟨hanswered.lockout, hanswered.pages, hanswered.answered⟩
  · have hanswered := commit_of_missing number hv hmissing
    exact ⟨hanswered.lockout, hanswered.pages, hanswered.answered⟩
  · have hassembled := assembled_of_pages hp hc hl
    refine ⟨fun hmode => ?_, fun hmode hwriting => ?_, fun hmode hflight hpending => ?_⟩
    · have hanswered := commit_of_mode number hv hassembled hmode
      exact ⟨hanswered.lockout, hanswered.store, hanswered.pages, hanswered.answered⟩
    · have hanswered := commit_of_writing number hv hassembled hmode ((isWriting_iff _).2 hwriting)
      exact ⟨hanswered.lockout, hanswered.store, hanswered.pages, hanswered.answered⟩
    · have hidle : s.lockout.isWriting = false := by
        unfold LockoutUnit.isWriting
        rw [hflight, hpending]
        rfl
      rw [runStore_of_idle hv hassembled hmode hidle]
      obtain ⟨-, horders, hwrite, hstore, hrecord⟩ := settledTaken_started number
        (.config s.configTarget ⟨if s.generation < 65535 then s.generation + 1 else 65535, ⟨p, c, l⟩⟩)
        { v.orders with page0 := none, page1 := none, page2 := none } s
      refine ⟨horders, hwrite, fun ha => ?_, fun hb => ?_, hrecord⟩
      · rw [hstore, ha]
        exact config_torn_a _ _
      · rw [hstore, hb]
        exact config_torn_b _ _

end Sys2Proof.Machine

/-! Fields as bytes (R194), and the configuration pages read back (R196, R206). -/

namespace Sys2Proof.Machine

section
variable {d : List Byte} {off len n : Nat}

/-! ### Bytes and the numbers they spell -/

theorem beNat_cons_nil (x : Byte) : beNat [x] = x.toNat := by simp [beNat]

theorem beNat_pair (x y : Byte) : beNat [x, y] = x.toNat * 256 + y.toNat := by simp [beNat]

theorem beNat_byte1 (h : n < 256) : beNat (byte1 n) = n := by
  rw [byte1, beNat_cons_nil, BitVec.toNat_ofNat]
  omega

theorem beNat_byte2 (h : n < 65536) : beNat (byte2 n) = n := by
  rw [byte2, beNat_pair, BitVec.toNat_ofNat, BitVec.toNat_ofNat]
  omega

theorem beNat_byte4 (h : n < 4294967296) : beNat (byte4 n) = n := by
  simp only [byte4, beNat, List.foldl_cons, List.foldl_nil, BitVec.toNat_ofNat]
  omega

theorem byte1_beNat {l : List Byte} (h : l.length = 1) : byte1 (beNat l) = l := by
  obtain ⟨x, rfl⟩ := List.length_eq_one_iff.1 h
  rw [beNat_cons_nil, byte1, BitVec.ofNat_toNat, BitVec.setWidth_eq]

theorem byte2_beNat {l : List Byte} (h : l.length = 2) : byte2 (beNat l) = l := by
  obtain ⟨x, y, rfl⟩ := List.length_eq_two.1 h
  have hx := x.isLt
  have hy := y.isLt
  rw [beNat_pair, byte2, List.cons.injEq, List.cons.injEq]
  refine ⟨BitVec.eq_of_toNat_eq ?_, BitVec.eq_of_toNat_eq ?_, rfl⟩ <;> rw [BitVec.toNat_ofNat] <;> omega

theorem beNat_byte2_lt (l : List Byte) (h : l.length = 2) : beNat l < 65536 := by
  obtain ⟨x, y, rfl⟩ := List.length_eq_two.1 h
  rw [beNat_pair]
  have hx := x.isLt
  have hy := y.isLt
  omega

/-- A signed field is written as it was read. -/
theorem signed16_emod (h : n < 65536) : (signed16 n % 65536).toNat = n := by
  unfold signed16
  split <;> omega

/-- A signed field is read as it was written. -/
theorem signed16_toNat_emod {v : Int} (hlow : -32768 ≤ v) (hhigh : v < 32768) : signed16 (v % 65536).toNat = v := by
  unfold signed16
  split <;> omega

theorem signed16_tempBytes {v : Int} (hlow : -32768 ≤ v) (hhigh : v < 32768) : signed16 (beNat (tempBytes v)) = v := by
  rw [tempBytes, beNat_byte2 (by omega), signed16_toNat_emod hlow hhigh]

/-! ### Fields of a payload -/

theorem take_drop_length (h : off + len ≤ d.length) : ((d.drop off).take len).length = len := by
  rw [List.length_take, List.length_drop]
  omega

theorem byte1_fieldNat (h : off + 1 ≤ d.length) : byte1 (fieldNat d off 1) = (d.drop off).take 1 := byte1_beNat (take_drop_length h)

theorem byte2_fieldNat (h : off + 2 ≤ d.length) : byte2 (fieldNat d off 2) = (d.drop off).take 2 := byte2_beNat (take_drop_length h)

theorem tempBytes_fieldNat (h : off + 2 ≤ d.length) : tempBytes (signed16 (fieldNat d off 2)) = (d.drop off).take 2 := by
  have hlt : fieldNat d off 2 < 65536 := beNat_byte2_lt _ (take_drop_length h)
  rw [tempBytes, signed16_emod hlt, byte2_fieldNat h]

/-- A payload from an offset on is its next field and what follows it. -/
theorem take_append_drop_add (d : List Byte) (off len : Nat) : (d.drop off).take len ++ d.drop (off + len) = d.drop off := by
  rw [← List.drop_drop, List.take_append_drop]

/-! ### Page 0 -/

theorem flagOfCode_eq_some {g : Bool} (h : flagOfCode n = some g) : n = if g then 1 else 0 := by
  unfold flagOfCode at h
  split at h <;> cases h <;> rfl

theorem policyOfCode_eq_some {p : ReclosePolicy} (h : policyOfCode n = some p) : n = policyCode p := by
  unfold policyOfCode at h
  split at h <;> cases h <;> rfl

theorem flagByte_eq_byte1 (g : Bool) : [flagByte g] = byte1 (if g then 1 else 0) := by cases g <;> rfl

theorem page0Of_page0Bytes {p : StringParams} (h : stringInRange p = true) : page0Of (page0Bytes p) = some p := by
  have hrange := h
  simp only [stringInRange, Bool.and_eq_true, decide_eq_true_eq] at h
  obtain ⟨⟨⟨⟨⟨⟨hsize, htally⟩, hlost⟩, hbudget⟩, hmargin⟩, hsettle⟩, hproposal⟩ := h
  have h0 : fieldNat (page0Bytes p) 0 1 = p.size := beNat_byte1 (by omega)
  have h1 : flagOfCode (fieldNat (page0Bytes p) 1 1) = some p.gatewayRequired := by
    show flagOfCode (beNat [flagByte p.gatewayRequired]) = _
    cases p.gatewayRequired <;> rfl
  have h2 : fieldNat (page0Bytes p) 2 2 = p.tallyPeriod := beNat_byte2 (by omega)
  have h4 : fieldNat (page0Bytes p) 4 1 = p.lostAge := beNat_byte1 (by omega)
  have h5 : fieldNat (page0Bytes p) 5 1 = p.budget := beNat_byte1 (by omega)
  have h6 : fieldNat (page0Bytes p) 6 1 = p.margin := beNat_byte1 (by omega)
  have h7 : policyOfCode (fieldNat (page0Bytes p) 7 1) = some p.policy := by
    show policyOfCode (beNat (byte1 (policyCode p.policy))) = _
    cases p.policy <;> rfl
  have h8 : fieldNat (page0Bytes p) 8 2 = p.settleTime := beNat_byte2 (by omega)
  have h10 : fieldNat (page0Bytes p) 10 2 = p.proposalTime := beNat_byte2 (by omega)
  unfold page0Of
  rw [if_pos (show (page0Bytes p).length = 12 from rfl), h0, h1, h2, h4, h5, h6, h7, h8, h10]
  exact if_pos hrange

theorem page0Of_eq_some {p : StringParams} : page0Of d = some p ↔ d = page0Bytes p ∧ stringInRange p = true := by
  refine ⟨fun h => ?_, fun ⟨hd, hrange⟩ => by rw [hd, page0Of_page0Bytes hrange]⟩
  unfold page0Of at h
  split at h
  · next hlength =>
    split at h
    · next g pol hflag hpolicy =>
      dsimp only at h
      split at h
      · next hrange =>
        cases h
        refine ⟨?_, hrange⟩
        have hf := flagOfCode_eq_some hflag
        have hp := policyOfCode_eq_some hpolicy
        unfold page0Bytes
        dsimp only
        rw [flagByte_eq_byte1, ← hf, ← hp]
        simp only [byte1_fieldNat (d := d), byte2_fieldNat (d := d), hlength, List.append_assoc, Nat.reduceAdd, Nat.reduceLeDiff]
        have hlast : (d.drop 10).take 2 = d.drop 10 := List.take_of_length_le (by rw [List.length_drop, hlength])
        rw [hlast, take_append_drop_add d 8 2, take_append_drop_add d 7 1, take_append_drop_add d 6 1, take_append_drop_add d 5 1,
          take_append_drop_add d 4 1, take_append_drop_add d 2 2, take_append_drop_add d 1 1, take_append_drop_add d 0 1, List.drop_zero]
      · cases h
    · cases h
  · cases h

/-! ### Page 1 -/

theorem page1Of_page1Bytes {p : CellParams} (h : cellsInRange p = true) : page1Of (page1Bytes p) = some p := by
  have hrange := h
  simp only [cellsInRange, Bool.and_eq_true, decide_eq_true_eq] at h
  obtain ⟨⟨⟨⟨⟨⟨⟨⟨hfitted, hsweep⟩, hhigh⟩, hhighSevere⟩, hlow⟩, hlowSevere⟩, hhysteresis⟩, hsum⟩, hfloor⟩ := h
  have h0 : fieldNat (page1Bytes p) 0 1 = p.fitted := beNat_byte1 (by omega)
  have h1 : fieldNat (page1Bytes p) 1 2 = p.sweepInterval := beNat_byte2 (by omega)
  have h3 : fieldNat (page1Bytes p) 3 2 = p.highLevel := beNat_byte2 (by omega)
  have h5 : fieldNat (page1Bytes p) 5 2 = p.highSevere := beNat_byte2 (by omega)
  have h7 : fieldNat (page1Bytes p) 7 2 = p.lowLevel := beNat_byte2 (by omega)
  have h9 : fieldNat (page1Bytes p) 9 2 = p.lowSevere := beNat_byte2 (by omega)
  have h11 : fieldNat (page1Bytes p) 11 2 = p.hysteresis := beNat_byte2 (by omega)
  have h13 : fieldNat (page1Bytes p) 13 2 = p.sumTolerance := beNat_byte2 (by omega)
  have h15 : fieldNat (page1Bytes p) 15 2 = p.bleedFloor := beNat_byte2 (by omega)
  unfold page1Of
  rw [if_pos (show (page1Bytes p).length = 17 from rfl), h0, h1, h3, h5, h7, h9, h11, h13, h15]
  exact if_pos hrange

theorem page1Of_eq_some {p : CellParams} : page1Of d = some p ↔ d = page1Bytes p ∧ cellsInRange p = true := by
  refine ⟨fun h => ?_, fun ⟨hd, hrange⟩ => by rw [hd, page1Of_page1Bytes hrange]⟩
  unfold page1Of at h
  split at h
  · next hlength =>
    dsimp only at h
    split at h
    · next hrange =>
      cases h
      refine ⟨?_, hrange⟩
      unfold page1Bytes
      simp only [byte1_fieldNat (d := d), byte2_fieldNat (d := d), hlength, List.append_assoc, Nat.reduceAdd, Nat.reduceLeDiff]
      have hlast : (d.drop 15).take 2 = d.drop 15 := List.take_of_length_le (by rw [List.length_drop, hlength])
      rw [hlast, take_append_drop_add d 13 2, take_append_drop_add d 11 2, take_append_drop_add d 9 2, take_append_drop_add d 7 2,
        take_append_drop_add d 5 2, take_append_drop_add d 3 2, take_append_drop_add d 1 2, take_append_drop_add d 0 1, List.drop_zero]
    · cases h
  · cases h

/-! ### Page 2 -/

theorem page2Of_page2Bytes {p : LimitParams} (h : limitsInRange p = true) : page2Of (page2Bytes p) = some p := by
  have hrange := h
  simp only [limitsInRange, Bool.and_eq_true, decide_eq_true_eq] at h
  obtain ⟨⟨⟨⟨⟨⟨⟨⟨hhot, hhotSevere⟩, hcold⟩, hhysteresis⟩, hraise⟩, hease⟩, hdie⟩, hwindow⟩, hsettle⟩ := h
  have h0 : signed16 (fieldNat (page2Bytes p) 0 2) = p.hotLevel := signed16_tempBytes (by omega) (by omega)
  have h2 : signed16 (fieldNat (page2Bytes p) 2 2) = p.hotSevere := signed16_tempBytes (by omega) (by omega)
  have h4 : signed16 (fieldNat (page2Bytes p) 4 2) = p.coldLevel := signed16_tempBytes (by omega) (by omega)
  have h6 : signed16 (fieldNat (page2Bytes p) 6 2) = p.hysteresis := signed16_tempBytes (by omega) (by omega)
  have h8 : fieldNat (page2Bytes p) 8 1 = p.raiseCount := beNat_byte1 (by omega)
  have h9 : fieldNat (page2Bytes p) 9 1 = p.easeCount := beNat_byte1 (by omega)
  have h10 : signed16 (fieldNat (page2Bytes p) 10 2) = p.dieLimit := signed16_tempBytes (by omega) (by omega)
  have h12 : fieldNat (page2Bytes p) 12 1 = p.window := beNat_byte1 (by omega)
  have h13 : fieldNat (page2Bytes p) 13 1 = p.switchSettle := beNat_byte1 (by omega)
  unfold page2Of
  rw [if_pos (show (page2Bytes p).length = 14 from rfl), h0, h2, h4, h6, h8, h9, h10, h12, h13]
  exact if_pos hrange

theorem page2Of_eq_some {p : LimitParams} : page2Of d = some p ↔ d = page2Bytes p ∧ limitsInRange p = true := by
  refine ⟨fun h => ?_, fun ⟨hd, hrange⟩ => by rw [hd, page2Of_page2Bytes hrange]⟩
  unfold page2Of at h
  split at h
  · next hlength =>
    dsimp only at h
    split at h
    · next hrange =>
      cases h
      refine ⟨?_, hrange⟩
      unfold page2Bytes
      simp only [byte1_fieldNat (d := d), tempBytes_fieldNat (d := d), hlength, List.append_assoc, Nat.reduceAdd, Nat.reduceLeDiff]
      have hlast : (d.drop 13).take 1 = d.drop 13 := List.take_of_length_le (by rw [List.length_drop, hlength])
      rw [hlast, take_append_drop_add d 12 1, take_append_drop_add d 10 2, take_append_drop_add d 9 1, take_append_drop_add d 8 1,
        take_append_drop_add d 6 2, take_append_drop_add d 4 2, take_append_drop_add d 2 2, take_append_drop_add d 0 2, List.drop_zero]
    · cases h
  · cases h

end

end Sys2Proof.Machine

/-! STORE with commit 0 (R206). -/

namespace Sys2Proof.Machine

section
variable {s u v : State} {number : Byte} {target : Nat} {page : Byte} {data : List Byte} {o : OrderHandler}

theorem runStore_page (h : storePage page.toNat data u = some v) : runStore page 0 data u = (v, .done []) := by
  unfold runStore
  rw [if_neg (by decide), h]
  exact if_neg (by decide)

theorem runStore_bad_page (h : storePage page.toNat data u = none) : runStore page 0 data u = (u, .bad) := by
  unfold runStore
  rw [if_neg (by decide), h]

/-- A page that passes is stored, and the order answered DONE (R206). -/
theorem store_of_page (number : Byte) (h : pageStored page.toNat data s.orders = some o) :
    StoreAnswered number [number, 0x10#8] o s (settledTaken number (runStore page 0 data (heardState 0 s)) s) := by
  have hstored : storePage page.toNat data s = some (s.setOrders o) := by
    rw [storePage_eq, h]
    rfl
  rw [runStore_page (storePage_of_some (heardState_orders 0 s) hstored)]
  exact settledTaken_answered number (r := .done []) (by decide) o s

theorem store_of_bad_page (number : Byte) (h : pageStored page.toNat data s.orders = none) :
    StoreAnswered number [number, 0x40#8] s.orders s (settledTaken number (runStore page 0 data (heardState 0 s)) s) := by
  have hstored : storePage page.toNat data s = none := by
    rw [storePage_eq, h]
    rfl
  have hanswered := settledTaken_answered number (r := .bad) (by decide) s.orders s
  rw [setOrders_heard] at hanswered
  rw [runStore_bad_page (storePage_of_none (heardState_orders 0 s) hstored)]
  exact hanswered

theorem pageStored_of_bad (h : (page = 0#8 ∧ page0Of data = none) ∨ (page = 1#8 ∧ page1Of data = none) ∨
    (page = 2#8 ∧ page2Of data = none) ∨ 2 < page.toNat) : pageStored page.toNat data o = none := by
  rcases h with ⟨rfl, h⟩ | ⟨rfl, h⟩ | ⟨rfl, h⟩ | h
  · exact Option.map_eq_none_iff.2 h
  · exact Option.map_eq_none_iff.2 h
  · exact Option.map_eq_none_iff.2 h
  · obtain ⟨k, hk⟩ := Nat.exists_eq_add_of_lt h
    rw [hk, show 2 + k + 1 = k + 3 by omega]
    rfl

/-- The state in which a STORE with commit 0 leaves the station. -/
def storeTaken (number page : Byte) (data : List Byte) (s : State) : State :=
  settledTaken number (runStore page 0 data (heardState 0 s)) s

theorem exec_store_zero (hnew : TakesNewOrder s number target) (page : Byte) (hlength : data.length ≤ 27) :
    exec (.store number target (page :: 0#8 :: data)) s = .next (storeTaken number page data s) := exec_store hnew hlength

theorem storeTaken_cases (number page : Byte) (data : List Byte) (s : State) :
    ∃ payload o, StoreAnswered number payload o s (storeTaken number page data s) := by
  cases h : pageStored page.toNat data s.orders with
  | none => exact ⟨_, _, store_of_bad_page number h⟩
  | some o => exact ⟨_, _, store_of_page number h⟩

/-! ### The layouts of the pages -/

theorem page0Bytes_eq (p : StringParams) :
    page0Bytes p =
      [BitVec.ofNat 8 p.size, if p.gatewayRequired = true then 1#8 else 0#8] ++ byte2 p.tallyPeriod ++
        [BitVec.ofNat 8 p.lostAge, BitVec.ofNat 8 p.budget, BitVec.ofNat 8 p.margin, BitVec.ofNat 8 (policyCode p.policy)] ++
        byte2 p.settleTime ++ byte2 p.proposalTime := rfl

theorem stringInRange_iff (p : StringParams) : stringInRange p = true ↔
    (2 ≤ p.size ∧ p.size ≤ 24) ∧ (100 ≤ p.tallyPeriod ∧ p.tallyPeriod ≤ 2000 ∧ p.tallyPeriod % 50 = 0) ∧
      (3 ≤ p.lostAge ∧ p.lostAge ≤ 15) ∧ p.budget ≤ 120 ∧ (5 ≤ p.margin ∧ p.margin ≤ 100) ∧
      (500 ≤ p.settleTime ∧ p.settleTime ≤ 30000) ∧ (100 ≤ p.proposalTime ∧ p.proposalTime ≤ 2000) := by
  simp only [stringInRange, Bool.and_eq_true, decide_eq_true_eq, and_assoc]

theorem cellsInRange_iff (p : CellParams) : cellsInRange p = true ↔
    (4 ≤ p.fitted ∧ p.fitted ≤ 10) ∧ (100 ≤ p.sweepInterval ∧ p.sweepInterval ≤ 1000) ∧
      (2000 ≤ p.highLevel ∧ p.highLevel ≤ 5000) ∧ (2000 ≤ p.highSevere ∧ p.highSevere ≤ 5000) ∧ p.lowLevel ≤ 4500 ∧
      p.lowSevere ≤ 4500 ∧ (10 ≤ p.hysteresis ∧ p.hysteresis ≤ 300) ∧ (20 ≤ p.sumTolerance ∧ p.sumTolerance ≤ 2000) ∧
      (1000 ≤ p.bleedFloor ∧ p.bleedFloor ≤ 4500) := by
  simp only [cellsInRange, Bool.and_eq_true, decide_eq_true_eq, and_assoc]

theorem limitsInRange_iff (p : LimitParams) : limitsInRange p = true ↔
    (0 ≤ p.hotLevel ∧ p.hotLevel ≤ 1250) ∧ (0 ≤ p.hotSevere ∧ p.hotSevere ≤ 1250) ∧
      (-400 ≤ p.coldLevel ∧ p.coldLevel ≤ 400) ∧ (10 ≤ p.hysteresis ∧ p.hysteresis ≤ 200) ∧
      (1 ≤ p.raiseCount ∧ p.raiseCount ≤ 15) ∧ (1 ≤ p.easeCount ∧ p.easeCount ≤ 15) ∧
      (500 ≤ p.dieLimit ∧ p.dieLimit ≤ 1250) ∧ (1 ≤ p.window ∧ p.window ≤ 60) ∧
      (10 ≤ p.switchSettle ∧ p.switchSettle ≤ 200) := by
  simp only [limitsInRange, Bool.and_eq_true, decide_eq_true_eq, and_assoc]

end

/-- Settles O48: the pages are read as they are written, and a page that passes goes into the assembly. -/
theorem storeFillsAssembly : Obligations.StoreFillsAssembly := by
  refine ⟨⟨fun d h => ?_, fun d h => ?_, fun d h => ?_, fun d p => ?_, fun d p => ?_, fun d p => ?_⟩,
    fun s number target page data hnew hlength => ?_⟩
  · obtain ⟨p, hp⟩ := Option.ne_none_iff_exists'.1 h
    rw [(page0Of_eq_some.1 hp).1]
    rfl
  · obtain ⟨p, hp⟩ := Option.ne_none_iff_exists'.1 h
    rw [(page1Of_eq_some.1 hp).1]
    rfl
  · obtain ⟨p, hp⟩ := Option.ne_none_iff_exists'.1 h
    rw [(page2Of_eq_some.1 hp).1]
    rfl
  · rw [page0Of_eq_some, stringInRange_iff]
    rfl
  · rw [page1Of_eq_some, cellsInRange_iff]
    rfl
  · rw [page2Of_eq_some, limitsInRange_iff]
    rfl
  · obtain ⟨payload, o, hstored⟩ := storeTaken_cases number page data s
    refine ⟨storeTaken number page data s, exec_store_zero hnew page hlength, hstored.startup, hstored.store, hstored.lockout,
      fun p hpage hp => ?_, fun p hpage hp => ?_, fun p hpage hp => ?_, fun hbad => ?_⟩
    · subst hpage
      have hanswered : StoreAnswered number [number, 0x10#8] _ s (storeTaken number 0#8 data s) :=
        store_of_page (o := { s.orders with page0 := some p }) number (congrArg (Option.map _) hp)
      obtain ⟨h0, h1, h2⟩ := hanswered.pages
      exact ⟨h0, h1, h2, hanswered.answered⟩
    · subst hpage
      have hanswered : StoreAnswered number [number, 0x10#8] _ s (storeTaken number 1#8 data s) :=
        store_of_page (o := { s.orders with page1 := some p }) number (congrArg (Option.map _) hp)
      obtain ⟨h0, h1, h2⟩ := hanswered.pages
      exact ⟨h1, h0, h2, hanswered.answered⟩
    · subst hpage
      have hanswered : StoreAnswered number [number, 0x10#8] _ s (storeTaken number 2#8 data s) :=
        store_of_page (o := { s.orders with page2 := some p }) number (congrArg (Option.map _) hp)
      obtain ⟨h0, h1, h2⟩ := hanswered.pages
      exact ⟨h2, h0, h1, hanswered.answered⟩
    · have hanswered := store_of_bad_page number (pageStored_of_bad (o := s.orders) hbad)
      obtain ⟨h0, h1, h2⟩ := hanswered.pages
      exact ⟨h0, h1, h2, hanswered.answered⟩

end Sys2Proof.Machine

/-! The bytes of a frame received as its command (R177, R178, R194 to R197). -/

namespace Sys2Proof.Machine

section
variable {i : Instr} {w : List Byte} {d : List Byte} {n sender kind : Nat}

/-! ### The line -/

/-- The command of a payload that is not an ORDER's (R178). -/
def bodyReceived (sender kind : Nat) (payload : List Byte) : Instr :=
  match bodyOf kind payload with
  | some b => if b.fits then b.command sender else .discardedFrame
  | none => .discardedFrame

theorem bodyReceived_of_some {payload : List Byte} {b : Body} (h : bodyOf kind payload = some b) (hfits : b.fits = true) :
    bodyReceived sender kind payload = b.command sender := by
  unfold bodyReceived
  rw [h]
  exact if_pos hfits

/-- A frame whose header and CRC are right is read by its kind (R178). -/
theorem receive_frameBytes {payload : List Byte} (hsender : sender ≤ 24) (hkind : kind < 256) (hlength : payload.length ≤ 32)
    (hallowed : kindAllowed sender kind = true) :
    receive (frameBytes sender kind payload) =
      if kind = orderKindCode then orderOf payload else bodyReceived sender kind payload := by
  have hs : (BitVec.ofNat 8 sender).toNat = sender := by
    rw [BitVec.toNat_ofNat]
    omega
  have hk : (BitVec.ofNat 8 kind).toNat = kind := by
    rw [BitVec.toNat_ofNat]
    omega
  have hl : (BitVec.ofNat 8 payload.length).toNat = payload.length := by
    rw [BitVec.toNat_ofNat]
    omega
  have hbytes : frameBytes sender kind payload =
      BitVec.ofNat 8 sender :: BitVec.ofNat 8 kind :: BitVec.ofNat 8 payload.length ::
        (payload ++ byte2 (crc16 (BitVec.ofNat 8 sender :: BitVec.ofNat 8 kind :: BitVec.ofNat 8 payload.length :: payload)).toNat) := rfl
  rw [hbytes]
  unfold receive
  dsimp only
  rw [hs, hk, hl, List.take_left, List.drop_left]
  rw [if_pos ⟨hlength, by rw [List.length_append]; rfl, rfl, hsender, hallowed⟩]
  rfl

/-! ### Codes read back -/

theorem tallyMode_modeCode {m : Mode} (h : (tallyMode (modeCode m)).isSome = true) : tallyMode (modeCode m) = some m := by
  cases m with
  | start => cases h
  | join | opened | pledged | closed => rfl

theorem causeOfCode_causeCode (c : Cause) : causeOfCode (causeCode c) = some c := by cases c <;> rfl
theorem causeCode_lt (c : Cause) : causeCode c < 256 := by cases c <;> decide
theorem demurReasonOfCode_code (r : DemurReason) : demurReasonOfCode (demurReasonCode r) = some r := by cases r <;> rfl
theorem demurReasonCode_lt (r : DemurReason) : demurReasonCode r < 256 := by cases r <;> decide
theorem lockoutCauseOfCode_code (c : LockoutCause) : lockoutCauseOfCode (lockoutCauseCode c) = some c := by cases c <;> rfl
theorem switchDetailOfCode_code (d : SwitchDetail) : switchDetailOfCode (switchDetailCode d) = some d := by cases d <;> rfl

theorem detailCode_lt (d : Detail) : detailCode d < 255 := by
  cases d with
  | switch d => cases d <;> decide
  | lockout c => cases c <;> decide

/-- An optional byte is read as it was written, where it is below the absence code (R194). -/
theorem readIndex_optByte1 {o : Option Nat} (h : o.all (fun n => decide (n < 255)) = true) : readIndex (beNat (optByte1 o)) = o := by
  cases o with
  | none => rfl
  | some n =>
    have hn : n < 255 := by simpa using h
    unfold readIndex optByte1
    rw [beNat_byte1 (by omega), if_neg (by omega)]

/-- A detail that fits its cause is read back under that cause. -/
theorem detailOfCode_detailCode {c : Cause} {d : Detail} (h : detailFits c (some d) = true) :
    detailOfCode c (detailCode d) = some d := by
  cases d with
  | switch d =>
    obtain rfl : c = .switch := by cases c <;> cases h; rfl
    exact congrArg (Option.map _) (switchDetailOfCode_code d)
  | lockout x =>
    obtain rfl : c = .lockout := by cases c <;> cases h; rfl
    exact congrArg (Option.map _) (lockoutCauseOfCode_code x)

theorem readDetail_optByte1 {c : Cause} {o : Option Detail} (h : detailFits c o = true) :
    readDetail c (beNat (optByte1 (o.map detailCode))) = some o := by
  cases o with
  | none => rfl
  | some d =>
    have hlt := detailCode_lt d
    have hcode : beNat (optByte1 (Option.map detailCode (some d))) = detailCode d := beNat_byte1 (by omega)
    unfold readDetail
    rw [hcode, if_neg (by omega), detailOfCode_detailCode h]
    rfl

theorem readOpt2_optBytes2 {o : Option Nat} (h : optFits o = true) : readOpt2 (beNat (optBytes2 o)) = o := by
  cases o with
  | none =>
    unfold readOpt2 optBytes2
    rw [beNat_byte2 (by decide), if_pos rfl]
  | some n =>
    have hn : n < 65535 := by simpa [optFits] using h
    unfold readOpt2 optBytes2
    rw [beNat_byte2 (by omega), if_neg (by omega)]

theorem readOptTemp_optTempBytes {o : Option Int} (h : optTempFits o = true) : readOptTemp (beNat (optTempBytes o)) = o := by
  cases o with
  | none =>
    unfold readOptTemp optTempBytes
    rw [beNat_byte2 (by decide), if_pos rfl]
  | some v =>
    have hv : -32767 ≤ v ∧ v ≤ 32767 := by simpa [optTempFits] using h
    unfold readOptTemp optTempBytes tempBytes
    rw [beNat_byte2 (by omega), if_neg (by omega), signed16_toNat_emod (by omega) (by omega)]

theorem ofNat_beNat_byte2 (x : Digest) : BitVec.ofNat 16 (beNat (byte2 x.toNat)) = x := by
  rw [beNat_byte2 x.isLt, BitVec.ofNat_toNat, BitVec.setWidth_eq]

theorem ofNat_beNat_single (x : Byte) : BitVec.ofNat 8 (beNat [x]) = x := by
  rw [beNat_cons_nil, BitVec.ofNat_toNat, BitVec.setWidth_eq]

/-- A ballot field is read as it was written (R194). -/
theorem ballot_of_bytes {b : Ballot} (h : ballotFits b = true) : (⟨beNat (byte4 b.epoch), beNat (byte1 b.proposer)⟩ : Ballot) = b := by
  obtain ⟨hepoch, hproposer⟩ : b.epoch < 4294967296 ∧ b.proposer < 256 := by simpa [ballotFits] using h
  rw [beNat_byte4 hepoch, beNat_byte1 hproposer]

/-! ### The content of a frame read back -/

theorem optBytes2_pair (o : Option Nat) : ∃ x y, optBytes2 o = [x, y] := by
  cases o with
  | none => exact ⟨_, _, rfl⟩
  | some n => exact ⟨_, _, rfl⟩

theorem optTempBytes_pair (o : Option Int) : ∃ x y, optTempBytes o = [x, y] := by
  cases o with
  | none => exact ⟨_, _, rfl⟩
  | some v => exact ⟨_, _, rfl⟩

theorem optByte1_single (o : Option Nat) : ∃ x, optByte1 o = [x] := by
  cases o with
  | none => exact ⟨_, rfl⟩
  | some n => exact ⟨_, rfl⟩

/-- The two flags of a TALLY (R195). -/
theorem flags_read (a b : Bool) :
    decide (((if a then 1 else 0) + (if b then 2 else 0)) % 2 = 1) = a ∧
      decide (((if a then 1 else 0) + (if b then 2 else 0)) / 2 % 2 = 1) = b := by
  cases a <;> cases b <;> decide

theorem flags_lt (a b : Bool) : (if a then 1 else 0) + (if b then 2 else 0) < 256 := by
  cases a <;> cases b <;> decide

theorem modeCode_lt (m : Mode) : modeCode m < 256 := by cases m <;> decide

theorem summaryOf_summaryBytes {t : Summary} (h : summaryFits t = true) : summaryOf (summaryBytes t) = some t := by
  simp only [summaryFits, Bool.and_eq_true, decide_eq_true_eq] at h
  obtain ⟨⟨⟨⟨⟨⟨⟨⟨⟨⟨hmode, hcount⟩, hserial⟩, hballot⟩, hmin⟩, hmax⟩, hsum⟩, htemp⟩, hdemand⟩, hbleeding⟩, hpresent⟩ := h
  obtain ⟨x1, y1, h1⟩ := optBytes2_pair t.minCell
  obtain ⟨x2, y2, h2⟩ := optBytes2_pair t.maxCell
  obtain ⟨x3, y3, h3⟩ := optBytes2_pair t.moduleSum
  obtain ⟨x4, y4, h4⟩ := optTempBytes_pair t.maxTemperature
  have hbytes : summaryBytes t =
      [BitVec.ofNat 8 (modeCode t.mode), BitVec.ofNat 8 t.holdCount, BitVec.ofNat 8 (t.lockoutSerial / 256), BitVec.ofNat 8 t.lockoutSerial,
        BitVec.ofNat 8 (t.ballot.epoch / 16777216), BitVec.ofNat 8 (t.ballot.epoch / 65536), BitVec.ofNat 8 (t.ballot.epoch / 256),
        BitVec.ofNat 8 t.ballot.epoch, BitVec.ofNat 8 t.ballot.proposer, BitVec.ofNat 8 (t.digest.toNat / 256),
        BitVec.ofNat 8 t.digest.toNat, x1, y1, x2, y2, x3, y3, x4, y4, BitVec.ofNat 8 t.advertisedDemand, BitVec.ofNat 8 t.bleedingCount,
        BitVec.ofNat 8 t.presentCount,
        BitVec.ofNat 8 ((if t.bleedPaused then 1 else 0) + (if t.defaultConfiguration then 2 else 0))] := by
    unfold summaryBytes
    rw [h1, h2, h3, h4]
    rfl
  have f0 : fieldNat (summaryBytes t) 0 1 = modeCode t.mode := by
    rw [hbytes]
    exact beNat_byte1 (modeCode_lt _)
  have f1 : fieldNat (summaryBytes t) 1 1 = t.holdCount := by
    rw [hbytes]
    exact beNat_byte1 (by omega)
  have f2 : fieldNat (summaryBytes t) 2 2 = t.lockoutSerial := by
    rw [hbytes]
    exact beNat_byte2 (by omega)
  have f4 : ballotAt (summaryBytes t) 4 = t.ballot := by
    rw [hbytes]
    exact ballot_of_bytes hballot
  have f9 : BitVec.ofNat 16 (fieldNat (summaryBytes t) 9 2) = t.digest := by
    rw [hbytes]
    exact ofNat_beNat_byte2 t.digest
  have f11 : readOpt2 (fieldNat (summaryBytes t) 11 2) = t.minCell := by
    rw [hbytes]
    exact (congrArg (fun l => readOpt2 (beNat l)) h1.symm).trans (readOpt2_optBytes2 hmin)
  have f13 : readOpt2 (fieldNat (summaryBytes t) 13 2) = t.maxCell := by
    rw [hbytes]
    exact (congrArg (fun l => readOpt2 (beNat l)) h2.symm).trans (readOpt2_optBytes2 hmax)
  have f15 : readOpt2 (fieldNat (summaryBytes t) 15 2) = t.moduleSum := by
    rw [hbytes]
    exact (congrArg (fun l => readOpt2 (beNat l)) h3.symm).trans (readOpt2_optBytes2 hsum)
  have f17 : readOptTemp (fieldNat (summaryBytes t) 17 2) = t.maxTemperature := by
    rw [hbytes]
    exact (congrArg (fun l => readOptTemp (beNat l)) h4.symm).trans (readOptTemp_optTempBytes htemp)
  have f19 : fieldNat (summaryBytes t) 19 1 = t.advertisedDemand := by
    rw [hbytes]
    exact beNat_byte1 (by omega)
  have f20 : fieldNat (summaryBytes t) 20 1 = t.bleedingCount := by
    rw [hbytes]
    exact beNat_byte1 (by omega)
  have f21 : fieldNat (summaryBytes t) 21 1 = t.presentCount := by
    rw [hbytes]
    exact beNat_byte1 (by omega)
  have f22 : fieldNat (summaryBytes t) 22 1 = (if t.bleedPaused then 1 else 0) + (if t.defaultConfiguration then 2 else 0) := by
    rw [hbytes]
    exact beNat_byte1 (flags_lt _ _)
  obtain ⟨hpaused, hdefault⟩ := flags_read t.bleedPaused t.defaultConfiguration
  unfold summaryOf
  rw [if_pos (show (summaryBytes t).length = 23 by rw [hbytes]; rfl), f0, f1, f2, f4, f9, f11, f13, f15, f17, f19, f20, f21, f22, hpaused,
    hdefault, tallyMode_modeCode hmode]
  rfl

theorem answerFits_length {p : List Byte} (h : answerFits p = true) : p.length ≤ 32 :=
  of_decide_eq_true (Bool.and_eq_true_iff.1 h).1

/-- What a station may send is read back as it was meant (R195). -/
theorem bodyOf_payload {b : Body} (h : b.fits = true) : bodyOf b.kindCode b.payload = some b := by
  cases b with
  | tally t => exact congrArg (Option.map Body.tally) (summaryOf_summaryBytes h)
  | announce a =>
    obtain ⟨hgeneration, hfitted⟩ : a.generation < 65536 ∧ 4 ≤ a.fittedCells ∧ a.fittedCells ≤ 10 := by simpa [Body.fits, announceFits] using h
    have f0 : fieldNat (announceBytes a) 0 2 = a.generation := beNat_byte2 hgeneration
    have f2 : fieldNat (announceBytes a) 2 1 = a.fittedCells := beNat_byte1 (by omega)
    have f3 : BitVec.ofNat 16 (fieldNat (announceBytes a) 3 2) = a.digest := ofNat_beNat_byte2 a.digest
    show some (Body.announce ⟨fieldNat (announceBytes a) 0 2, fieldNat (announceBytes a) 2 1,
      BitVec.ofNat 16 (fieldNat (announceBytes a) 3 2)⟩) = _
    rw [f0, f2, f3]
  | hold serial c index detail =>
    obtain ⟨hindex, hdetail⟩ := Bool.and_eq_true_iff.1 h
    obtain ⟨x, hx⟩ := optByte1_single index
    obtain ⟨y, hy⟩ := optByte1_single (detail.map detailCode)
    have hbytes : (Body.hold serial c index detail).payload = [serial, BitVec.ofNat 8 (causeCode c), x, y] := by
      show serial :: byte1 (causeCode c) ++ optByte1 index ++ optByte1 (detail.map detailCode) = _
      rw [hx, hy]
      rfl
    have hcause : causeOfCode (beNat [BitVec.ofNat 8 (causeCode c)]) = some c := by
      rw [show [BitVec.ofNat 8 (causeCode c)] = byte1 (causeCode c) from rfl, beNat_byte1 (causeCode_lt c), causeOfCode_causeCode]
    have hread : readDetail c (beNat [y]) = some detail := by
      rw [← hy]
      exact readDetail_optByte1 hdetail
    have hindexRead : readIndex (beNat [x]) = index := by
      rw [← hx]
      refine readIndex_optByte1 ?_
      cases index with
      | none => rfl
      | some n =>
        have hn : n ≤ 10 := by simpa using hindex
        simp
        omega
    rw [hbytes]
    show (match causeOfCode (beNat [BitVec.ofNat 8 (causeCode c)]) with
      | some c => (readDetail c (beNat [y])).map fun d => Body.hold (BitVec.ofNat 8 (beNat [serial])) c (readIndex (beNat [x])) d
      | none => none) = _
    rw [hcause]
    dsimp only
    rw [hread, hindexRead, ofNat_beNat_single]
    rfl
  | lift serial => exact congrArg (fun x => some (Body.lift x)) (ofNat_beNat_single serial)
  | propose b size digest =>
    obtain ⟨hballot, hsize⟩ := Bool.and_eq_true_iff.1 h
    have hsize' : 2 ≤ size ∧ size ≤ 24 := of_decide_eq_true hsize
    have hb := ballot_of_bytes hballot
    have hn : beNat (byte1 size) = size := beNat_byte1 (by omega)
    have hd := ofNat_beNat_byte2 digest
    show some (Body.propose ⟨beNat (byte4 b.epoch), beNat (byte1 b.proposer)⟩ (beNat (byte1 size))
      (BitVec.ofNat 16 (beNat (byte2 digest.toNat)))) = _
    rw [hb, hn, hd]
  | assent b => exact congrArg (fun x => some (Body.assent x)) (ballot_of_bytes h)
  | demur b r =>
    have hb := ballot_of_bytes (show ballotFits b = true from h)
    have hr : demurReasonOfCode (beNat (byte1 (demurReasonCode r))) = some r := by
      rw [beNat_byte1 (demurReasonCode_lt r), demurReasonOfCode_code]
    show (demurReasonOfCode (beNat (byte1 (demurReasonCode r)))).map
      (fun r => Body.demur ⟨beNat (byte4 b.epoch), beNat (byte1 b.proposer)⟩ r) = _
    rw [hr, hb]
    rfl
  | commit b => exact congrArg (fun x => some (Body.commit x)) (ballot_of_bytes h)
  | withdraw b => exact congrArg (fun x => some (Body.withdraw x)) (ballot_of_bytes h)
  | answer p => rfl
  -- RECALL, whose constructor bears the name of a Mathlib command
  | _ =>
    next target =>
      have htarget : target ≤ 31 := of_decide_eq_true h
      exact congrArg (fun x => some (Body.recall x)) (beNat_byte1 (by omega))

theorem payload_length_le {b : Body} (h : b.fits = true) : b.payload.length ≤ 32 := by
  cases b with
  | tally t =>
    have hread : summaryOf (summaryBytes t) = some t := summaryOf_summaryBytes h
    unfold summaryOf at hread
    split at hread
    · next hlength => exact hlength.trans_le (by decide)
    · cases hread
  | hold serial c index detail =>
    obtain ⟨x, hx⟩ := optByte1_single index
    obtain ⟨y, hy⟩ := optByte1_single (detail.map detailCode)
    show (serial :: byte1 (causeCode c) ++ optByte1 index ++ optByte1 (detail.map detailCode)).length ≤ 32
    rw [hx, hy]
    exact (by decide : 4 ≤ 32)
  | announce _ => exact (by decide : 5 ≤ 32)
  | lift _ => exact (by decide : 1 ≤ 32)
  | propose _ _ _ => exact (by decide : 8 ≤ 32)
  | assent _ => exact (by decide : 5 ≤ 32)
  | demur _ _ => exact (by decide : 6 ≤ 32)
  | commit _ => exact (by decide : 5 ≤ 32)
  | withdraw _ => exact (by decide : 5 ≤ 32)
  | answer p => exact answerFits_length h
  -- RECALL, whose constructor bears the name of a Mathlib command
  | _ => exact (by decide : 1 ≤ 32)

theorem kindCode_ne_order (b : Body) : b.kindCode ≠ orderKindCode ∧ b.kindCode < 256 := by
  cases b <;> simp [Body.kindCode, orderKindCode]

theorem kindAllowed_sender_le (h : kindAllowed sender kind = true) : sender ≤ 24 := by
  unfold kindAllowed at h
  split at h
  · omega
  · exact of_decide_eq_true (Bool.and_eq_true_iff.1 h).1

/-- The bytes of a valid frame are received as its command. -/
theorem receive_wire {b : Body} (h : frameValid sender b = true) : receive (b.wire sender) = b.command sender := by
  obtain ⟨hallowed, hfits⟩ := Bool.and_eq_true_iff.1 h
  obtain ⟨hne, hlt⟩ := kindCode_ne_order b
  unfold Body.wire
  rw [receive_frameBytes (kindAllowed_sender_le hallowed) hlt (payload_length_le hfits) hallowed, if_neg hne,
    bodyReceived_of_some (bodyOf_payload hfits) hfits]

end

end Sys2Proof.Machine

/-! The bytes of an ORDER frame received as its command (R196 to R198). -/

namespace Sys2Proof.Machine

section
variable {i : Instr} {w : List Byte} {number : Byte} {target code : Nat} {args : List Byte}

theorem orderOf_orderPayload (htarget : target ≤ 31) :
    orderOf (orderPayload number target code args) = orderCommand number target (BitVec.ofNat 8 code) args := by
  have ht : (BitVec.ofNat 8 target).toNat = target := by
    rw [BitVec.toNat_ofNat]
    omega
  unfold orderOf orderPayload
  dsimp only
  rw [ht, if_pos htarget]

/-- The bytes of a valid ORDER frame are received as the command of its kind code. -/
theorem receive_order (h : orderFrameValid target args.length = true) :
    receive (frameBytes 0 orderKindCode (orderPayload number target code args)) =
      orderCommand number target (BitVec.ofNat 8 code) args := by
  obtain ⟨htarget, hextra⟩ := Bool.and_eq_true_iff.1 h
  have hlength : (orderPayload number target code args).length ≤ 32 := by
    have hle : 3 + args.length ≤ 32 := of_decide_eq_true hextra
    show args.length + 1 + 1 + 1 ≤ 32
    omega
  rw [receive_frameBytes (by decide) (by decide) hlength (by decide), if_pos rfl, orderOf_orderPayload (of_decide_eq_true htarget)]

theorem storeCommand_of_other (h : args[1]? ≠ some 1#8) : storeCommand number target args = .store number target args := by
  unfold storeCommand
  split
  · next page commit data =>
    exact if_neg fun hcommit => h (congrArg some hcommit)
  · rfl

/-- A code that is none of the ten is none of the kinds. -/
theorem orderCommand_of_unknown {kind : Byte} (h : isOneOfTen kind = false) :
    orderCommand number target kind args = .orderOfUnknownKind number target kind args := by
  have hout : ¬(1 ≤ kind.toNat ∧ kind.toNat ≤ 10) := of_decide_eq_false h
  unfold orderCommand
  split
  case h_11 => rfl
  all_goals
    next heq =>
      rw [heq] at hout
      exact absurd (by decide) hout

theorem readCommand_of_unknown (h : args.head?.any isOneOfTen = false) :
    readCommand number target args = .readOfUnknownRecord number target args := by
  unfold readCommand
  cases args with
  | nil => rfl
  | cons code rest =>
    have hout : ¬(1 ≤ code.toNat ∧ code.toNat ≤ 10) := of_decide_eq_false h
    dsimp only
    split
    case h_11 => rfl
    all_goals
      next heq =>
        rw [heq] at hout
        exact absurd (by decide) hout

/-- The bytes of the frame that an order command is. -/
theorem wire_of_order {p : List Byte} (hbody : bodyOfCommand i = none) (hpayload : payloadOfOrder i = some p)
    (hwire : wireOfCommand i = some w) : w = frameBytes 0 orderKindCode p := by
  unfold wireOfCommand at hwire
  rw [hbody, hpayload] at hwire
  exact (Option.some.inj hwire).symm

/-- An order of known kind is received as the command of its code. -/
theorem receive_of_order (hvalid : orderFrameValid target args.length = true) (hbody : bodyOfCommand i = none)
    (hpayload : payloadOfOrder i = some (orderPayload number target code args))
    (hcommand : orderCommand number target (BitVec.ofNat 8 code) args = i) (hwire : wireOfCommand i = some w) : receive w = i := by
  rw [wire_of_order hbody hpayload hwire, receive_order hvalid, hcommand]

theorem receive_of_read (hvalid : orderFrameValid target (1 + args.length) = true) (hbody : bodyOfCommand i = none)
    (hpayload : payloadOfOrder i = some (readPayload number target code args))
    (hcommand : readCommand number target (BitVec.ofNat 8 code :: args) = i) (hwire : wireOfCommand i = some w) : receive w = i :=
  receive_of_order (code := 1) (args := BitVec.ofNat 8 code :: args) (by rw [List.length_cons, Nat.add_comm]; exact hvalid) hbody hpayload
    hcommand hwire

/-- The bytes of a frame with a body are received as its command. -/
theorem receive_of_body {a : Nat} {b : Body} (hvalid : frameValid a b = true) (hbody : bodyOfCommand i = some (a, b))
    (hcommand : b.command a = i) (hwire : wireOfCommand i = some w) : receive w = i := by
  unfold wireOfCommand at hwire
  rw [hbody] at hwire
  cases hwire
  rw [receive_wire hvalid, hcommand]

end

/-- Settles O55, by the command. -/
theorem bytesAreReceivedAsTheirCommand : Obligations.BytesAreReceivedAsTheirCommand := by
  intro i w hwell hwire
  cases i with
  | tally a t => exact receive_of_body hwell rfl rfl hwire
  | announce a d => exact receive_of_body hwell rfl rfl hwire
  | hold a n c x d => exact receive_of_body hwell rfl rfl hwire
  | lift a n => exact receive_of_body hwell rfl rfl hwire
  | propose a b n d => exact receive_of_body hwell rfl rfl hwire
  | assent a b => exact receive_of_body hwell rfl rfl hwire
  | demur a b r => exact receive_of_body hwell rfl rfl hwire
  | commit a b => exact receive_of_body hwell rfl rfl hwire
  | withdraw a b => exact receive_of_body hwell rfl rfl hwire
  | answer a p => exact receive_of_body hwell rfl rfl hwire
  | orderOpen n t a => exact receive_of_order hwell rfl rfl rfl hwire
  | orderFree n t a => exact receive_of_order hwell rfl rfl rfl hwire
  | reclose n t a => exact receive_of_order hwell rfl rfl rfl hwire
  | release n t a => exact receive_of_order hwell rfl rfl rfl hwire
  | clearSwitch n t a => exact receive_of_order hwell rfl rfl rfl hwire
  | store n t a =>
    obtain ⟨hvalid, hother⟩ := Bool.and_eq_true_iff.1 hwell
    exact receive_of_order hvalid rfl rfl (storeCommand_of_other (of_decide_eq_true hother)) hwire
  | storeCommit n t page data =>
    have hcommand : storeCommand n t (page :: 1#8 :: data) = .storeCommit n t page data := rfl
    exact receive_of_order (args := page :: 1#8 :: data) hwell rfl rfl hcommand hwire
  | pauseBleed n t a => exact receive_of_order hwell rfl rfl rfl hwire
  | resumeBleed n t a => exact receive_of_order hwell rfl rfl rfl hwire
  | restart n t a => exact receive_of_order hwell rfl rfl rfl hwire
  | readIdentity n t a => exact receive_of_read hwell rfl rfl rfl hwire
  | readSamples n t a => exact receive_of_read hwell rfl rfl rfl hwire
  | readMonitor n t a => exact receive_of_read hwell rfl rfl rfl hwire
  | readOwnHolds n t a => exact receive_of_read hwell rfl rfl rfl hwire
  | readRemoteHolds n t a => exact receive_of_read hwell rfl rfl rfl hwire
  | readRoster n t a => exact receive_of_read hwell rfl rfl rfl hwire
  | readBleed n t a => exact receive_of_read hwell rfl rfl rfl hwire
  | readBallot n t a => exact receive_of_read hwell rfl rfl rfl hwire
  | readLockout n t a => exact receive_of_read hwell rfl rfl rfl hwire
  | readConfig n t a => exact receive_of_read hwell rfl rfl rfl hwire
  | orderOfUnknownKind n t k a =>
    obtain ⟨hvalid, hunknown⟩ := Bool.and_eq_true_iff.1 hwell
    have hkind : BitVec.ofNat 8 k.toNat = k := by rw [BitVec.ofNat_toNat, BitVec.setWidth_eq]
    refine receive_of_order hvalid rfl rfl ?_ hwire
    rw [hkind, orderCommand_of_unknown (Bool.not_inj (y := false) hunknown)]
  | readOfUnknownRecord n t a =>
    obtain ⟨hvalid, hunknown⟩ := Bool.and_eq_true_iff.1 hwell
    exact receive_of_order hvalid rfl rfl (readCommand_of_unknown (Bool.not_inj (y := false) hunknown)) hwire
  | supplyStart | storeReadCompletion | sweepTimerExpiry | sweepCompletion | tallyTimerExpiry | settleTimerExpiry
  | proposalTimerExpiry | pledgeTimerExpiry | confirmTimerExpiry | settleCheckExpiry | feedbackChange | accessWaitExpiry
  | frameStart | sendCompletion | sendAbort | discardedFrame | duplicateFrame | activeWriteCompletion
  | releaseWriteCompletion | configWriteCompletion => cases hwire
  -- RECALL, whose constructor bears the name of a Mathlib command
  | _ => exact receive_of_body hwell rfl rfl hwire

end Sys2Proof.Machine

/-! The layouts of the READ records (R196, R208, R209). -/

namespace Sys2Proof.Machine

section
variable {s : State}

/-! ### Optional fields, sets and flags -/

theorem optByte1_eq (o : Option Nat) : optByte1 o = [(o.map fun n => BitVec.ofNat 8 n).getD 0xFF#8] := by cases o <;> rfl

theorem optBytes2_eq (o : Option Nat) : optBytes2 o = byte2 (o.getD 65535) := by cases o <;> rfl

theorem optTempBytes_eq (o : Option Int) : optTempBytes o = (o.map fun v => byte2 (v % 65536).toNat).getD [0x80#8, 0#8] := by
  cases o <;> rfl

/-- The sum of a set's bits from a value on. -/
theorem foldl_bits (low : Nat) (l : List Nat) (n : Nat) :
    l.foldl (fun acc a => acc + 2 ^ (a - low)) n = n + (l.map fun a => 2 ^ (a - low)).sum := by
  induction l generalizing n with
  | nil => rfl
  | cons a l ih => rw [List.foldl_cons, ih, List.map_cons, List.sum_cons, Nat.add_assoc]

theorem bitsOf_eq (low : Nat) (l : List Nat) : bitsOf low l = (l.map fun a => 2 ^ (a - low)).sum := by
  rw [bitsOf, foldl_bits, Nat.zero_add]

theorem flagBits_two (a b : Bool) : flagBits [a, b] = (if a = true then 1 else 0) + if b = true then 2 else 0 := by
  cases a <;> cases b <;> rfl

theorem flagBits_four (a b c d : Bool) :
    flagBits [a, b, c, d] =
      (if a = true then 1 else 0) + (if b = true then 2 else 0) + (if c = true then 4 else 0) + if d = true then 8 else 0 := by
  cases a <;> cases b <;> cases c <;> cases d <;> rfl

theorem flagBits_six (a b c d e f : Bool) :
    flagBits [a, b, c, d, e, f] =
      (if a = true then 1 else 0) + (if b = true then 2 else 0) + (if c = true then 4 else 0) + (if d = true then 8 else 0) +
        (if e = true then 16 else 0) + if f = true then 32 else 0 := by
  cases a <;> cases b <;> cases c <;> cases d <;> cases e <;> cases f <;> rfl

/-! ### The records -/

theorem samplesRecord_zero {x : SampleSet} (h : s.sweep.latest = some x) :
    s.samplesRecord 0 = some (byte4 x.completed.toNat ++ [if s.sweep.inProgress = true then 1#8 else 0#8] ++
      [1, 2, 3, 4, 5, 6, 7, 8, 9, 10].flatMap fun c => byte2 ((x.cell c).getD 65535)) := by
  unfold State.samplesRecord
  rw [h]
  simp only [optBytes2_eq]
  rfl

theorem samplesRecord_one {x : SampleSet} (h : s.sweep.latest = some x) :
    s.samplesRecord 1 = some (byte4 x.completed.toNat ++ [if s.sweep.inProgress = true then 1#8 else 0#8] ++
      byte2 (([0, 1, 2, 3, 4, 5, 6, 7, 8, 9, 10].filter x.isOpen).map fun a => 2 ^ (a - 0)).sum ++ byte2 x.moduleSum ++
      (x.t1.map fun v => byte2 (v % 65536).toNat).getD [0x80#8, 0#8] ++ (x.t2.map fun v => byte2 (v % 65536).toNat).getD [0x80#8, 0#8] ++
      byte2 (x.die % 65536).toNat) := by
  unfold State.samplesRecord
  rw [h]
  simp only [optTempBytes_eq, bitsOf_eq]
  rfl

theorem recurrenceBytes_length (n : Nat) (l : List ClockTime) : (recurrenceBytes n l).length = 8 := by
  match l with
  | [] => rfl
  | [_] => rfl
  | _ :: _ :: _ => rfl

/-- READ MONITOR, with the times that the monitor may not hold left open (log 17). -/
theorem monitorRecord_layout (s : State) (m : Monitor) :
    ∃ times last, s.monitorRecord m = [BitVec.ofNat 8 m.number, BitVec.ofNat 8 (monitorKindCode m.kind),
        (m.cell.map fun n => BitVec.ofNat 8 n).getD 0xFF#8, BitVec.ofNat 8 (monitorStateCode m.state), BitVec.ofNat 8 m.count,
        BitVec.ofNat 8 m.severeCount, BitVec.ofNat 8 m.recurrence.length] ++ times ++
        [(m.raisedTap.map fun n => BitVec.ofNat 8 n).getD 0xFF#8, ((m.lastClass.map classCode).map fun n => BitVec.ofNat 8 n).getD 0xFF#8] ++
        last ∧ times.length = 8 ∧ last.length = 4 ∧
      (∀ n, m.recurrence = [n] → times.take 4 = byte4 n.toNat) ∧
      (∀ n o, m.recurrence = [n, o] → times = byte4 n.toNat ++ byte4 o.toNat) ∧
      ∀ v, s.monitors.lastEvaluated = some v → last = byte4 v.toNat := by
  refine ⟨recurrenceBytes s.free m.recurrence, timeBytes (s.monitors.lastEvaluated.getD (Config.unusedTime (s.free + 2))), ?_,
    recurrenceBytes_length _ _, rfl, fun n hn => ?_, fun n o hn => ?_, fun v hv => ?_⟩
  · unfold State.monitorRecord
    rw [optByte1_eq, optByte1_eq, optByte1_eq]
    simp [byte1]
  · rw [hn]
    rfl
  · rw [hn]
    rfl
  · rw [hv]
    rfl

theorem ownHoldsRecord_eq (s : State) (p : Nat) :
    s.ownHoldsRecord p = byte4 s.clock.ms.toNat ++ [BitVec.ofNat 8 s.holds.own.length] ++
      ((s.holds.own.drop (5 * p)).take 5).flatMap fun h =>
        [h.serial, BitVec.ofNat 8 (causeCode h.cause * 16 + h.index.getD 15),
          ((h.detail.map detailCode).map fun n => BitVec.ofNat 8 n).getD 0xFF#8] ++
          byte2 (min ((s.clock.ms - h.raised).toNat / 100) 65535) := by
  unfold State.ownHoldsRecord OwnHold.bytes
  simp only [optByte1_eq]
  rfl

theorem remoteHoldsRecord_eq (s : State) (p : Nat) :
    s.remoteHoldsRecord p = byte4 s.clock.ms.toNat ++ [BitVec.ofNat 8 s.holds.remote.length] ++
      ((s.holds.remote.drop (4 * p)).take 4).flatMap fun h =>
        [BitVec.ofNat 8 h.origin, h.serial, BitVec.ofNat 8 (causeCode h.cause * 16 + h.index.getD 15),
          ((h.detail.map detailCode).map fun n => BitVec.ofNat 8 n).getD 0xFF#8] ++
          byte2 (min ((s.clock.ms - h.arrived).toNat / 100) 65535) := by
  unfold State.remoteHoldsRecord RemoteHold.bytes
  simp only [optByte1_eq]
  rfl

/-- READ ROSTER page 0, with its announce data after the flags (R208). -/
theorem rosterRecord_zero (e : RosterEntry) :
    rosterRecord e 0 = [BitVec.ofNat 8 e.address, BitVec.ofNat 8 (entryStateCode e.state), BitVec.ofNat 8 e.age,
      BitVec.ofNat 8 ((if e.recallPending = true then 1 else 0) + (if e.confirmed = true then 2 else 0) +
        (if e.summary.isSome = true then 4 else 0) + if e.announced.isSome = true then 8 else 0)] ++
      match e.announced with
      | some d => announceBytes d
      | none => List.replicate 5 255#8 := by
  unfold rosterRecord
  rw [if_pos rfl, flagBits_four]
  rfl

theorem summaryBytes_eq (x : Summary) :
    summaryBytes x = [BitVec.ofNat 8 (modeCode x.mode), BitVec.ofNat 8 x.holdCount] ++ byte2 x.lockoutSerial ++
      (byte4 x.ballot.epoch ++ [BitVec.ofNat 8 x.ballot.proposer]) ++ byte2 x.digest.toNat ++ byte2 (x.minCell.getD 65535) ++
      byte2 (x.maxCell.getD 65535) ++ byte2 (x.moduleSum.getD 65535) ++
      (x.maxTemperature.map fun v => byte2 (v % 65536).toNat).getD [0x80#8, 0#8] ++
      [BitVec.ofNat 8 x.advertisedDemand, BitVec.ofNat 8 x.bleedingCount, BitVec.ofNat 8 x.presentCount,
        BitVec.ofNat 8 ((if x.bleedPaused = true then 1 else 0) + if x.defaultConfiguration = true then 2 else 0)] := by
  unfold summaryBytes
  rw [optBytes2_eq, optBytes2_eq, optBytes2_eq, optTempBytes_eq]
  simp [byte1, ballotBytes]

/-- The selection in READ BLEED: five places, the free ones absent (R130). -/
theorem selection_places {l : List Nat} (h : l.length ≤ 5) :
    ((l.flatMap byte1) ++ List.replicate 5 255#8).take 5 = l.map (fun n => BitVec.ofNat 8 n) ++ List.replicate (5 - l.length) 0xFF#8 := by
  have hmap : l.flatMap byte1 = l.map fun n => BitVec.ofNat 8 n :=
    List.flatMap_pure_eq_map (fun n => BitVec.ofNat 8 n) l
  rw [hmap, List.take_append, List.take_of_length_le (by rw [List.length_map]; exact h), List.length_map, List.take_replicate,
    Nat.min_eq_left (Nat.sub_le 5 l.length)]

theorem bleedRecord_eq (p : PlanRecord) (h : p.selection.length ≤ 5) :
    bleedRecord p = [BitVec.ofNat 8 (disallowCode p.reason)] ++ byte2 (p.floor.getD 65535) ++ byte2 (p.target.getD 65535) ++
      [BitVec.ofNat 8 p.total, BitVec.ofNat 8 p.selection.length] ++ p.selection.map (fun n => BitVec.ofNat 8 n) ++
      List.replicate (5 - p.selection.length) 0xFF#8 ++
      [BitVec.ofNat 8 p.demand, BitVec.ofNat 8 p.advertised, BitVec.ofNat 8 p.grant] ++
      byte2 (p.bleedSet.map fun a => 2 ^ (a - 1)).sum ++
      [BitVec.ofNat 8 ((if p.suspended = true then 1 else 0) + if p.paused = true then 2 else 0)] := by
  unfold bleedRecord
  rw [selection_places h, optBytes2_eq, optBytes2_eq, flagBits_two, bitsOf_eq]
  simp [byte1]

theorem ballotRecord_eq (s : State) :
    s.ballotRecord = [BitVec.ofNat 8 (modeCode s.ballot.mode)] ++
      (byte4 s.ballot.highest.epoch ++ [BitVec.ofNat 8 s.ballot.highest.proposer]) ++
      (byte4 (s.ballot.current.getD ⟨0, 0⟩).epoch ++ [BitVec.ofNat 8 (s.ballot.current.getD ⟨0, 0⟩).proposer]) ++
      [BitVec.ofNat 8 (roleCode s.ballot.role), BitVec.ofNat 8 ((s.ballot.votes.map fun a => 2 ^ (a - 1)).sum / 65536),
        BitVec.ofNat 8 ((s.ballot.votes.map fun a => 2 ^ (a - 1)).sum / 256), BitVec.ofNat 8 (s.ballot.votes.map fun a => 2 ^ (a - 1)).sum,
        BitVec.ofNat 8 ((if s.ballot.commitClaimed = true then 1 else 0) + (if s.ready = true then 2 else 0) +
          (if s.ballot.settle.isRunning = true then 4 else 0) + (if s.ballot.proposal.isRunning = true then 8 else 0) +
          (if s.ballot.pledge.isRunning = true then 16 else 0) + if s.ballot.confirm.isRunning = true then 32 else 0),
        BitVec.ofNat 8 s.duty] := by
  unfold State.ballotRecord
  rw [flagBits_six, bitsOf_eq]
  rfl

/-- READ LOCKOUT with the two slots between the record and the write in flight (R159). -/
theorem lockoutRecordBytes_eq (u : LockoutUnit) :
    lockoutRecordBytes u = [Config.recordStateCode (decide (u.record.state = .active))] ++ byte2 u.record.serial ++
      [((u.record.cause.map lockoutCauseCode).map fun n => BitVec.ofNat 8 n).getD 0xFF#8,
        (u.record.index.map fun n => BitVec.ofNat 8 n).getD 0xFF#8, if u.record.retained = true then 1#8 else 0#8,
        BitVec.ofNat 8 u.record.attempt] ++ slotBytes u.copies.lockoutA ++ slotBytes u.copies.lockoutB ++
      [BitVec.ofNat 8 (writeCode u.inFlight), if u.pendingWrite = true then 1#8 else 0#8,
        ((u.pendingEscalation.map fun e => lockoutCauseCode e.cause).map fun n => BitVec.ofNat 8 n).getD 0xFF#8,
        ((u.pendingEscalation.bind fun e => e.index).map fun n => BitVec.ofNat 8 n).getD 0xFF#8] := by
  unfold lockoutRecordBytes
  rw [optByte1_eq, optByte1_eq, optByte1_eq, optByte1_eq]
  simp [byte1, flagByte]

theorem slotBytes_some (y : LockoutSlot) :
    slotBytes (some y) = [if y.state = .active then 1#8 else 2#8] ++ byte2 y.serial ++
      [BitVec.ofNat 8 (lockoutCauseCode y.cause), (y.index.map fun n => BitVec.ofNat 8 n).getD 0xFF#8] := by
  unfold slotBytes
  dsimp only
  rw [optByte1_eq]
  cases y.state <;> rfl

/-- A slot as READ LOCKOUT shows it (R159). -/
theorem slotBytes_layout (o : Option LockoutSlot) :
    (o = none → slotBytes o = [0#8, 0xFF#8, 0xFF#8, 0xFF#8, 0xFF#8]) ∧
      ∀ y, o = some y → slotBytes o = [if y.state = .active then 1#8 else 2#8] ++ byte2 y.serial ++
        [BitVec.ofNat 8 (lockoutCauseCode y.cause), (y.index.map fun n => BitVec.ofNat 8 n).getD 0xFF#8] := by
  refine ⟨fun hnone => ?_, fun y hy => ?_⟩
  · rw [hnone]
    rfl
  · rw [hy, slotBytes_some]

end

/-- Settles O51, record by record. -/
theorem readRecordsLaidOut : Obligations.ReadRecordsLaidOut := by
  refine ⟨fun _ => rfl, fun _ => rfl, fun s => ⟨rfl, fun x hx => ⟨samplesRecord_zero hx, samplesRecord_one hx⟩,
    monitorRecord_layout s, ownHoldsRecord_eq s, remoteHoldsRecord_eq s, fun e => ⟨?_, fun hnone => ?_, fun x hx => ?_⟩,
    bleedRecord_eq s.plan, ballotRecord_eq s, fun u => ?_, ?_, rfl, rfl, rfl, rfl, rfl, rfl, rfl, rfl, rfl, rfl, rfl, rfl, fun _ => rfl, rfl, rfl,
    rfl⟩⟩
  · refine ⟨_, rosterRecord_zero e, fun hnone => ?_, fun d hd => ?_⟩
    · rw [hnone]
    · rw [hd]
      rfl
  · unfold rosterRecord
    rw [if_neg (by decide), hnone]
    rfl
  · unfold rosterRecord
    rw [if_neg (by decide), hx]
    dsimp only
    rw [summaryBytes_eq]
    rfl
  · refine ⟨_, _, _, lockoutRecordBytes_eq u, fun p hp => ?_⟩
    rcases List.mem_pair.1 hp with rfl | rfl
    · exact slotBytes_layout _
    · exact slotBytes_layout _
  · exact ⟨rfl, fun y => ⟨rfl, rfl, rfl, rfl⟩, fun y => ⟨rfl, rfl⟩⟩

end Sys2Proof.Machine

/-! What each command leaves as it was. -/

namespace Sys2Proof.Machine

/-- From s to t only blocks of a list have changed, and no waiting command. -/
structure Leaves (l : List Block) (s t : State) : Prop where
  pending : t.pending = s.pending
  same : ∀ b, b ∉ l → sameBlock s t b

section
variable {s t u : State} {l m : List Block}

theorem sameBlock_refl (s : State) (b : Block) : sameBlock s s b := by cases b <;> rfl

theorem sameBlock_trans {b : Block} (h : sameBlock s t b) (h' : sameBlock t u b) : sameBlock s u b := by
  cases b <;> exact Eq.trans h' h

theorem Leaves.refl (l : List Block) (s : State) : Leaves l s s := ⟨rfl, fun b _ => sameBlock_refl s b⟩

theorem Leaves.trans (h : Leaves l s t) (h' : Leaves l t u) : Leaves l s u :=
  ⟨h'.pending.trans h.pending, fun b hb => sameBlock_trans (h.same b hb) (h'.same b hb)⟩

theorem Leaves.mono (h : Leaves l s t) (hsub : l ⊆ m) : Leaves m s t := ⟨h.pending, fun b hb => h.same b fun hmem => hb (hsub hmem)⟩

/-- A change of the blocks of a list, by the equations of the blocks that it leaves. -/
theorem leaves_iff : Leaves l s t ↔ t.pending = s.pending ∧ (.pins ∈ l ∨ t.pins = s.pins) ∧ (.clock ∈ l ∨ t.clock = s.clock) ∧
    (.startup ∈ l ∨ t.startup = s.startup) ∧ (.sweep ∈ l ∨ t.sweep = s.sweep) ∧ (.monitors ∈ l ∨ t.monitors = s.monitors) ∧
    (.holds ∈ l ∨ t.holds = s.holds) ∧ (.roster ∈ l ∨ t.roster = s.roster) ∧ (.ballot ∈ l ∨ t.ballot = s.ballot) ∧
    (.plan ∈ l ∨ t.plan = s.plan) ∧ (.switch ∈ l ∨ t.switch = s.switch) ∧ (.lockout ∈ l ∨ t.lockout = s.lockout) ∧
    (.store ∈ l ∨ t.store = s.store) ∧ (.link ∈ l ∨ t.link = s.link) ∧ (.orders ∈ l ∨ t.orders = s.orders) := by
  constructor
  · intro h
    have hsame : ∀ b, b ∈ l ∨ sameBlock s t b := fun b => (Decidable.em (b ∈ l)).imp_right (h.same b)
    exact ⟨h.pending, hsame .pins, hsame .clock, hsame .startup, hsame .sweep, hsame .monitors, hsame .holds, hsame .roster,
      hsame .ballot, hsame .plan, hsame .switch, hsame .lockout, hsame .store, hsame .link, hsame .orders⟩
  · rintro ⟨hpending, hpins, hclock, hstartup, hsweep, hmonitors, hholds, hroster, hballot, hplan, hswitch, hlockout, hstore, hlink,
      horders⟩
    refine ⟨hpending, fun b hb => ?_⟩
    cases b with
    | pins => exact hpins.resolve_left hb
    | clock => exact hclock.resolve_left hb
    | startup => exact hstartup.resolve_left hb
    | sweep => exact hsweep.resolve_left hb
    | monitors => exact hmonitors.resolve_left hb
    | holds => exact hholds.resolve_left hb
    | roster => exact hroster.resolve_left hb
    | ballot => exact hballot.resolve_left hb
    | plan => exact hplan.resolve_left hb
    | switch => exact hswitch.resolve_left hb
    | lockout => exact hlockout.resolve_left hb
    | store => exact hstore.resolve_left hb
    | link => exact hlink.resolve_left hb
    | orders => exact horders.resolve_left hb

/-! ### The operations -/

theorem setBallot_leaves (b : BallotUnit) (s : State) : Leaves [.ballot] s (s.setBallot b) := by simp [leaves_iff]
theorem setLink_leaves (x : LinkController) (s : State) : Leaves [.link] s (s.setLink x) := by simp [leaves_iff]
theorem setOrders_leaves (x : OrderHandler) (s : State) : Leaves [.orders] s (s.setOrders x) := by simp [leaves_iff]
theorem setFree_leaves (n : Nat) (s : State) : Leaves [] s (s.setFree n) := by simp [leaves_iff]
theorem setLockout_leaves (x : LockoutUnit) (s : State) : Leaves [.lockout] s (s.setLockout x) := by simp [leaves_iff]
theorem setStartup_leaves (x : StartSequence) (s : State) : Leaves [.startup] s (s.setStartup x) := by simp [leaves_iff]
theorem setSweep_leaves (x : SweepUnit) (s : State) : Leaves [.sweep] s (s.setSweep x) := by simp [leaves_iff]
theorem updateEntry_leaves (a : Nat) (f : RosterEntry → RosterEntry) (s : State) :
    Leaves [.roster, .ballot] s (s.updateEntry a f) := by simp [leaves_iff]
theorem claim_leaves (x : Claim) (s : State) : Leaves [.link] s (claim x s) := by simp [leaves_iff]
theorem leave_leaves (s : State) : Leaves [.ballot, .switch, .link] s (leave s) := by simp [leaves_iff]
theorem propose_leaves (s : State) : Leaves [.ballot, .switch, .link] s (propose s) := by simp [leaves_iff]
theorem enterClosed_leaves (s : State) : Leaves [.roster, .ballot, .switch, .link] s (enterClosed s) := by simp [leaves_iff]
theorem confirmOffer_leaves (a : Nat) (m : Mode) (b : Ballot) (s : State) :
    Leaves [.roster, .ballot, .switch, .link] s (confirmOffer a m b s) := by simp [leaves_iff]
theorem raiseHold_leaves (c : Cause) (i : Option Nat) (d : Option Detail) (s : State) :
    Leaves [.holds, .ballot, .switch, .link] s (raiseHold c i d s) := by simp [leaves_iff]
theorem liftHold_leaves (c : Cause) (i : Option Nat) (s : State) : Leaves [.holds, .ballot, .link] s (liftHold c i s) := by simp [leaves_iff]
theorem removeNotice_leaves (n : Nat) (s : State) : Leaves [.holds] s (removeNotice n s) := by simp [leaves_iff]
theorem enterMute_leaves (s : State) : Leaves [.holds, .link] s (enterMute s) := by simp [leaves_iff, enterMute]
theorem escalate_leaves (e : Escalation) (s : State) :
    Leaves [.holds, .ballot, .switch, .lockout, .store, .link] s (escalate e s) := by simp [leaves_iff]
theorem startWrite_leaves (w : Write) (s : State) : Leaves [.lockout, .store] s (startWrite w s) := by simp [leaves_iff]
theorem startRelease_leaves (s : State) : Leaves [.lockout, .store] s (startRelease s) := by simp [leaves_iff]
theorem startPending_leaves (s : State) : Leaves [.lockout, .store] s (startPending s) := by simp [leaves_iff]
theorem endWrite_leaves (w : Write) (o : WriteOutcome) (s : State) : Leaves [.lockout, .store] s (endWrite w o s) := by simp [leaves_iff]
theorem judgeLink_leaves (s : State) : Leaves [.holds, .ballot, .switch, .link] s (judgeLink s) := by simp [leaves_iff]
theorem judgeDiscord_leaves (s : State) : Leaves [.holds, .ballot, .switch, .link] s (judgeDiscord s) := by simp [leaves_iff]
theorem judgeView_leaves (s : State) : Leaves [.holds, .ballot, .switch, .link] s (judgeView s) := by simp [leaves_iff]
theorem heardState_leaves (a : Nat) (s : State) : Leaves byHearing s (heardState a s) := by simp [leaves_iff, byHearing]
theorem ownAddressHeard_leaves (s : State) : Leaves [.holds, .ballot, .switch, .link] s (ownAddressHeard s) := by simp [leaves_iff]
theorem lineQuiet_leaves (s : State) : Leaves [.link] s (lineQuiet s) := by simp [leaves_iff]
theorem setLastSender_leaves (a : Nat) (s : State) : Leaves [.link] s (setLastSender a s) := by simp [leaves_iff]
theorem joinEntry_leaves (s : State) : Leaves [.holds, .roster, .ballot, .plan, .switch, .link] s (joinEntry s) := by simp [leaves_iff]
theorem deliverSweep_leaves (s : State) :
    Leaves [.monitors, .holds, .ballot, .plan, .switch, .lockout, .store, .link] s (deliverSweep s) := by simp [leaves_iff]
theorem takeReadings_leaves (r : Readings) (s : State) : Leaves [.sweep] s (takeReadings r s) := by simp [leaves_iff]
theorem endEvent_leaves (before s : State) : Leaves [.ballot, .link] s (endEvent before s) := by simp [leaves_iff]

/-- The owner of a frame changes no more than a hearing may. -/
theorem owner_leaves (a : Nat) (s : State) (b : Body) (u : State) : Leaves byHearing u (b.owner a s u) := by
  cases b <;> simp [Body.owner, leaves_iff, byHearing]

/-! ### The commands of the timers, the sweep and the switch -/

theorem readFinished_leaves (s : State) : Leaves [.startup, .monitors, .holds, .ballot, .switch, .lockout, .store, .link] s
    (finishRead (settleLockout (settleConfig (copySlots s)))) := by
  simp [leaves_iff, finishRead]

theorem completeRead_leaves (s : State) :
    Leaves [.startup, .monitors, .holds, .roster, .ballot, .plan, .switch, .lockout, .store, .link] s (completeRead s) := by
  unfold completeRead
  split
  · dsimp only
    split
    · exact (((readFinished_leaves s).mono (by decide)).trans ((deliverSweep_leaves _).mono (by decide))).trans ((joinEntry_leaves _).mono (by decide))
    · exact (readFinished_leaves s).mono (by decide)
  · exact .refl _ s

theorem expireSweepTimer_leaves (s : State) : Leaves [.sweep, .plan] s (expireSweepTimer s) := by
  unfold expireSweepTimer
  split
  · simp [leaves_iff]
  · exact .refl _ s

theorem completeSweep_leaves (r : Readings) (s : State) :
    Leaves [.startup, .sweep, .monitors, .holds, .roster, .ballot, .plan, .switch, .lockout, .store, .link] s (completeSweep r s) := by
  have hreadings := (takeReadings_leaves r s).mono
    (m := [.startup, .sweep, .monitors, .holds, .roster, .ballot, .plan, .switch, .lockout, .store, .link]) (by decide)
  unfold completeSweep
  split
  · dsimp only
    split
    · have hfirst := hreadings.trans
        ((setStartup_leaves { (takeReadings r s).startup with firstSweepComplete := true } (takeReadings r s)).mono (by decide))
      unfold completeFirstSweep
      dsimp only
      split
      · exact (hfirst.trans ((deliverSweep_leaves _).mono (by decide))).trans ((joinEntry_leaves _).mono (by decide))
      · exact hfirst
    · exact hreadings.trans ((deliverSweep_leaves _).mono (by decide))
  · exact .refl _ s

theorem expireTallyTimer_leaves (s : State) : Leaves byHearing s (expireTallyTimer s) := by
  have haged : Leaves byHearing s (judgeDiscord (ageTick (startTally s))) := by simp [leaves_iff, byHearing]
  have hcounted : ∀ v, Leaves byHearing v (countExpiry v) := fun v => by
    unfold countExpiry deliverJoinComplete
    split
    · split <;> simp [leaves_iff, byHearing]
    · simp [leaves_iff, byHearing]
  unfold expireTallyTimer
  split
  · exact ((haged.trans (hcounted _)).trans ((judgeLink_leaves _).mono (by decide))).trans ((claim_leaves _ _).mono (by decide))
  · exact .refl _ s

theorem expireSettleTimer_leaves (s : State) : Leaves [.switch, .ballot, .link] s (expireSettleTimer s) := by
  unfold expireSettleTimer
  dsimp only
  split
  · split
    · exact ((setBallot_leaves _ s).mono (by decide)).trans ((propose_leaves _).mono (by decide))
    · exact (setBallot_leaves _ s).mono (by decide)
  · exact .refl _ s

/-- A timer stopped, after which the station may leave its ballot. -/
theorem stopped_leaves (p : Prop) [Decidable p] (b : BallotUnit) (s : State) :
    Leaves [.switch, .ballot, .link] s (if p then leave (s.setBallot b) else s.setBallot b) := by
  split
  · exact ((setBallot_leaves b s).mono (by decide)).trans ((leave_leaves _).mono (by decide))
  · exact (setBallot_leaves b s).mono (by decide)

theorem expireProposalTimer_leaves (s : State) : Leaves [.switch, .ballot, .link] s (expireProposalTimer s) := by
  unfold expireProposalTimer
  split
  · exact stopped_leaves _ _ s
  · exact .refl _ s

theorem expirePledgeTimer_leaves (s : State) : Leaves [.switch, .ballot, .link] s (expirePledgeTimer s) := by
  unfold expirePledgeTimer
  split
  · exact stopped_leaves _ _ s
  · exact .refl _ s

theorem expireConfirmTimer_leaves (s : State) : Leaves [.switch, .ballot, .link] s (expireConfirmTimer s) := by
  unfold expireConfirmTimer
  split
  · exact stopped_leaves _ _ s
  · exact .refl _ s

theorem expireCheck_leaves (s : State) : Leaves [.holds, .switch, .lockout, .store, .ballot, .link] s (expireCheck s) := by
  have hjudged : ∀ cause v, Leaves [.holds, .switch, .lockout, .store, .ballot, .link] v (judgeSwitch cause v) := fun cause v => by
    unfold judgeSwitch
    split
    · exact .refl _ v
    · exact .refl _ v
    · split <;> exact (raiseHold_leaves _ _ _ v).mono (by decide)
    · exact ((raiseHold_leaves _ _ _ v).mono (by decide)).trans ((escalate_leaves _ _).mono (by decide))
  unfold expireCheck
  split
  · refine Leaves.trans ?_ (hjudged _ _)
    simp [leaves_iff]
  · exact .refl _ s

theorem changeFeedback_leaves (level : SwitchPos) (s : State) : Leaves [.pins, .switch] s (changeFeedback level s) := by
  unfold changeFeedback
  dsimp only
  split <;> simp [leaves_iff]

/-! ### The commands of the link -/

theorem transmit_leaves (s : State) : Leaves [.link] s (transmit s) := by
  obtain h | ⟨i, b, -, -, h⟩ := transmit_cases s <;> rw [h]
  · exact .refl _ s
  · exact setLink_leaves _ s

theorem expireAccessWait_leaves (s : State) : Leaves [.link] s (expireAccessWait s) := by
  unfold expireAccessWait
  split
  · exact (setLink_leaves _ s).trans (transmit_leaves _)
  · exact .refl _ s

theorem muteAfter_leaves (x : Sending) (s : State) : Leaves [.holds, .link] s (muteAfter x s) := by
  unfold muteAfter
  split
  · exact enterMute_leaves s
  · exact .refl _ s

theorem ownTallySent_leaves (x : Summary) (s : State) : Leaves (.plan :: byHearing) s (ownTallySent x s) := by
  have hplan : ∀ v, Leaves (.plan :: byHearing) v (tallyPlanPoint x.advertisedDemand v) := fun v => by simp [leaves_iff, byHearing]
  have hupdated := (updateEntry_leaves s.own (fun e => { e with summary := some x }) s).mono (m := .plan :: byHearing) (by decide)
  unfold ownTallySent
  dsimp only
  split
  · exact (hupdated.trans ((confirmOffer_leaves _ _ _ _).mono (by decide))).trans (hplan _)
  · exact hupdated.trans (hplan _)

theorem itemSent_leaves (x : Sending) (s : State) : Leaves (.plan :: byHearing) s (itemSent x s) := by
  unfold itemSent
  split
  · exact (setLink_leaves _ s).mono (by decide)
  · unfold noticeSent keepForReplay
    (repeat' split) <;> simp [leaves_iff, byHearing]
  · next n _ =>
    have hremoved : Leaves (.plan :: byHearing) s (removeQueued n s) := (setLink_leaves _ s).mono (by decide)
    refine hremoved.trans ?_
    unfold frameSent ownCommitSent
    split
    · exact ownTallySent_leaves _ _
    · split
      · exact (enterClosed_leaves _).mono (by decide)
      · exact .refl _ _
    · exact .refl _ _

theorem sendSettled_leaves (x : Sending) (s : State) : Leaves (.plan :: byHearing) s (sendSettled x s) := by
  have hcleared : Leaves (.plan :: byHearing) s (lineCleared s) := (setLink_leaves _ s).mono (by decide)
  exact ((hcleared.trans (itemSent_leaves x _)).trans ((liftHold_leaves _ _ _).mono (by decide))).trans
    ((muteAfter_leaves x _).mono (by decide))

theorem completeSend_leaves (h : ∀ x, s.link.sending = some x → s.sendsRestart x = false) :
    Leaves (.plan :: byHearing) s (completeSend s) := by
  cases hx : s.link.sending with
  | none =>
    rw [completeSend_of_none hx]
    exact .refl _ s
  | some x =>
    rw [completeSend_of_sending hx, if_neg (by rw [h x hx]; decide)]
    exact sendSettled_leaves x s

theorem abortSend_leaves (s : State) : Leaves [.holds, .ballot, .switch, .link] s (abortSend s) := by
  have hfailed : ∀ x v, Leaves [.holds, .ballot, .switch, .link] v (countFailure x v) := fun x v => by
    unfold countFailure
    split
    · exact (setLink_leaves _ v).mono (by decide)
    · have hdropped : Leaves [.holds, .ballot, .switch, .link] v
          (dropItem x.item (v.setLink { v.link with attempts := 0, counted := none })) := by
        unfold dropItem
        split <;> simp [leaves_iff, clearAnnounce, removeQueued]
      exact (hdropped.trans (raiseHold_leaves _ _ _ _)).trans ((muteAfter_leaves x _).mono (by decide))
  have haborted : ∀ n v, Leaves [.holds, .ballot, .switch, .link] v (noticeAborted n v) := fun n v => by
    unfold noticeAborted
    (repeat' split) <;> simp [leaves_iff]
  have hsettled : ∀ x v, Leaves [.holds, .ballot, .switch, .link] v
      (if v.holdsItem x.item then countFailure x v else v.setLink { v.link with attempts := 0, counted := none }) := fun x v => by
    split
    · exact hfailed x v
    · exact (setLink_leaves _ v).mono (by decide)
  unfold abortSend
  split
  · exact .refl _ s
  · next x _ =>
    have hoff : Leaves [.holds, .ballot, .switch, .link] s (s.setLink { s.link with sending := none }) :=
      (setLink_leaves _ s).mono (by decide)
    refine Leaves.trans ?_ (hsettled x _)
    cases x.item with
    | announce => exact hoff
    | notice n => exact hoff.trans (haborted n _)
    | queued n => exact hoff

theorem takeDuplicate_leaves (s : State) : Leaves [.holds, .ballot, .switch, .link] s (takeDuplicate s) := by
  unfold takeDuplicate
  split
  · exact ownAddressHeard_leaves s
  · exact .refl _ s

/-! ### The commands of the store -/

theorem completeActive_leaves (o : WriteOutcome) (s : State) : Leaves [.lockout, .store] s (completeActive o s) := by
  simp [leaves_iff]

theorem answerAwaited_leaves (r : OrderResult) (s : State) : Leaves [.orders, .link] s (answerAwaited r s) := by
  unfold answerAwaited
  split
  · exact .refl _ s
  · simp [leaves_iff]

theorem completeConfig_leaves (o : WriteOutcome) (s : State) : Leaves [.lockout, .store, .orders, .link] s (completeConfig o s) := by
  unfold completeConfig
  split
  · exact (((endWrite_leaves _ _ s).mono (by decide)).trans ((answerAwaited_leaves _ _).mono (by decide))).trans
      ((startPending_leaves _).mono (by decide))
  · exact .refl _ s

theorem completeRelease_leaves (o : WriteOutcome) (s : State) :
    Leaves [.lockout, .store, .holds, .orders, .ballot, .switch, .link] s (completeRelease o s) := by
  have hended : ∀ w, Leaves [.lockout, .store, .holds, .orders, .ballot, .switch, .link] s (endWrite w o s) := fun w =>
    (endWrite_leaves w o s).mono (by decide)
  have hpending : ∀ v, Leaves [.lockout, .store, .holds, .orders, .ballot, .switch, .link] v (startPending v) := fun v =>
    (startPending_leaves v).mono (by decide)
  unfold completeRelease
  split
  · dsimp only
    split
    · have hreleased : ∀ v, Leaves [.lockout, .store, .holds, .orders, .ballot, .switch, .link] v (liftHold .lockout none (releaseRecord v)) :=
        fun v => by simp [leaves_iff]
      have happlied : ∀ v, Leaves [.lockout, .store, .holds, .orders, .ballot, .switch, .link] v (applyPendingEscalation v) := fun v => by
        simp [leaves_iff]
      exact ((((hended _).trans (hreleased _)).trans ((answerAwaited_leaves _ _).mono (by decide))).trans (happlied _)).trans (hpending _)
    · exact (((hended _).trans ((answerAwaited_leaves _ _).mono (by decide))).trans ((setLockout_leaves _ _).mono (by decide))).trans
        (hpending _)
  · exact .refl _ s

end

end Sys2Proof.Machine

/-! What an order leaves as it was, and the frame of every command. -/

namespace Sys2Proof.Machine

section
variable {l : List Block} {s u : State} {kind : OrderKind} {run : State → State × OrderResult} {broadcast : State → State}

/-! ### Taking an order -/

/-- An order of this kind starts no station: the station is not MUTE, or neither the order nor the remembered one is a RESTART. -/
def State.staysUp (s : State) (kind : OrderKind) : Prop :=
  s.link.mute = true → kind ≠ .restart ∧ ∀ m, s.orders.memory = some m → m.kind ≠ .restart

theorem settleAnswer_leaves (number : Byte) (r : OrderResult) (h : kind = .restart → u.link.mute = false) :
    Leaves [.orders, .link] u (settleAnswer number kind r u) := by
  rw [settleAnswer_of_answering fun ⟨hkind, _, hmute⟩ => nomatch (h hkind).symm.trans hmute]
  exact ((setOrders_leaves _ u).mono (by decide)).trans ((claim_leaves _ _).mono (by decide))

theorem settleOrder_leaves (number : Byte) (r : OrderResult) (h : kind = .restart → u.link.mute = false) :
    Leaves [.orders, .link] u (settleOrder number kind r u) := by
  unfold settleOrder
  split
  · exact (setOrders_leaves _ u).mono (by decide)
  · exact settleAnswer_leaves number r h

theorem repeatAnswer_leaves (m : OrderMemory) (h : m.kind = .restart → u.link.mute = false) :
    Leaves [.orders, .link] u (repeatAnswer m u) := by
  unfold repeatAnswer
  rw [if_neg fun ⟨hkind, hmute⟩ => nomatch (h hkind).symm.trans hmute]
  split
  · exact (claim_leaves _ u).mono (by decide)
  · exact .refl _ u

theorem State.staysUp.mute (h : u.staysUp kind) (hkind : kind = .restart) : u.link.mute = false :=
  Bool.eq_false_of_not_eq_true fun hmute => (h hmute).1 hkind

theorem State.staysUp.mute_of_memory (h : u.staysUp kind) {m : OrderMemory} (hm : u.orders.memory = some m) (hkind : m.kind = .restart) :
    u.link.mute = false :=
  Bool.eq_false_of_not_eq_true fun hmute => (h hmute).2 m hm hkind

/-- An order changes what its execution changes, the order memory and the link. Executing a RESTART changes nothing, so the answer that
it settles finds the station as MUTE as the order did. -/
theorem takeOrder_leaves (number : Byte) (target : Nat) (fits : Bool) (hsub : [.orders, .link] ⊆ l) (hrun : ∀ v, Leaves l v (run v).1)
    (hrestart : kind = .restart → ∀ v, (run v).1 = v) (hbroadcast : ∀ v, Leaves l v (broadcast v)) (h : u.staysUp kind) :
    Leaves l u (takeOrder number target kind fits run broadcast u) := by
  unfold takeOrder takeTargeted
  split
  · split
    · next m hm =>
      split
      · exact (repeatAnswer_leaves m (h.mute_of_memory (Option.filter_eq_some_iff.1 hm).1)).mono hsub
      · exact .refl _ u
    · split
      · refine (hrun u).trans ((settleOrder_leaves number _ fun hkind => ?_).mono hsub)
        rw [hrestart hkind]
        exact h.mute hkind
      · exact (settleOrder_leaves number _ h.mute).mono hsub
  · split
    · split
      · exact hbroadcast u
      · exact .refl _ u
    · exact .refl _ u

/-! ### Arrivals -/

theorem arrive_leaves {a : Nat} {valid : Bool} {owner : State → State} (hsub : byHearing ⊆ l)
    (howner : Leaves l (heardState a s) (owner (heardState a s))) : Leaves l s (arrive a valid owner s) := by
  have hquiet : Leaves l s (lineQuiet s) := ((lineQuiet_leaves s).mono (by decide : _ ⊆ byHearing)).mono hsub
  cases valid with
  | false => exact hquiet
  | true =>
    by_cases hown : s.addressed = true ∧ a = s.own
    · rw [arrive_of_own a owner s hown.1 hown.2]
      exact ((ownAddressHeard_leaves s).mono (by decide : _ ⊆ byHearing)).mono hsub
    · by_cases hmode : s.ballot.mode = .start
      · rw [arrive_in_start a owner s hown hmode]
        exact hquiet.trans (((setLastSender_leaves a _).mono (by decide : _ ⊆ byHearing)).mono hsub)
      · rw [arrive_taken a owner s hown hmode]
        exact (((heardState_leaves a s).mono hsub).trans howner).trans
          (((judgeView_leaves _).mono (by decide : _ ⊆ byHearing)).mono hsub)

theorem orderArrives_leaves (number : Byte) (target extra : Nat) (fits : Bool) (hsub : .orders :: byHearing ⊆ l)
    (hrun : ∀ v, Leaves l v (run v).1) (hrestart : kind = .restart → ∀ v, (run v).1 = v)
    (hbroadcast : ∀ v, Leaves l v (broadcast v)) (h : s.staysUp kind) :
    Leaves l s (orderArrives number target extra kind fits run broadcast s) := by
  refine arrive_leaves (List.subset_of_cons_subset hsub) (takeOrder_leaves number target fits
    (List.Subset.trans (by decide : _ ⊆ Block.orders :: byHearing) hsub) hrun hrestart hbroadcast ?_)
  unfold State.staysUp
  rw [heardState_link_mute, heardState_orders]
  exact h

end

/-! ### The execution of an order -/

theorem raiseGateway_leaves (s : State) : Leaves (.orders :: byHearing) s (raiseGateway s) :=
  (raiseHold_leaves _ _ _ s).mono (by decide)

theorem liftGateway_leaves (s : State) : Leaves (.orders :: byHearing) s (liftGateway s) := (liftHold_leaves _ _ s).mono (by decide)

theorem runReclose_leaves (s : State) : Leaves (.orders :: byHearing) s (runReclose s).1 := by
  unfold runReclose
  split
  · exact (propose_leaves s).mono (by decide)
  · exact .refl _ s

theorem broadcastReclose_leaves (s : State) : Leaves (.orders :: byHearing) s (broadcastReclose s) := by
  unfold broadcastReclose
  split
  · exact (propose_leaves s).mono (by decide)
  · exact .refl _ s

theorem runClearSwitch_leaves (s : State) : Leaves (.orders :: byHearing) s (runClearSwitch s).1 := by
  unfold runClearSwitch
  split
  · exact .refl _ s
  · split
    · exact .refl _ s
    · exact (liftHold_leaves _ _ s).mono (by decide)

theorem runRelease_leaves (n : Nat) (s : State) : Leaves [.lockout, .store] s (runRelease n s).1 := by
  obtain ⟨h, -⟩ | h := runRelease_cases n s <;> rw [h]
  · exact .refl _ s
  · exact startRelease_leaves s

theorem runCommit_leaves (s : State) : Leaves [.lockout, .store, .orders] s (runCommit s).1 := by
  unfold runCommit
  split
  · exact .refl _ s
  · split
    · exact .refl _ s
    · split
      · exact .refl _ s
      · exact ((setOrders_leaves _ s).mono (by decide)).trans ((startWrite_leaves _ _).mono (by decide))

theorem runStore_leaves (page commit : Byte) (data : List Byte) (s : State) :
    Leaves [.lockout, .store, .orders] s (runStore page commit data s).1 := by
  unfold runStore
  split
  · exact .refl _ s
  · split
    · exact .refl _ s
    · next t ht =>
      obtain ⟨x, rfl, -⟩ := storePage_eq_setOrders ht
      have hstored : Leaves [.lockout, .store, .orders] s (s.setOrders x) := (setOrders_leaves x s).mono (by decide)
      split
      · exact hstored.trans (runCommit_leaves _)
      · exact hstored

/-- A STORE that does not commit starts no write. -/
theorem runStore_leaves_of_no_commit {commit : Byte} (h : commit ≠ 1#8) (page : Byte) (data : List Byte) (s : State) :
    Leaves [.orders] s (runStore page commit data s).1 := by
  unfold runStore
  split
  · exact .refl _ s
  · split
    · exact .refl _ s
    · next t ht =>
      obtain ⟨x, rfl, -⟩ := storePage_eq_setOrders ht
      exact setOrders_leaves x s

theorem runStoreArgs_leaves {args : List Byte} (h : args[1]? ≠ some 1#8) (s : State) : Leaves [.orders] s (runStoreArgs args s).1 := by
  unfold runStoreArgs
  split
  · next page commit data => exact runStore_leaves_of_no_commit (fun hcommit => h (congrArg some hcommit)) page data s
  · exact .refl _ s

theorem pausePlan_leaves (s : State) : Leaves [.plan] s (pausePlan s) := by
  unfold pausePlan
  split
  · exact .refl _ s
  · simp [leaves_iff]

theorem resumePlan_leaves (s : State) : Leaves [.plan] s (resumePlan s) := by simp [leaves_iff, resumePlan]

theorem readArrives_leaves {s : State} (number : Byte) (target : Nat) (args : List Byte) (read : Nat → Nat → State → OrderResult)
    (h : s.staysUp .read) : Leaves (.orders :: byHearing) s (readArrives number target args read s) :=
  orderArrives_leaves _ _ _ _ (List.Subset.refl _) (fun v => (setFree_leaves _ v).mono (by decide)) nofun (fun v => .refl _ v) h

end Sys2Proof.Machine

/-! Every command answers a next state, and what it leaves as it was. -/

namespace Sys2Proof.Machine

section
variable {c : Instr} {s t : State}

/-! ### The waiting commands -/

theorem Move.pending (h : Move c s t) : t.pending = s.pending := by
  cases h with
  | read => exact (readFinished_leaves s).pending
  | pausePlan => exact (pausePlan_leaves s).pending
  | expireAccessWait => exact (expireAccessWait_leaves s).pending
  | outside | resumePlan | frameStart | clearAnnounce | removeQueued => rfl
  | _ => simp

theorem Moves.pending (h : Moves c s t) : t.pending = s.pending :=
  h.keeps (P := fun u => u.pending = s.pending) (fun _ _ hmove hu => hmove.pending.trans hu) rfl

theorem exec_pending (h : exec c s = .next t) : t.pending = s.pending := by
  obtain ⟨straps, feedback, medium, rfl⟩ | hmoves := exec_started_or_moves h
  · rfl
  · exact hmoves.pending

/-! ### The blocks that a command leaves -/

/-- The command's event leaves every block but those of a list. -/
def Leaving (l : List Block) (c : Instr) (s : State) : Prop := ∃ t, exec c s = .next t ∧ Leaves l s t

theorem leaving_of_event {l : List Block} {f : State → State} (hexec : exec c s = event f s) (hsub : [.ballot, .link] ⊆ l)
    (h : Leaves l s (f s)) : Leaving l c s :=
  ⟨endEvent s (f s), hexec, h.trans ((endEvent_leaves s _).mono hsub)⟩

theorem frame_leaving (a : Nat) (b : Body) (s : State) : Leaving byHearing (b.command a) s :=
  ⟨_, exec_frame a b s, (arrive_leaves (List.Subset.refl _) (owner_leaves a s b _)).trans ((endEvent_leaves s _).mono (by decide))⟩

/-- An order that starts no station, by its kind (R160, R205). -/
theorem staysUp_of_not_restart {kind : OrderKind} (horder : (payloadOfOrder c).isSome = true) (h : ¬ startsStation c s)
    (hkind : kind ≠ .restart) : s.staysUp kind := fun hmute =>
  ⟨hkind, fun m hm hrestart => h (.inr (.inr ⟨hmute, horder, .inr ⟨m, hm, hrestart⟩⟩))⟩

theorem staysUp_of_restart {n : Byte} {a : Nat} {args : List Byte} (h : ¬ startsStation (.restart n a args) s) :
    s.staysUp .restart := fun hmute => absurd (.inr (.inr ⟨hmute, rfl, .inl ⟨n, a, args, rfl⟩⟩)) h

theorem exec_leaving (hwell : c.wellFormed = true) (h : ¬ startsStation c s) : Leaving (touches c) c s := by
  have hstays : ∀ {kind : OrderKind}, (payloadOfOrder c).isSome = true → kind ≠ .restart → s.staysUp kind :=
    fun horder hkind => staysUp_of_not_restart horder h hkind
  have hevent : ∀ {l : List Block} {f : State → State}, exec c s = event f s → [.ballot, .link] ⊆ l → Leaves l s (f s) → Leaving l c s :=
    leaving_of_event
  have horder : ∀ {l : List Block} {number target extra kind fits run} {broadcast : State → State},
      exec c s = event (orderArrives number target extra kind fits run broadcast) s → .orders :: byHearing ⊆ l →
      (∀ v, Leaves l v (run v).1) → (kind = .restart → ∀ v, (run v).1 = v) → (∀ v, Leaves l v (broadcast v)) → s.staysUp kind →
      Leaving l c s := fun hexec hsub hrun hrestart hbroadcast hup =>
    leaving_of_event hexec (List.Subset.trans (by decide : _ ⊆ Block.orders :: byHearing) hsub)
      (orderArrives_leaves _ _ _ _ hsub hrun hrestart hbroadcast hup)
  have hread : ∀ {number target args read}, exec c s = event (readArrives number target args read) s → s.staysUp .read →
      Leaving (.orders :: byHearing) c s := fun hexec hup => leaving_of_event hexec (by decide) (readArrives_leaves _ _ _ _ hup)
  have hnone : ∀ {l : List Block} v, Leaves l v (noBroadcast v) := fun v => .refl _ v
  have hall : Block.orders :: byHearing ⊆ Block.orders :: byHearing := List.Subset.refl _
  cases c with
  | supplyStart straps feedback medium => exact absurd (.inl ⟨straps, feedback, medium, rfl⟩) h
  | storeReadCompletion => exact hevent rfl (by decide) (completeRead_leaves s)
  | sweepTimerExpiry => exact hevent rfl (by decide) ((expireSweepTimer_leaves s).mono (m := .sweep :: .plan :: atEventEnd) (by decide))
  | sweepCompletion r =>
    exact hevent (l := [.startup, .sweep, .monitors, .holds, .roster, .ballot, .plan, .switch, .lockout, .store, .link]) rfl (by decide)
      (completeSweep_leaves r s)
  | tallyTimerExpiry => exact hevent rfl (by decide) (expireTallyTimer_leaves s)
  | settleTimerExpiry => exact hevent rfl (by decide) (expireSettleTimer_leaves s)
  | proposalTimerExpiry => exact hevent rfl (by decide) (expireProposalTimer_leaves s)
  | pledgeTimerExpiry => exact hevent rfl (by decide) (expirePledgeTimer_leaves s)
  | confirmTimerExpiry => exact hevent rfl (by decide) (expireConfirmTimer_leaves s)
  | settleCheckExpiry => exact hevent rfl (by decide) (expireCheck_leaves s)
  | feedbackChange x => exact hevent (l := .pins :: .switch :: atEventEnd) rfl (by decide) ((changeFeedback_leaves x s).mono (by decide))
  | accessWaitExpiry => exact hevent rfl (by decide) ((expireAccessWait_leaves s).mono (m := atEventEnd) (by decide))
  | frameStart => exact hevent rfl (by decide) ((setLink_leaves _ s).mono (m := atEventEnd) (by decide))
  | sendCompletion => exact hevent rfl (by decide) (completeSend_leaves fun x hx =>
      Bool.eq_false_of_not_eq_true fun hrestart => h (.inr (.inl ⟨rfl, x, hx, hrestart⟩)))
  | sendAbort => exact hevent rfl (by decide) (abortSend_leaves s)
  | discardedFrame => exact hevent rfl (by decide) ((lineQuiet_leaves s).mono (m := atEventEnd) (by decide))
  | duplicateFrame => exact hevent rfl (by decide) (takeDuplicate_leaves s)
  | tally a x => exact frame_leaving a (.tally x) s
  | announce a d => exact frame_leaving a (.announce d) s
  | hold a n k i d => exact frame_leaving a (.hold n k i d) s
  | lift a n => exact frame_leaving a (.lift n) s
  | propose a b n d => exact frame_leaving a (.propose b n d) s
  | assent a b => exact frame_leaving a (.assent b) s
  | demur a b r => exact frame_leaving a (.demur b r) s
  | commit a b => exact frame_leaving a (.commit b) s
  | withdraw a b => exact frame_leaving a (.withdraw b) s
  | answer a p => exact frame_leaving a (.answer p) s
  | activeWriteCompletion o =>
    exact hevent (l := .lockout :: .store :: atEventEnd) rfl (by decide) ((completeActive_leaves o s).mono (by decide))
  | releaseWriteCompletion o =>
    exact hevent (l := [.lockout, .store, .holds, .orders, .ballot, .switch, .link]) rfl (by decide)
      (completeRelease_leaves o s)
  | configWriteCompletion o =>
    exact hevent (l := .lockout :: .store :: .orders :: atEventEnd) rfl (by decide) ((completeConfig_leaves o s).mono (by decide))
  | orderOpen n a args => exact horder rfl hall raiseGateway_leaves nofun raiseGateway_leaves (hstays rfl (by decide))
  | orderFree n a args => exact horder rfl hall liftGateway_leaves nofun liftGateway_leaves (hstays rfl (by decide))
  | reclose n a args => exact horder rfl hall runReclose_leaves nofun broadcastReclose_leaves (hstays rfl (by decide))
  | release n a args =>
    exact horder (l := .lockout :: .store :: .orders :: byHearing) rfl (by decide)
      (fun v => (runRelease_leaves _ v).mono (by decide)) nofun hnone (hstays rfl (by decide))
  | clearSwitch n a args => exact horder rfl hall runClearSwitch_leaves nofun hnone (hstays rfl (by decide))
  | store n a args =>
    obtain ⟨-, hcommit⟩ := Bool.and_eq_true_iff.1 hwell
    exact horder (l := .orders :: byHearing) rfl hall (fun v => (runStoreArgs_leaves (of_decide_eq_true hcommit) v).mono (by decide)) nofun hnone
      (hstays rfl (by decide))
  | storeCommit n a page data =>
    exact horder (l := .lockout :: .store :: .orders :: byHearing) rfl (by decide)
      (fun v => (runStore_leaves page 1#8 data v).mono (by decide)) nofun hnone (hstays rfl (by decide))
  | pauseBleed n a args =>
    have hpause : ∀ v, Leaves (.plan :: .orders :: byHearing) v (pausePlan v) := fun v => (pausePlan_leaves v).mono (by decide)
    exact horder (l := .plan :: .orders :: byHearing) rfl (by decide) hpause nofun hpause (hstays rfl (by decide))
  | resumeBleed n a args =>
    have hresume : ∀ v, Leaves (.plan :: .orders :: byHearing) v (resumePlan v) := fun v => (resumePlan_leaves v).mono (by decide)
    exact horder (l := .plan :: .orders :: byHearing) rfl (by decide) hresume nofun hresume (hstays rfl (by decide))
  | restart n a args => exact horder rfl hall (fun v => .refl _ v) (fun _ _ => rfl) hnone (staysUp_of_restart h)
  | readIdentity n a args => exact hread rfl (hstays rfl (by decide))
  | readSamples n a args => exact hread rfl (hstays rfl (by decide))
  | readMonitor n a args => exact hread rfl (hstays rfl (by decide))
  | readOwnHolds n a args => exact hread rfl (hstays rfl (by decide))
  | readRemoteHolds n a args => exact hread rfl (hstays rfl (by decide))
  | readRoster n a args => exact hread rfl (hstays rfl (by decide))
  | readBleed n a args => exact hread rfl (hstays rfl (by decide))
  | readBallot n a args => exact hread rfl (hstays rfl (by decide))
  | readLockout n a args => exact hread rfl (hstays rfl (by decide))
  | readConfig n a args => exact hread rfl (hstays rfl (by decide))
  | orderOfUnknownKind n a kind args => exact horder rfl hall (fun v => .refl _ v) nofun hnone (hstays rfl nofun)
  | readOfUnknownRecord n a args => exact horder rfl hall (fun v => .refl _ v) nofun hnone (hstays rfl (by decide))
  -- RECALL, whose constructor bears the name of a Mathlib command
  | _ => exact frame_leaving _ (.recall _) s

end

/-- Settles O3: every command ends its event, a start of the station and every part of another event keep the waiting commands, and
a command that starts no station changes the blocks that its operations change. -/
theorem everyCommandAnswersNext : Obligations.EveryCommandAnswersNext := by
  unfold Obligations.EveryCommandAnswersNext
  intro c s
  obtain ⟨v, hexec⟩ := exec_ends c s
  refine ⟨_, hexec, exec_pending hexec, fun hwell hstart b hb => ?_⟩
  obtain ⟨t, ht, hleaves⟩ := exec_leaving hwell hstart
  obtain rfl : endEvent s v = t := Host.Outcome.next.inj (hexec.symm.trans ht)
  exact hleaves.same b hb

end Sys2Proof.Machine
